-- ==== Sys2Proof/Word.lean ====
section
/-!
DEFINITION. The word types of the NV-4810: a register is 32 bits (spec/15_register_map.md R391), a submission
entry or an endpoint context 256 bits (spec/02_queue_pairs_and_doorbells.md R56), and the numbers of its units.
-/

namespace Sys2Proof

/-- One register dword. -/
abbrev Word := BitVec 32

/-- One byte. -/
abbrev Byte := BitVec 8

/-- A submission entry or an endpoint context, dword 0 in bits [31:0] (R56, R132). -/
abbrev Entry := BitVec 256

/-- A root port and its Husk channel (R23). -/
abbrev PortId := Fin 48

/-- A queue pair (R56). -/
abbrev QpId := Fin 64

/-- A slice (R269). -/
abbrev SliceId := Fin 32

/-- A Transfer Engine (R128). -/
abbrev EngId := Fin 16

/-- A Data Mover channel (R290). -/
abbrev ChId := Fin 32

/-- A Data Mover engine (R290). -/
abbrev DmId := Fin 4

/-- A capture FIFO (R316). -/
abbrev CfId := Fin 4

/-- A region and its power die (R248). -/
abbrev RegId := Fin 4

/-- A Pod (R23). -/
abbrev PodId := Fin 12

/-- A power domain (R330). -/
abbrev DomId := Fin 20

end Sys2Proof
end

