-- ==== Sys2Proof/Syntax.lean ====
section
/-!
DEFINITION. The commands of the block: one constructor per row of spec/opcode_table.json, in its order, and the
types of their operands. The table gives the rows no bits; the operands are the model's (log entry 4).
-/

namespace Sys2Proof

/-- The access source a request arrives through (spec/01_device_organisation.md R44). -/
inductive Source where
  | bar0
  | win (s : SliceId)
  | smbus
  | mc
  deriving DecidableEq, Repr

/-- The straps at the rising edge of POR_N, the OTP debug fuse, and which straps changed inside their window
(spec/16_pins_and_electrical.md R413): bits 0-2 SMB_ADDR, 3 DEBUG_EN, 4 BOOT_HOLD. -/
structure Straps where
  pins : BitVec 5
  unstable : BitVec 5
  debugFuse : Bool
  deriving DecidableEq, Repr

/-- What a ring read returned: the entries read, and whether the read of the entry after them failed
(spec/02_queue_pairs_and_doorbells.md R71, R76). -/
structure FetchResult where
  entries : List Entry
  failed : Bool
  deriving DecidableEq, Repr

/-- What a device-table and context read returned (spec/04_transfer_engines_and_endpoints.md R131, R134): a failed read,
an entry with VALID 0, or bits [63:10] of the entry and the context. -/
inductive CtxResult where
  | failed
  | notValid
  | ok (block : BitVec 54) (ctx : Entry)
  deriving DecidableEq, Repr

/-- What came back in a transaction (spec/04_transfer_engines_and_endpoints.md R152): a handshake, a data packet
with its PID (0 DATA0, 1 DATA1, 2 DATA2, 3 MDATA) and length, or a failure. `sent` ends a transaction that expects
no response. -/
inductive Resp where
  | ack
  | nak
  | nyet
  | stall
  | ttErr
  | data (pid : Fin 4) (len : Nat)
  | crcErr (len : Nat)
  | badPid
  | sent
  deriving DecidableEq, Repr

/-- A frame clock: a port's, or REF (spec/06_frame_timing.md R192, R206). -/
inductive ClkId where
  | port (p : PortId)
  | ref
  deriving DecidableEq, Repr

/-- V_OUT against V_F at TRAMP (spec/07_husk_power_path.md R226). -/
inductive VoutClass where
  | below90
  | from90to95
  | above95
  deriving DecidableEq, Repr

/-- One probe reading: V_OUT at the end in mV, its change over the interval in mV, whether it stood at or above
3.00 V over the second half, the mean source current of the second half in microamperes, and whether an attach
step fell in the interval (spec/07_husk_power_path.md R239). -/
structure ProbeReading where
  mV : Nat
  change : Nat
  high : Bool
  uA : Nat
  step : Bool
  deriving DecidableEq, Repr

/-- A fault of the connected feed (spec/08_regions_feeds_budgets.md R250). -/
inductive FeedFault where
  | under
  | reverse
  | over
  deriving DecidableEq, Repr

/-- A level of the current budgets (spec/08_regions_feeds_budgets.md R256). -/
inductive Level where
  | pod (k : PodId)
  | region (m : RegId)
  | package
  | system
  deriving DecidableEq, Repr

/-- A thermal level (spec/08_regions_feeds_budgets.md R260). -/
inductive ThermLevel where
  | pod (k : PodId)
  | package
  deriving DecidableEq, Repr

/-- A slice quota (spec/09_slices.md R274). -/
inductive QuotaKind where
  | wis
  | park
  | gran
  deriving DecidableEq, Repr

/-- The settings sectors, by their place in the ring, whose erase or program does not verify, in the order in which they
fail (spec/13_firmware_and_settings.md R370). -/
structure StoreOutcome where
  fails : List (Fin 16)
  deriving DecidableEq, Repr

/-- Whether the INVALID entry and the erases of UPD_BEGIN verify (spec/13_firmware_and_settings.md R357). -/
structure BeginOutcome where
  entry : Bool
  erase : Bool
  deriving DecidableEq, Repr

/-- TAG of UPD_ACTIVATE, and whether its TRIAL entry will verify (spec/13_firmware_and_settings.md R357, R359). -/
structure ActivateCmd where
  tag : BitVec 16
  trialOk : Bool
  deriving DecidableEq, Repr

/-- Whether the CONFIRM_START entry, the fuses and the CONFIRMED entry of UPD_CONFIRM verify
(spec/13_firmware_and_settings.md R357, R363). -/
structure ConfirmOutcome where
  start : Bool
  burn : Bool
  done : Bool
  deriving DecidableEq, Repr

/-- The structures of spec/14_attention_and_errors.md R385, by ID 0x01 to 0x0E. -/
inductive EccStruct where
  | wis
  | flowTable
  | park
  | ctxCache
  | ebr
  | pushBuffer
  | engine
  | pram
  | dmChannel
  | captureFifo
  | saveRam
  | mcSram
  | frameTimer
  | fabric
  deriving DecidableEq, Repr

/-- What a scrubber read found (spec/14_attention_and_errors.md R383). -/
inductive ScrubResult where
  | clean
  | corrected
  | uncorrectable (live : Bool)
  deriving DecidableEq, Repr

/-- A level that sheds (spec/08_regions_feeds_budgets.md R260): the budgets of a Pod, a region, the package and the system,
and the thermal limits of a Pod and of the package. -/
inductive ShedLevel where
  | pod (k : PodId)
  | podT (k : PodId)
  | region (m : RegId)
  | package
  | system
  | therm
  deriving DecidableEq, Repr

/-- One millisecond of readings (spec/08_regions_feeds_budgets.md R255, spec/07_husk_power_path.md R244): per
channel output current in mA, largest 1 us mean in mA, output voltage in mV and diode temperature; per region bus
voltage, current, feed A and feed B voltage and junction; the control-die junction; and what the word-clock pins showed,
in mHz and 0 for an absent clock (spec/06_frame_timing.md R212). -/
structure Readings where
  cur : List Nat
  peak : List Nat
  vout : List Nat
  diode : List Int
  bus : List Nat
  regCur : List Nat
  feedA : List Nat
  feedB : List Nat
  die : List Int
  ctlDie : Int
  awclk : List Nat
  deriving DecidableEq, Repr

/-- A register of configuration space, or an entry of the MSI-X table, whose contents the rules give
(spec/00_scope.md R5); `other` is any other one. -/
inductive ConfigReg where
  | linkStatus
  | powerState
  | msixControl
  | pasidControl
  | aerStatus
  | aerMask
  | aerSeverity
  | errorControl
  | bar (n : Fin 6)
  | expansionRom
  | pendingBits
  | vector (v : Fin 33)
  | other
  deriving DecidableEq, Repr

/-- Link widths and speed codes the endpoint trains to (spec/00_scope.md R5). -/
inductive LinkWidth where
  | x1
  | x2
  | x4
  deriving DecidableEq, Repr

/-- A PCIe configuration request the rules act on (spec/16_pins_and_electrical.md R419,
spec/12_power_domains.md R334, spec/14_attention_and_errors.md R375, spec/00_scope.md R5). `elapsed` ends the training of
the link, at the width and speed code reached, and the 100 ms after reset. -/
inductive ConfigReq where
  | elapsed (width : LinkWidth) (speed : Fin 4)
  | powerState (d3hot : Bool)
  | msix (enable : Bool) (functionMask : Bool)
  | vectorMask (v : Fin 33) (masked : Bool)
  | vectorEntry (v : Fin 33) (addr : BitVec 64) (data : Word)
  | pasid (enable : Bool)
  | aerMask (masked : Bool)
  | aerSeverity (fatal : Bool)
  | errorControl (nonFatal fatal : Bool)
  | bar (n : Fin 6) (v : Word)
  | aerClear
  | read (r : ConfigReg)
  deriving DecidableEq, Repr

/-- A register access that the debug port's shifted bits spell, in a form of the vendor's
(spec/09_slices.md R278, log entry 12). -/
structure DebugAccess where
  write : Bool
  ofs : Nat
  size : Nat
  v : BitVec 64
  deriving DecidableEq, Repr

/-- What TDI brings at an edge of TCK: the bit, and the register access that the bits shifted by then spell
(spec/16_pins_and_electrical.md R429, log entry 12). -/
structure TdiBit where
  bit : Bool
  access : Option DebugAccess
  deriving DecidableEq, Repr

/-- What the host sends of an SMBus transaction before its data (spec/15_register_map.md R400): address, command code, count,
and whether a PEC is exchanged. -/
structure SmbHead where
  addr : BitVec 7
  code : Byte
  count : Nat
  pec : Bool
  deriving DecidableEq, Repr

/-- A temperature that may trip a channel: the diode's in °C, or the thermal model's, which State holds
(spec/07_husk_power_path.md R235). -/
structure TempSample where
  model : Bool
  temp : Int
  deriving DecidableEq, Repr

/-- One microsecond of a channel: mean current in mA that its load would take, and V_DS in mV
(spec/07_husk_power_path.md R225, R231). -/
structure FetSample where
  mA : Nat
  vds : Nat
  deriving DecidableEq, Repr

/-- A feed that has become good (feed A is false), and the voltage in mV of the connected feed at that moment
(spec/08_regions_feeds_budgets.md R249, R251). -/
structure FeedSense where
  feed : Bool
  connMv : Nat
  deriving DecidableEq, Repr

/-- A feed that has stopped being good (feed A is false), and whether it stands below 4.00 V
(spec/08_regions_feeds_budgets.md R249, R264). -/
structure FeedFall where
  feed : Bool
  below4 : Bool
  deriving DecidableEq, Repr

/-- A port's line state (spec/05_root_ports.md R191, STATUS.LINE). -/
inductive Line where
  | se0
  | j
  | k
  | se1
  deriving DecidableEq, Repr

/-- The commands. -/
inductive Instr where
  /-- POWER_ON_RESET (spec rule R52). -/
  | powerOnReset (straps : Straps)
  /-- PERST_N_ASSERT (spec rule R438). -/
  | perstNAssert
  /-- PERST_N_RELEASE (spec rule R419). -/
  | perstNRelease
  /-- PCIE_HOT_RESET (spec rule R438). -/
  | pcieHotReset
  /-- DEV_RESET (spec rule R388). -/
  | devReset (src : Source)
  /-- CONTROL_DIE_RESET_RELEASE (spec rule R438). -/
  | controlDieResetRelease
  /-- ROOT_PLL_LOCK (spec rule R34). -/
  | rootPllLock
  /-- PLL_LOST (spec rule R404). -/
  | pllLost
  /-- POWER_DIE_RESET_FRAME (spec rule R439). -/
  | powerDieResetFrame (m : RegId)
  /-- CONTROL_DIE_THERMAL_SHUTDOWN (spec rule R27). -/
  | controlDieThermalShutdown
  /-- CONTROL_DIE_COOLED (spec rule R27). -/
  | controlDieCooled
  /-- DIE_HOT (spec rule R26). -/
  | dieHot (m : RegId)
  /-- POWER_DIE_COOLED (spec rule R26). -/
  | powerDieCooled (m : RegId)
  /-- REGION_LINK_FRAME (spec rule R20). -/
  | regionLinkFrame (m : RegId) (crcOk : Bool)
  /-- REGION_LINK_LOST (spec rule R21). -/
  | regionLinkLost (m : RegId)
  /-- WRITE_BACK_DONE (spec rule R252). -/
  | writeBackDone (m : RegId)
  /-- CLAIM_REBUILD (spec rule R259). -/
  | claimRebuild
  /-- AON_XTAL_REQUEST (spec rule R405). -/
  | aonXtalRequest (src : Source) (v : Word)
  /-- XTAL_QUAL_DONE (spec rule R36). -/
  | xtalQualDone (rcCount : BitVec 13)
  /-- XTAL_STOP (spec rule R36). -/
  | xtalStop
  /-- MC_CLK_SELECT (spec rule R405). -/
  | mcClkSelect (src : Source) (v : Word)
  /-- MMIO_WRITE (spec rule R44). -/
  | mmioWrite (src : Source) (ofs : Nat) (size : Nat) (v : BitVec 64) (parityErr : Bool)
  /-- FENCE_READ (spec rule R45). -/
  | fenceRead (src : Source)
  /-- LOW_DWORD_LATCH (spec rule R397). -/
  | lowDwordLatch (src : Source) (ofs : Nat) (size : Nat) (parityErr : Bool)
  /-- CAUSE_SET_WRITE (spec rule R395). -/
  | causeSetWrite (src : Source) (page : Fin 512) (v : Word)
  /-- SQ_DB_WRITE (spec rule R62). -/
  | sqDbWrite (via : Source) (q : QpId) (v : Word)
  /-- CQ_DB_WRITE (spec rule R63). -/
  | cqDbWrite (via : Source) (q : QpId) (v : Word)
  /-- PUSH_WRITE (spec rule R78). -/
  | pushWrite (via : Source) (q : QpId) (ofs : Nat) (size : Nat) (data : BitVec 512)
  /-- PUSH_BUFFER_STORE (spec rule R79). -/
  | pushBufferStore (q : QpId)
  /-- QP_ENABLE (spec rule R59). -/
  | qpEnable (src : Source) (q : QpId) (v : Word)
  /-- QP_DISABLE (spec rule R97). -/
  | qpDisable (src : Source) (q : QpId) (v : Word)
  /-- EVENT_Q_SET (spec rule R90). -/
  | eventQSet (src : Source) (q : QpId) (v : Word)
  /-- FETCH_VISIT (spec rule R74). -/
  | fetchVisit
  /-- RING_FETCH_DONE (spec rule R71). -/
  | ringFetchDone (q : QpId) (res : FetchResult)
  /-- STAGED_ENTRY_STORE (spec rule R120). -/
  | stagedEntryStore (q : QpId)
  /-- EVENT_COMMIT (spec rule R91). -/
  | eventCommit (page : Fin 512)
  /-- PARK_WRITE (spec rule R93). -/
  | parkWrite (q : QpId)
  /-- MIRROR_WRITE (spec rule R84). -/
  | mirrorWrite (q : QpId)
  /-- COAL_COUNT_REACHED (spec rule R440). -/
  | coalCountReached (q : QpId)
  /-- COAL_TIMER_EXPIRY (spec rule R440). -/
  | coalTimerExpiry (q : QpId)
  /-- PERIODIC_RELEASE (spec rule R116). -/
  | periodicRelease (id : Nat)
  /-- PIP_PLACEMENT (spec rule R110). -/
  | pipPlacement
  /-- ENGINE_TAKE (spec rule R111). -/
  | engineTake (e : EngId)
  /-- PIP_RECALL (spec rule R112). -/
  | pipRecall (e : EngId)
  /-- RETIRE_LIST_SERVICE (spec rule R113). -/
  | retireListService
  /-- SERVICE_CUTOFF (spec rule R116). -/
  | serviceCutoff (p : PortId)
  /-- AGE_PROMOTION (spec rule R108). -/
  | agePromotion (id : Nat)
  /-- AGE_GUARD (spec rule R108). -/
  | ageGuard (id : Nat)
  /-- COUNTER_WINDOW_END (spec rule R126). -/
  | counterWindowEnd
  /-- HIST_CLR (spec rule R127). -/
  | histClr (src : Source)
  /-- PEAK_CLR (spec rule R127). -/
  | peakClr (src : Source)
  /-- SCHED_CNT_CLR (spec rule R127). -/
  | schedCntClr (src : Source)
  /-- PF_WIS_QUOTA_WRITE (spec rule R118). -/
  | pfWisQuotaWrite (src : Source) (v : Word)
  /-- CONTEXT_READ_DONE (spec rule R134). -/
  | contextReadDone (id : Nat) (res : CtxResult)
  /-- CTX_FLUSH (spec rule R133). -/
  | ctxFlush (src : Source)
  /-- TE_CNT_CLR (spec rule R161). -/
  | teCntClr (src : Source)
  /-- CONTROL (spec rule R145). -/
  | control (id : Nat)
  /-- BULK_OUT (spec rule R146). -/
  | bulkOut (id : Nat)
  /-- BULK_IN (spec rule R146). -/
  | bulkIn (id : Nat)
  /-- INTR_OUT (spec rule R147). -/
  | intrOut (id : Nat)
  /-- INTR_IN (spec rule R147). -/
  | intrIn (id : Nat)
  /-- ISOC_OUT (spec rule R148). -/
  | isocOut (id : Nat)
  /-- ISOC_IN (spec rule R148). -/
  | isocIn (id : Nat)
  /-- EP_OPEN (spec rule R136). -/
  | epOpen (id : Nat)
  /-- EP_CLOSE (spec rule R140). -/
  | epClose (id : Nat)
  /-- EP_RESET_TOGGLE (spec rule R157). -/
  | epResetToggle (id : Nat)
  /-- EP_CLEAR_HALT (spec rule R153). -/
  | epClearHalt (id : Nat)
  /-- PORT_RESET (spec rule R170). -/
  | portReset (id : Nat)
  /-- PORT_SUSPEND (spec rule R174). -/
  | portSuspend (id : Nat)
  /-- PORT_RESUME (spec rule R175). -/
  | portResume (id : Nat)
  /-- PORT_POWER_REQ (spec rule R224). -/
  | portPowerReq (id : Nat)
  /-- NOP (spec rule R68). -/
  | nop (id : Nat)
  /-- FENCE_MARK (spec rule R68). -/
  | fenceMark (id : Nat)
  /-- TRANSACTION_START (spec rule R129). -/
  | transactionStart (p : PortId)
  /-- TRANSACTION_END (spec rule R130). -/
  | transactionEnd (p : PortId) (r : Resp)
  /-- RESPONSE_TIMEOUT (spec rule R184). -/
  | responseTimeout (p : PortId)
  /-- NAK_GAP_EXPIRY (spec rule R129). -/
  | nakGapExpiry (id : Nat)
  /-- XFER_TIMEOUT (spec rule R155). -/
  | xferTimeout (id : Nat)
  /-- INTR_NAK_LIMIT (spec rule R147). -/
  | intrNakLimit (id : Nat)
  /-- HOST_DATA_READ_DONE (spec rule R156). -/
  | hostDataReadDone (id : Nat) (ok : Bool)
  /-- POOL_GRANULE_GRANT (spec rule R143). -/
  | poolGranuleGrant (id : Nat)
  /-- POOL_MIN_WRITE (spec rule R142). -/
  | poolMinWrite (src : Source) (v : Word)
  /-- EBR_CNT_CLR (spec rule R162). -/
  | ebrCntClr (src : Source)
  /-- ATTACH_QUALIFIED (spec rule R167). -/
  | attachQualified (p : PortId)
  /-- DETACH_DETECTED (spec rule R168). -/
  | detachDetected (p : PortId)
  /-- RESET_START (spec rule R170). -/
  | resetStart (p : PortId)
  /-- CHIRP_K_QUALIFIED (spec rule R171). -/
  | chirpKQualified (p : PortId)
  /-- CHIRP_K_END (spec rule R171). -/
  | chirpKEnd (p : PortId) (before7ms : Bool)
  /-- CHIRP_SEQUENCE_END (spec rule R171). -/
  | chirpSequenceEnd (p : PortId) (pairs : Nat)
  /-- RESET_END (spec rule R171). -/
  | resetEnd (p : PortId)
  /-- RECOVERY_END (spec rule R172). -/
  | recoveryEnd (p : PortId)
  /-- SUSPEND_DRAIN_DONE (spec rule R174). -/
  | suspendDrainDone (p : PortId)
  /-- SUSPEND_IDLE_END (spec rule R174). -/
  | suspendIdleEnd (p : PortId)
  /-- SUSPEND_TIMEOUT (spec rule R174). -/
  | suspendTimeout (p : PortId)
  /-- RESUME_K_END (spec rule R175). -/
  | resumeKEnd (p : PortId)
  /-- REMOTE_WAKE (spec rule R176). -/
  | remoteWake (p : PortId)
  /-- BABBLE_CUTOFF (spec rule R180). -/
  | babbleCutoff (p : PortId)
  /-- PORT_DISABLE (spec rule R182). -/
  | portDisable (src : Source) (p : PortId)
  /-- PORT_CNT_CLR (spec rule R191). -/
  | portCntClr (src : Source) (p : PortId)
  /-- LED_PULSE_END (spec rule R191). -/
  | ledPulseEnd (p : PortId)
  /-- CHG_ROLE_WRITE (spec rule R186). -/
  | chgRoleWrite (src : Source) (p : PortId) (v : Word)
  /-- CDP_DPLUS_HIGH (spec rule R186). -/
  | cdpDplusHigh (p : PortId)
  /-- CDP_DPLUS_LOW (spec rule R186). -/
  | cdpDplusLow (p : PortId)
  /-- TEST_MODE_WRITE (spec rule R187). -/
  | testModeWrite (src : Source) (p : PortId) (v : Word)
  /-- MICROFRAME_BOUNDARY (spec rule R192). -/
  | microframeBoundary (k : ClkId) (envelope : Bool)
  /-- SOF_SRC_WRITE (spec rule R198). -/
  | sofSrcWrite (src : Source) (p : PortId) (v : Word)
  /-- SOF_RATIO_WRITE (spec rule R198). -/
  | sofRatioWrite (src : Source) (p : PortId) (v : Word)
  /-- SOF_TRIM_WRITE (spec rule R205). -/
  | sofTrimWrite (src : Source) (p : PortId) (v : Word)
  /-- REF_SRC_WRITE (spec rule R206). -/
  | refSrcWrite (src : Source) (ratio : Bool) (v : Word)
  /-- SYNC_WRITE (spec rule R207). -/
  | syncWrite (src : Source) (v : Word)
  /-- PHASE_COMPARISON (spec rule R199). -/
  | phaseComparison (k : ClkId) (ago : Nat)
  /-- FREQ_PRESET (spec rule R202). -/
  | freqPreset (k : ClkId)
  /-- PHASE_SLEW_DONE (spec rule R202). -/
  | phaseSlewDone (k : ClkId)
  /-- LOCK_ACQUIRED (spec rule R201). -/
  | lockAcquired (k : ClkId)
  /-- LOCK_LOST (spec rule R201). -/
  | lockLost (k : ClkId)
  /-- REF_LOST (spec rule R200). -/
  | refLost (k : ClkId)
  /-- REF_RECOVERED (spec rule R200). -/
  | refRecovered (k : ClkId)
  /-- PPS_EDGE (spec rule R212). -/
  | ppsEdge
  /-- FSYNC_IN_EDGE (spec rule R208). -/
  | fsyncInEdge (wide : Bool) (ago : Nat)
  /-- DTIME_SET (spec rule R211). -/
  | dtimeSet (src : Source) (v : Word)
  /-- EST_CLR (spec rule R218). -/
  | estClr (src : Source)
  /-- HUSK_ON (spec rule R222). -/
  | huskOn (src : Source) (n : PortId)
  /-- HUSK_OFF (spec rule R240). -/
  | huskOff (src : Source) (n : PortId)
  /-- HUSK_APPLY (spec rule R232). -/
  | huskApply (src : Source) (n : PortId)
  /-- HUSK_CNT_CLR (spec rule R247). -/
  | huskCntClr (src : Source) (n : PortId)
  /-- ILIM_WRITE (spec rule R223). -/
  | ilimWrite (src : Source) (n : PortId) (v : Word)
  /-- FAST_WRITE (spec rule R232). -/
  | fastWrite (src : Source) (n : PortId) (v : Word)
  /-- ATTEMPT_START (spec rule R237). -/
  | attemptStart (n : PortId)
  /-- RAMP_VOUT_95 (spec rule R227). -/
  | rampVout95 (n : PortId)
  /-- GATE_ENHANCED (spec rule R227). -/
  | gateEnhanced (n : PortId)
  /-- TRAMP_EXPIRY (spec rule R226). -/
  | trampExpiry (n : PortId) (vout : VoutClass)
  /-- RAMP_RELEASE_EXPIRY (spec rule R226). -/
  | rampReleaseExpiry (n : PortId)
  /-- SETTLE_DIP (spec rule R221). -/
  | settleDip (n : PortId)
  /-- PG_DLY_EXPIRY (spec rule R230). -/
  | pgDlyExpiry (n : PortId)
  /-- PG_TIMEOUT (spec rule R230). -/
  | pgTimeout (n : PortId)
  /-- BREAKER_TRIP (spec rule R231). -/
  | breakerTrip (n : PortId)
  /-- FAST_TRIP (spec rule R234). -/
  | fastTrip (n : PortId)
  /-- TEMP_TRIP (spec rule R235). -/
  | tempTrip (n : PortId) (r : TempSample)
  /-- TEMP_WARN (spec rule R235). -/
  | tempWarn (n : PortId) (model : Bool) (temp : Int)
  /-- TEMP_WARN_CLEAR (spec rule R235). -/
  | tempWarnClear (n : PortId)
  /-- RETRY_OFF_END (spec rule R237). -/
  | retryOffEnd (n : PortId)
  /-- ON_HOLD_10S (spec rule R238). -/
  | onHold10s (n : PortId)
  /-- PROBE_CONNECT (spec rule R239). -/
  | probeConnect (n : PortId)
  /-- PROBE_READING (spec rule R239). -/
  | probeReading (n : PortId) (r : ProbeReading)
  /-- PROBE_ATTACH_STEP (spec rule R239). -/
  | probeAttachStep (n : PortId)
  /-- FEED_GOOD (spec rule R249). -/
  | feedGood (m : RegId) (f : FeedSense)
  /-- FEED_NOT_GOOD (spec rule R249). -/
  | feedNotGood (m : RegId) (f : FeedFall)
  /-- FEED_FAULT (spec rule R250). -/
  | feedFault (m : RegId) (kind : FeedFault)
  /-- DEAD_TIME_END (spec rule R251). -/
  | deadTimeEnd (m : RegId)
  /-- FEED_LOST (spec rule R251). -/
  | feedLost (m : RegId)
  /-- POWER_DIE_RESTART (spec rule R441). -/
  | powerDieRestart (m : RegId)
  /-- FEED_REVERT (spec rule R253). -/
  | feedRevert (m : RegId)
  /-- FEED_SWITCH_REQ (spec rule R253). -/
  | feedSwitchReq (src : Source) (m : RegId)
  /-- FEED_WRITE (spec rule R253). -/
  | feedWrite (src : Source) (m : RegId) (v : Word)
  /-- REGION_CNT_CLR (spec rule R266). -/
  | regionCntClr (src : Source) (m : RegId)
  /-- BUDGET_WRITE (spec rule R258). -/
  | budgetWrite (src : Source) (level : Level) (v : Word)
  /-- SHED_TIMER_EXPIRY (spec rule R261). -/
  | shedTimerExpiry (level : Level)
  /-- THERMAL_SHED (spec rule R261). -/
  | thermalShed (level : ThermLevel)
  /-- SHED_GAP_EXPIRY (spec rule R261). -/
  | shedGapExpiry
  /-- THERM_WARN (spec rule R263). -/
  | thermWarn (die : Fin 5) (temp : Int)
  /-- SLICE_CREATE (spec rule R273). -/
  | sliceCreate (src : Source) (s : SliceId)
  /-- SLICE_RESET (spec rule R284). -/
  | sliceReset (src : Source) (s : SliceId)
  /-- SLICE_REMOVE (spec rule R286). -/
  | sliceRemove (src : Source) (s : SliceId)
  /-- SLICE_DRAINED (spec rule R283). -/
  | sliceDrained (s : SliceId)
  /-- WINDOW_WRITE (spec rule R281). -/
  | windowWrite (s : SliceId) (ofs : Nat) (size : Nat) (v : BitVec 64)
  /-- SLICE_QUOTA_WRITE (spec rule R274). -/
  | sliceQuotaWrite (src : Source) (s : SliceId) (which : QuotaKind) (v : Word)
  /-- PWR_MASK_WRITE (spec rule R275). -/
  | pwrMaskWrite (src : Source) (s : SliceId) (high : Bool) (v : Word)
  /-- DM_GO (spec rule R293). -/
  | dmGo (src : Source) (c : ChId)
  /-- DM_STOP (spec rule R310). -/
  | dmStop (src : Source) (c : ChId)
  /-- DMCH_CNT_CLR (spec rule R315). -/
  | dmchCntClr (src : Source) (c : ChId)
  /-- DM_CHANNEL_CHOSEN (spec rule R294). -/
  | dmChannelChosen (e : DmId)
  /-- DM_COUNT_DONE (spec rule R312). -/
  | dmCountDone (c : ChId)
  /-- DM_INSTRUCTION_FETCH (spec rule R305). -/
  | dmInstructionFetch (c : ChId) (res : Option (BitVec 128))
  /-- DM_MOVE (spec rule R301). -/
  | dmMove (c : ChId) (data : List (BitVec 64))
  /-- DM_MOVE_DONE (spec rule R309). -/
  | dmMoveDone (c : ChId)
  /-- DM_LOOP (spec rule R302). -/
  | dmLoop (c : ChId)
  /-- DM_WAIT (spec rule R303). -/
  | dmWait (c : ChId)
  /-- DM_WAIT_SATISFIED (spec rule R303). -/
  | dmWaitSatisfied (c : ChId)
  /-- DM_SIGNAL (spec rule R304). -/
  | dmSignal (c : ChId)
  /-- DM_END (spec rule R305). -/
  | dmEnd (c : ChId)
  /-- DM_WAIT_TIMEOUT (spec rule R311). -/
  | dmWaitTimeout (c : ChId)
  /-- DM_RUN_LIMIT (spec rule R295). -/
  | dmRunLimit (c : ChId)
  /-- DM_READ_COMPLETION (spec rule R308). -/
  | dmReadCompletion (c : ChId) (ok : Bool)
  /-- PRAM_DATA_ACCESS (spec rule R314). -/
  | pramDataAccess (src : Source) (e : DmId) (v : Option Word)
  /-- DM_CNT_CLR (spec rule R314). -/
  | dmCntClr (src : Source) (e : DmId)
  /-- CAPTURE_PACKET_START (spec rule R317). -/
  | capturePacketStart (k : CfId) (pid : Byte) (fromDev : Bool) (body : BitVec 11)
  /-- CAPTURE_BYTE (spec rule R318). -/
  | captureByte (k : CfId) (b : Byte)
  /-- CAPTURE_PACKET_END (spec rule R321). -/
  | capturePacketEnd (k : CfId) (eopOk : Bool) (crcOk : Bool)
  /-- CAPTURE_TAIL_TIMEOUT (spec rule R322). -/
  | captureTailTimeout (k : CfId)
  /-- CF_FLUSH (spec rule R324). -/
  | cfFlush (src : Source) (k : CfId)
  /-- CF_ENABLE (spec rule R326). -/
  | cfEnable (src : Source) (k : CfId) (v : Word)
  /-- CF_DISABLE (spec rule R326). -/
  | cfDisable (src : Source) (k : CfId) (v : Word)
  /-- CF_CNT_CLR (spec rule R329). -/
  | cfCntClr (src : Source) (k : CfId)
  /-- DOMAIN_REQUEST (spec rule R331). -/
  | domainRequest (src : Source) (d : DomId) (v : Word)
  /-- DOMAIN_REASK (spec rule R333). -/
  | domainReask (d : DomId)
  /-- DOMAIN_DELAY_EXPIRED (spec rule R333). -/
  | domainDelayExpired (d : DomId)
  /-- DOMAIN_SAVE_DONE (spec rule R333). -/
  | domainSaveDone (d : DomId)
  /-- DOMAIN_GATE_DONE (spec rule R333). -/
  | domainGateDone (d : DomId)
  /-- DOMAIN_EXIT_DONE (spec rule R338). -/
  | domainExitDone (d : DomId) (saveErr : Bool)
  /-- SMBUS_WAKE (spec rule R339). -/
  | smbusWake
  /-- POD_SELF_WAKE (spec rule R340). -/
  | podSelfWake (p : PortId)
  /-- HOST_L1_EXIT (spec rule R340). -/
  | hostL1Exit
  /-- PWRDOM_CNT_CLR (spec rule R348). -/
  | pwrdomCntClr (src : Source)
  /-- IMYON_READY (spec rule R353). -/
  | imyonReady
  /-- IMYON_START_TIMEOUT (spec rule R353). -/
  | imyonStartTimeout
  /-- UPD_BEGIN (spec rule R356). -/
  | updBegin (src : Source) (tag : BitVec 16) (store : BeginOutcome)
  /-- UPD_CHUNK (spec rule R357). -/
  | updChunk (src : Source) (tag : BitVec 16) (storeOk : Bool)
  /-- UPD_VERIFY (spec rule R352). -/
  | updVerify (src : Source) (tag : BitVec 16)
  /-- UPD_ACTIVATE (spec rule R359). -/
  | updActivate (src : Source) (cmd : ActivateCmd)
  /-- ACTIVATION_PAUSE (spec rule R359). -/
  | activationPause
  /-- ACTIVATION_WDOG (spec rule R361). -/
  | activationWdog
  /-- UPD_CONFIRM (spec rule R363). -/
  | updConfirm (src : Source) (tag : BitVec 16) (store : ConfirmOutcome)
  /-- UPD_ABORT (spec rule R356). -/
  | updAbort (src : Source) (tag : BitVec 16)
  /-- SET_WRITE (spec rule R367). -/
  | setWrite (src : Source) (tag : BitVec 16) (store : StoreOutcome)
  /-- SET_DELETE (spec rule R367). -/
  | setDelete (src : Source) (tag : BitVec 16) (store : StoreOutcome)
  /-- SET_READ (spec rule R367). -/
  | setRead (src : Source) (tag : BitVec 16)
  /-- SET_FORMAT (spec rule R367). -/
  | setFormat (src : Source) (tag : BitVec 16) (store : StoreOutcome)
  /-- SET_APPLY (spec rule R368). -/
  | setApply (src : Source) (tag : BitVec 16)
  /-- FW_COMMAND_DONE (spec rule R356). -/
  | fwCommandDone
  /-- FW_DATA_ACCESS (spec rule R356). -/
  | fwDataAccess (src : Source) (v : Option Word)
  /-- DATA_RST (spec rule R356). -/
  | dataRst (src : Source)
  /-- SCRUB_PASS (spec rule R383). `inst` names the word, as for ECC_UNCORRECTABLE. -/
  | scrubPass (ram : EccStruct) (inst : Nat) (found : ScrubResult)
  /-- ECC_CORRECTED (spec rule R384). -/
  | eccCorrected (ram : EccStruct) (inst : Nat)
  /-- ECC_UNCORRECTABLE (spec rule R385). `inst` names the word's holder: an item number (0x01, 0x05), a position in
  the Completion Park (0x03) or among the open contexts (0x04), a queue pair (0x06), a channel (0x08, 0x09), a FIFO
  (0x0A), a slice with 32 for the physical function (0x0E), and otherwise the instance recorded. -/
  | eccUncorrectable (ram : EccStruct) (inst : Nat) (live : Bool)
  /-- GLOBAL_CNT_CLR (spec rule R402). -/
  | globalCntClr (src : Source)
  /-- WRITE_AT (spec rule R400). Bit i of `parityErr` is an error of the access to dword i, as in READ_AT. -/
  | writeAt (head : SmbHead) (ofs : Word) (vals : List Word) (pecBad : Bool) (parityErr : BitVec 63)
  /-- READ_AT (spec rule R400). -/
  | readAt (head : SmbHead) (ofs : Word) (n : Nat) (parityErr : BitVec 63)
  /-- SMBUS_SCL_TIMEOUT (spec rule R426). -/
  | smbusSclTimeout
  /-- MEASUREMENT_UPDATE (spec rule R255). -/
  | measurementUpdate (r : Readings)
  /-- BREAKER_SAMPLE (spec rule R231). -/
  | breakerSample (n : PortId) (r : FetSample)
  /-- PACKET_LIST_READ_DONE (spec rule R148). -/
  | packetListReadDone (id : Nat) (res : Option (List (BitVec 64)))
  /-- POWER_REQ_TIMEOUT (spec rule R224). -/
  | powerReqTimeout (id : Nat)
  /-- CONFIGURATION_REQUEST (spec rule R419). -/
  | configurationRequest (req : ConfigReq)
  /-- LINK_L1_ENTRY (spec rule R334). -/
  | linkL1Entry
  /-- PME_TURN_OFF (spec rule R334). -/
  | pmeTurnOff
  /-- LINE_STATE_CHANGE (spec rule R167). -/
  | lineStateChange (p : PortId) (l : Line)
  /-- TCK_EDGE (spec rule R429). -/
  | tckEdge (rising : Bool) (tms : Bool) (tdi : TdiBit) (trstN : Bool)
  /-- CTX_FLUSH_DONE (spec rule R133). -/
  | ctxFlushDone
  deriving DecidableEq, Repr

end Sys2Proof
end

