-- ==== Sys2Proof/Machine/Codes.lean ====
section
/-!
DEFINITION. The codes and the signature check that the spec names by their standards: the PEC of SMBus, CRC-32 of IEEE
802.3, SHA-384 of FIPS 180-4 and ECDSA P-384 of FIPS 186-5 (spec/00_scope.md R5, log entry 15).
-/

namespace Sys2Proof.Machine

open Sys2Proof

/-! ### Cyclic codes -/

/-- One step of the PEC, polynomial x^8 + x^2 + x + 1. -/
def pecStep (c : Byte) : Byte := if c.getLsbD 7 then (c <<< 1) ^^^ 0x07 else c <<< 1

/-- The PEC over the bytes of an SMBus transaction (spec/15_register_map.md R400). -/
def pec (l : List Byte) : Byte := l.foldl (fun c b => (List.range 8).foldl (fun d _ => pecStep d) (c ^^^ b)) 0

/-- One step of CRC-32, least significant bit first. -/
def crcStep (c : Word) : Word := if c.getLsbD 0 then (c >>> 1) ^^^ 0xEDB88320 else c >>> 1

/-- CRC-32 of IEEE 802.3 (spec/13_firmware_and_settings.md R350, R366). -/
def crc32 (l : List Byte) : Word :=
  ~~~(l.foldl (fun c b => (List.range 8).foldl (fun d _ => crcStep d) (c ^^^ b.setWidth 32)) 0xFFFFFFFF)

/-- The first n bytes of a number, the least significant first. -/
def leBytes (n v : Nat) : List Byte := (List.range n).map (fun i => BitVec.ofNat 8 (v / 256 ^ i))

/-- Bytes as one number, the first most significant. -/
def beNat (l : List Byte) : Nat := l.foldl (fun n b => 256 * n + b.toNat) 0

/-! ### SHA-384 (FIPS 180-4) -/

/-- The largest x below 2^n over a start with x^k at most m, bit by bit. -/
def rootFrom (k m : Nat) : Nat → Nat → Nat
  | 0, x => x
  | n + 1, x => rootFrom k m n (if (x + 2 ^ n) ^ k ≤ m then x + 2 ^ n else x)

/-- The first 64 bits of the fraction of the k-th root of p. -/
def rootFraction (k p : Nat) : BitVec 64 := BitVec.ofNat 64 (rootFrom k (p * 2 ^ (64 * k)) 69 0)

/-- The primes below n. -/
def primesBelow (n : Nat) : List Nat :=
  (List.range n).filter (fun p => decide (2 ≤ p) && (List.range p).all (fun d => decide (d < 2) || p % d != 0))

/-- The round constants: the fractions of the cube roots of the first eighty primes. -/
def shaK : List (BitVec 64) := (primesBelow 410).map (rootFraction 3)

/-- The eight working words. -/
structure Sha where
  a : BitVec 64
  b : BitVec 64
  c : BitVec 64
  d : BitVec 64
  e : BitVec 64
  f : BitVec 64
  g : BitVec 64
  h : BitVec 64
  deriving DecidableEq, Repr

/-- The initial hash value of SHA-384: the fractions of the square roots of the ninth to the sixteenth prime. -/
def Sha.init : Sha :=
  let h (i : Nat) : BitVec 64 := rootFraction 2 ((primesBelow 54).getD (8 + i) 0)
  { a := h 0, b := h 1, c := h 2, d := h 3, e := h 4, f := h 5, g := h 6, h := h 7 }

/-- Rotation to the right. -/
def rotr (x : BitVec 64) (n : Nat) : BitVec 64 := (x >>> n) ||| (x <<< (64 - n))

/-- The next word of the message schedule, from the words before it, newest first. -/
def shaNext (w : List (BitVec 64)) : BitVec 64 :=
  let x := w.getD 1 0
  let y := w.getD 14 0
  (rotr x 19 ^^^ rotr x 61 ^^^ (x >>> 6)) + w.getD 6 0 + (rotr y 1 ^^^ rotr y 8 ^^^ (y >>> 7)) + w.getD 15 0

/-- The message schedule of a block of sixteen words. -/
def shaSchedule (block : List (BitVec 64)) : List (BitVec 64) :=
  ((List.range 64).foldl (fun w _ => shaNext w :: w) block.reverse).reverse

/-- One round. -/
def Sha.round (x : Sha) (k w : BitVec 64) : Sha :=
  let t1 := x.h + (rotr x.e 14 ^^^ rotr x.e 18 ^^^ rotr x.e 41) + ((x.e &&& x.f) ^^^ (~~~x.e &&& x.g)) + k + w
  let t2 := (rotr x.a 28 ^^^ rotr x.a 34 ^^^ rotr x.a 39) + ((x.a &&& x.b) ^^^ (x.a &&& x.c) ^^^ (x.b &&& x.c))
  { a := t1 + t2, b := x.a, c := x.b, d := x.c, e := x.d + t1, f := x.e, g := x.f, h := x.g }

/-- The hash value after one block. -/
def Sha.block (x : Sha) (block : List (BitVec 64)) : Sha :=
  let y := (shaK.zip (shaSchedule block)).foldl (fun v kw => v.round kw.1 kw.2) x
  { a := x.a + y.a, b := x.b + y.b, c := x.c + y.c, d := x.d + y.d
    e := x.e + y.e, f := x.f + y.f, g := x.g + y.g, h := x.h + y.h }

/-- The padded message: a 1 bit, zeros, and the length in bits in 128 bits. -/
def shaPad (l : List Byte) : List Byte :=
  l ++ [0x80] ++ List.replicate ((239 - l.length % 128) % 128) 0 ++ (leBytes 16 (8 * l.length)).reverse

/-- The sixteen words of the block at the front of a message. -/
def shaWords (l : List Byte) : List (BitVec 64) :=
  (List.range 16).map (fun i => BitVec.ofNat 64 (beNat ((l.drop (8 * i)).take 8)))

/-- A number of blocks of a message, in order. -/
def Sha.blocks (x : Sha) (l : List Byte) : Nat → Sha
  | 0 => x
  | n + 1 => (x.block (shaWords l)).blocks (l.drop 128) n

/-- SHA-384 of a byte string. -/
def sha384 (l : List Byte) : BitVec 384 :=
  let m := shaPad l
  let x := Sha.init.blocks m (m.length / 128)
  x.a ++ x.b ++ x.c ++ x.d ++ x.e ++ x.f

/-! ### ECDSA P-384 (FIPS 186-5, with the curve of SP 800-186) -/

/-- The field prime, the coefficient b, and the order of the base point; the coefficient a is -3. -/
def curveP : Nat := 2 ^ 384 - 2 ^ 128 - 2 ^ 96 + 2 ^ 32 - 1
def curveB : Nat :=
  0xb3312fa7e23ee7e4988e056be3f82d19181d9c6efe8141120314088f5013875ac656398d8a2ed19d2a85c8edd3ec2aef
def curveN : Nat :=
  0xffffffffffffffffffffffffffffffffffffffffffffffffc7634d81f4372ddf581a0db248b0a77aecec196accc52973

/-- A power modulo m, by the bits of the exponent from the most significant. -/
def powMod (m b : Nat) : List Bool → Nat
  | [] => 1 % m
  | k :: t =>
    let r := powMod m b t
    if k then r * r % m * b % m else r * r % m

/-- The bits of a number below 2^384, the least significant first. -/
def bits384 (n : Nat) : List Bool := (List.range 384).map (fun i => n.testBit i)

/-- The inverse modulo a prime. -/
def invMod (m x : Nat) : Nat := powMod m (x % m) (bits384 (m - 2))

/-- A difference modulo m. -/
def subMod (m x y : Nat) : Nat := (x + m - y % m) % m

/-- The base point. -/
def curveG : Nat × Nat :=
  (0xaa87ca22be8b05378eb1c71ef320ad746e1d3b628ba79b9859f741e082542a385502f25dbf55296c3a545e3872760ab7,
   0x3617de4a96262c6f5d9e98bf9292dc29f8f41dbd289a147ce9da3113b5f0b8c00a60b1ce1d7e819d7a431d7c90ea0e5f)

/-- The third point on the line of slope k through two points, mirrored. -/
def chord (k : Nat) (x y : Nat × Nat) : Nat × Nat :=
  let z := subMod curveP (subMod curveP (k * k) x.1) y.1
  (z, subMod curveP (k * subMod curveP x.1 z) x.2)

/-- The sum of two points; none is the point at infinity. -/
def pointAdd : Option (Nat × Nat) → Option (Nat × Nat) → Option (Nat × Nat)
  | none, q => q
  | p, none => p
  | some x, some y =>
    if x.1 ≠ y.1 then
      some (chord (subMod curveP y.2 x.2 * invMod curveP (subMod curveP y.1 x.1) % curveP) x y)
    else if x.2 ≠ y.2 ∨ x.2 = 0 then none
    else some (chord (subMod curveP (3 * x.1 * x.1) 3 * invMod curveP (2 * x.2) % curveP) x x)

/-- A multiple of a point, by the bits of the factor. -/
def pointMul (x : Option (Nat × Nat)) : List Bool → Option (Nat × Nat)
  | [] => none
  | k :: t =>
    let r := pointMul x t
    let d := pointAdd r r
    if k then pointAdd d x else d

/-- A pair of coordinates is a point of the curve. -/
def onCurve (x : Nat × Nat) : Bool :=
  decide (x.1 < curveP) && decide (x.2 < curveP) &&
    (x.2 * x.2) % curveP == subMod curveP (x.1 * x.1 * x.1 + curveB) (3 * x.1)

/-- Two halves of 48 bytes each, as numbers. -/
def halves (l : List Byte) : Nat × Nat := (beNat (l.take 48), beNat ((l.drop 48).take 48))

/-- ECDSA P-384 verification: key, signed bytes, signature (spec/13_firmware_and_settings.md R351, R352). -/
def ecdsaVerify (key msg sig : List Byte) : Bool :=
  let q := halves key
  let rs := halves sig
  let ok (v : Nat) : Bool := decide (0 < v) && decide (v < curveN)
  if !(onCurve q && ok rs.1 && ok rs.2) then false
  else
    let w := invMod curveN rs.2
    let u1 := (sha384 msg).toNat * w % curveN
    let u2 := rs.1 * w % curveN
    match pointAdd (pointMul (some curveG) (bits384 u1)) (pointMul (some q) (bits384 u2)) with
    | none => false
    | some z => z.1 % curveN == rs.1

end Sys2Proof.Machine
end

