-- ==== Sys2Proof/Machine/RegMap.lean ====
section
/-!
DEFINITION. The page map (spec/15_register_map.md R392) and the field tables of the registers that a write can
change or that do not reset to 0: position, access type, reset value and legal range of each field. A register
not listed here holds 0 at reset and takes no plain write.
-/

namespace Sys2Proof.Machine

open Sys2Proof

/-- The blocks of the page map (R392). -/
inductive Block where
  | global
  | intsum
  | clock
  | pwrdom
  | fw
  | time
  | pkg
  | qp
  | sched
  | te
  | ebr
  | port
  | husk
  | region
  | pod
  | dmch
  | dm
  | cf
  | slice
  | absent
  deriving DecidableEq, Repr

/-- First page, number of pages, block type and block (R392). -/
def pageMap : List (Nat × Nat × Nat × Block) :=
  [(0x000, 1, 0x0001, .global), (0x001, 1, 0x0002, .intsum), (0x002, 1, 0x0003, .clock),
   (0x003, 1, 0x0004, .pwrdom), (0x004, 1, 0x0005, .fw), (0x005, 1, 0x0006, .time), (0x006, 1, 0x0007, .pkg),
   (0x010, 64, 0x0010, .qp), (0x050, 16, 0x0011, .sched), (0x060, 16, 0x0012, .te), (0x070, 1, 0x0013, .ebr),
   (0x080, 48, 0x0020, .port), (0x0C0, 48, 0x0021, .husk), (0x0F0, 4, 0x0022, .region),
   (0x0F8, 8, 0x0023, .pod), (0x100, 32, 0x0030, .dmch), (0x120, 4, 0x0031, .dm), (0x128, 4, 0x0032, .cf),
   (0x140, 32, 0x0040, .slice)]

/-- The row of the page map that holds a page. -/
def pageRow (page : Nat) : Option (Nat × Nat × Nat × Block) :=
  pageMap.find? (fun r => decide (r.1 ≤ page) && decide (page < r.1 + r.2.1))

/-- The block of a page. -/
def blockOf (page : Nat) : Block :=
  match pageRow page with
  | some r => r.2.2.2
  | none => .absent

/-- The instance of a page within its block (R392). -/
def instOf (page : Nat) : Nat :=
  match pageRow page with
  | some r => page - r.1
  | none => 0

/-- PAGE_ID (R394): type, instance, layout revision 1; 0 on an unassigned page (R393). -/
def pageId (page : Nat) : Word :=
  match pageRow page with
  | some r => BitVec.ofNat 32 (r.2.2.1 + (page - r.1) * 0x10000 + 0x1000000)
  | none => 0

/-- PAGE_CAP of a page, as each block's chapter names its bits (R394). -/
def pageCap (page : Nat) : Word :=
  match blockOf page with
  | .global => 1
  | .clock => 1
  | .pwrdom => 3
  | .fw => 3
  | .time => 1
  | .pkg => 1
  | .qp => 3
  | .sched => if page = 0x050 then 3 else 0
  | .te => if page = 0x060 then 3 else 0
  | .ebr => 1
  | .port => 7
  | .husk => 3
  | .region => 1
  | .dmch => 1
  | .dm => 3
  | .cf => 3
  | .slice => 1
  | .intsum => 0
  | .pod => 0
  | .absent => 0

/-- The CAUSE bits a page defines (R395; each block's CAUSE table). -/
def causeMask (page : Nat) : Word :=
  match blockOf page with
  | .global => 0x1FF
  | .clock => 0x1F
  | .pwrdom => 0x7F
  | .fw => 0x1FF
  | .time => 0xFF
  | .pkg => 0x1F
  | .qp => 0x1FF
  | .sched => if page = 0x050 then 0x3F else 0
  | .te => if page = 0x060 then 0x1F else 0
  | .ebr => 0x1F
  | .port => 0x3F
  | .husk => 0x7FF
  | .region => 0x1FF
  | .pod => if page < 0x0FE then 0x3F else 0
  | .dmch => 0xF
  | .dm => 0xF
  | .cf => 0x7F
  | .slice => 0x7FF
  | .intsum => 0
  | .absent => 0

/-- The CFG_BAD bit of a page: the cause of a field refused under spec/00_scope.md R13. -/
def cfgBadBit (page : Nat) : Nat :=
  match blockOf page with
  | .qp => 4
  | .sched => 1
  | .port => 1
  | _ => 0

/-- Access types of spec/00_scope.md R11 that a plain write or a hot reset looks at. -/
inductive Acc where
  | rw
  | rws
  | rw1c
  /-- kept across hot reset, writes ignored (FATAL_INFO, PLL_LOCKS) -/
  | keep
  deriving DecidableEq, Repr

/-- One field of a register: bits [lo + len - 1 : lo], access, reset value, legal range. -/
structure Fld where
  lo : Nat
  len : Nat
  acc : Acc
  reset : Nat
  min : Nat
  max : Nat
  deriving DecidableEq, Repr

/-- An RW field whose every encoding is legal. -/
def Fld.rw (lo len reset : Nat) : Fld := ⟨lo, len, .rw, reset, 0, 2 ^ len - 1⟩

/-- An RW field with a legal range. -/
def Fld.rng (lo len reset min max : Nat) : Fld := ⟨lo, len, .rw, reset, min, max⟩

/-- The low and high dwords of a 64-bit RW field whose bits below `low` are reserved. -/
def Fld.addrLo (low : Nat) : List Fld := [Fld.rw low (32 - low) 0]

/-- The whole dword. -/
def Fld.word : List Fld := [Fld.rw 0 32 0]

/-- The SOF_SRC layout (spec/06_frame_timing.md R217). -/
def Fld.sofSrc : List Fld := [Fld.rng 0 3 0 0 6, Fld.rw 4 2 2, Fld.rw 6 1 0]

/-- The SOF_RATIO layout (R217). -/
def Fld.sofRatio : List Fld := [Fld.rng 0 10 1 1 1023, Fld.rng 12 13 6 1 8191]

/-- The SOF_CLAMP layout (R217). -/
def Fld.sofClamp : List Fld := [Fld.rng 0 11 1728 0 1920, Fld.rng 16 12 256 1 1920]

/-- The SOF_LOCK layout with its reset LOCK_WIN (R217, R218). -/
def Fld.sofLock (win : Nat) : List Fld := [Fld.rng 0 12 win 1 4095, Fld.rng 16 8 16 1 255]

/-- A pending curve point (spec/07_husk_power_path.md R247). -/
def Fld.curve (thresh time : Nat) : List Fld := [Fld.rng 0 10 thresh 1 800, Fld.rng 16 8 time 0 112]

/-- Fields of a QP page (spec/02_queue_pairs_and_doorbells.md R99). -/
def qpFields (o : Nat) : List Fld :=
  match o with
  | 0x014 => [Fld.rw 0 1 0, Fld.rw 1 1 0, Fld.rw 2 1 0, Fld.rw 3 1 0]
  | 0x100 => Fld.addrLo 12
  | 0x104 => Fld.word
  | 0x108 => Fld.addrLo 12
  | 0x10C => Fld.word
  | 0x110 => Fld.addrLo 4
  | 0x114 => Fld.word
  | 0x118 => [Fld.rng 0 5 4 4 16, Fld.rng 8 5 4 4 16]
  | 0x11C => [Fld.rng 0 5 1 1 16, Fld.rng 8 7 8 1 64]
  | 0x120 => [Fld.rng 0 9 16 0 256]
  | 0x124 => [Fld.rng 0 13 256 1 4096]
  | 0x128 => [Fld.rw 0 8 1, Fld.rw 8 16 0]
  | _ => []

/-- Fields of SCHED[0] (spec/03_dispatch_scheduler.md R127). -/
def schedFields (o : Nat) : List Fld :=
  match o with
  | 0x100 => [Fld.rng 0 16 2000 100 65535]
  | 0x104 => [Fld.rng 0 13 4096 0 4096]
  | 0x108 => [Fld.rng 0 4 6 0 12, Fld.rng 8 6 8 0 32]
  | 0x10C => [Fld.rng 0 5 3 1 16]
  | 0x110 => [Fld.rng 0 6 2 1 63]
  | 0x114 => [Fld.rng 0 7 40 5 100]
  | _ => []

/-- Fields of TE[0] (spec/04_transfer_engines_and_endpoints.md R161). -/
def teFields (o : Nat) : List Fld :=
  match o with
  | 0x014 => [Fld.rw 1 1 0]
  | 0x100 => [Fld.rng 0 16 5000 1 65535, Fld.rng 16 16 5000 1 65535]
  | 0x104 => [Fld.rng 0 8 16 1 255, Fld.rw 8 6 2]
  | 0x108 => Fld.addrLo 12
  | 0x10C => Fld.word
  | _ => []

/-- Fields of EBR (spec/04_transfer_engines_and_endpoints.md R162). -/
def ebrFields (o : Nat) : List Fld :=
  match o with
  | 0x100 => [Fld.rng 0 13 1024 512 6144]
  | 0x104 => [Fld.rng 0 13 5120 0 6144]
  | _ => []

/-- Fields of a PORT page (spec/05_root_ports.md R191, spec/06_frame_timing.md R217). SOF_TRIM is 12-bit two's
complement: its range is judged by the behaviour of the register. -/
def portFields (o : Nat) : List Fld :=
  match o with
  | 0x014 => [Fld.rw 1 1 0, Fld.rw 2 2 0]
  | 0x100 => [Fld.rng 0 6 50 10 60, Fld.rng 8 5 10 0 20, Fld.rng 16 6 20 20 40]
  | 0x104 => [Fld.rng 0 8 100 10 255]
  | 0x108 => [Fld.rng 0 10 20 1 1000]
  | 0x10C => [Fld.rng 0 2 0 0 2]
  | 0x110 => [Fld.rng 0 3 0 0 5]
  | 0x114 => [⟨0, 2, .rws, 0, 0, 3⟩]
  | 0x200 => Fld.sofSrc
  | 0x204 => Fld.sofRatio
  | 0x208 => [Fld.rw 0 12 0]
  | 0x20C => Fld.sofClamp
  | 0x210 => Fld.sofLock 128
  | _ => []

/-- Fields of a HUSK page (spec/07_husk_power_path.md R247). -/
def huskFields (o : Nat) : List Fld :=
  match o with
  | 0x100 => [Fld.rng 0 8 0 0 210]
  | 0x104 => [Fld.rng 0 7 60 30 80]
  | 0x108 => [Fld.rng 0 6 20 5 50]
  | 0x10C => [Fld.rng 0 6 8 1 50]
  | 0x110 => [Fld.rng 0 7 10 0 100]
  | 0x114 => [Fld.rng 0 7 10 1 100, Fld.rw 8 4 3, Fld.rw 12 1 0]
  | 0x118 => [Fld.rng 0 8 140 80 165]
  | 0x11C => [Fld.rng 0 8 160 100 170]
  | 0x120 => Fld.curve 220 104
  | 0x124 => Fld.curve 250 96
  | 0x128 => Fld.curve 300 88
  | 0x12C => Fld.curve 350 80
  | 0x130 => Fld.curve 400 64
  | 0x134 => Fld.curve 450 48
  | 0x138 => Fld.curve 500 32
  | 0x13C => Fld.curve 550 16
  | _ => []

/-- Fields of a REGION page (spec/08_regions_feeds_budgets.md R266). -/
def regionFields (o : Nat) : List Fld :=
  match o with
  | 0x100 => [Fld.rw 0 1 0, Fld.rw 1 1 0, Fld.rng 8 6 5 2 50, Fld.rng 16 9 465 450 470]
  | 0x104 => [⟨0, 11, .rws, 1200, 0, 1600⟩]
  | _ => []

/-- Fields of a POD page: two Pods (spec/08_regions_feeds_budgets.md R267). -/
def podFields (o : Nat) : List Fld :=
  match o with
  | 0x100 => [⟨0, 10, .rws, 840, 0, 840⟩]
  | 0x104 => [Fld.rng 0 8 130 80 165]
  | 0x180 => [⟨0, 10, .rws, 840, 0, 840⟩]
  | 0x184 => [Fld.rng 0 8 130 80 165]
  | _ => []

/-- Fields of PKG (spec/08_regions_feeds_budgets.md R268). -/
def pkgFields (o : Nat) : List Fld :=
  match o with
  | 0x100 => [⟨0, 13, .rws, 4000, 0, 4800⟩]
  | 0x104 => [⟨0, 13, .rws, 4800, 0, 4800⟩]
  | 0x110 => [⟨0, 10, .rws, 50, 10, 1000⟩, ⟨16, 7, .rws, 5, 2, 100⟩]
  | 0x114 => [Fld.rng 0 8 95 60 165, Fld.rng 8 8 105 60 165]
  | _ => []

/-- Fields of TIME (spec/06_frame_timing.md R218). -/
def timeFields (o : Nat) : List Fld :=
  match o with
  | 0x108 => Fld.word
  | 0x10C => Fld.word
  | 0x140 => Fld.sofSrc
  | 0x144 => Fld.sofRatio
  | 0x148 => Fld.sofClamp
  | 0x14C => Fld.sofLock 64
  | 0x15C => [Fld.rng 0 2 0 0 2, Fld.rw 8 6 0]
  | 0x160 => [⟨0, 32, .rw1c, 0, 0, 2 ^ 32 - 1⟩]
  | 0x164 => [⟨0, 17, .rw1c, 0, 0, 2 ^ 17 - 1⟩]
  | _ => []

/-- Fields of a SLICE page (spec/09_slices.md R289). -/
def sliceFields (o : Nat) : List Fld :=
  match o with
  | 0x014 => [Fld.rw 3 1 0, Fld.rw 4 1 0]
  | 0x100 => [Fld.rw 0 20 0]
  | 0x108 => Fld.word
  | 0x10C => Fld.word
  | 0x110 => Fld.word
  | 0x114 => [Fld.rw 0 16 0]
  | 0x118 => Fld.word
  | 0x11C => [Fld.rw 0 16 0]
  | 0x120 => Fld.word
  | 0x124 => [Fld.rw 0 4 0]
  | 0x128 => Fld.word
  | 0x12C => Fld.word
  | 0x130 => [Fld.rng 0 13 0 0 4096]
  | 0x134 => [Fld.rng 0 11 0 0 1024]
  | 0x138 => [Fld.rng 0 13 0 0 6144]
  | 0x140 => Fld.addrLo 12
  | 0x144 => Fld.word
  | _ => []

/-- Fields of a DMCH page (spec/10_data_mover.md R315). The space and wrap codes the tables reserve are out of
range (R298, R299). -/
def dmchFields (o : Nat) : List Fld :=
  match o with
  | 0x020 => Fld.word
  | 0x024 => Fld.word
  | 0x028 => Fld.word
  | 0x02C => Fld.word
  | 0x030 => Fld.word
  | 0x034 => [Fld.rw 0 1 0, Fld.rw 1 1 0, Fld.rw 2 2 0, Fld.rw 4 2 0, Fld.rw 6 2 2, Fld.rw 8 5 0, Fld.rw 16 5 0,
              Fld.rw 24 3 3]
  | 0x038 => Fld.word
  | 0x03C => Fld.word
  | 0x040 => [Fld.rw 0 16 0]
  | 0x100 => [Fld.rw 0 9 1, Fld.rw 16 9 0]
  | _ => []

/-- Fields of a DM page (spec/10_data_mover.md R314). -/
def dmFields (o : Nat) : List Fld :=
  match o with
  | 0x100 => [Fld.rw 2 11 0]
  | 0x108 => [Fld.rw 0 16 0]
  | 0x10C => [Fld.rng 0 10 100 1 1000]
  | 0x110 => [Fld.rng 0 8 0 0 240]
  | _ => []

/-- Fields of a CF page (spec/11_capture.md R329). -/
def cfFields (o : Nat) : List Fld :=
  match o with
  | 0x020 => [Fld.rng 0 6 0 0 47, Fld.rng 8 2 0 0 2]
  | 0x024 => [Fld.rw 0 16 0xFFFF, Fld.rw 16 7 0, Fld.rw 23 1 0, Fld.rw 24 4 0, Fld.rw 28 1 0, Fld.rw 29 1 1]
  | 0x028 => [Fld.rng 0 11 2047 1 2047]
  | 0x02C => [Fld.rng 0 14 100 1 10000]
  | _ => []

/-- The fields of the register at an offset of a page. -/
def fieldsAt (page o : Nat) : List Fld :=
  if o = 0x00C then [⟨0, 32, .rw, 0, 0, 2 ^ 32 - 1⟩] else
  match blockOf page with
  | .global =>
    if o = 0x110 then [Fld.rw 0 18 0]
    else if o = 0x128 then [⟨0, 32, .keep, 0, 0, 2 ^ 32 - 1⟩]
    else []
  | .clock =>
    if o = 0x014 then [Fld.rw 0 1 0, Fld.rw 1 1 0]
    else if o = 0x104 then [⟨0, 32, .keep, 0, 0, 2 ^ 32 - 1⟩]
    else []
  | .pwrdom => if o = 0x280 then [Fld.rw 1 4 0, Fld.rw 6 14 0] else []
  | .fw => if o = 0x104 then Fld.word else if o = 0x108 then Fld.word else []
  | .time => timeFields o
  | .pkg => pkgFields o
  | .qp => qpFields o
  | .sched => if page = 0x050 then schedFields o else []
  | .te => if page = 0x060 then teFields o else []
  | .ebr => ebrFields o
  | .port => portFields o
  | .husk => huskFields o
  | .region => regionFields o
  | .pod => if page < 0x0FE then podFields o else []
  | .dmch => dmchFields o
  | .dm => dmFields o
  | .cf => cfFields o
  | .slice => sliceFields o
  | .intsum => []
  | .absent => []

/-- The Reset value of a register: its fields' reset values (spec/15_register_map.md R398). -/
def resetValue (ofs : Nat) : Word :=
  (fieldsAt (ofs / 4096) (ofs % 4096)).foldl (fun w f => w ||| BitVec.ofNat 32 (f.reset * 2 ^ f.lo)) 0

end Sys2Proof.Machine
end

