-- ==== Sys2Proof/Config.lean ====
section
/-!
DEFINITION. What the spec leaves open, as constants without a body: no proof can see a value of them.
-/

namespace Sys2Proof.Config

/-- A fresh free value, applied to the counter State holds: an unstable strap (spec/16_pins_and_electrical.md
R413), the destination of an overlapping MOVE (spec/10_data_mover.md R301). Log entry 13. -/
opaque freeValue : Nat → BitVec 64

/-- Whether a write of data to an address carries the relaxed-ordering attribute: it may
(spec/01_device_organisation.md R29). Log entry 57. -/
opaque dataRelaxed : BitVec 64 → Bool

/-- The proportional gain of a discipline loop, applied to the bandwidth code and the comparison rate in mHz,
acting on e in steps: the spec gives no formula (spec/06_frame_timing.md R203). Log entry 14. -/
opaque loopKp : Nat → Nat → Int → Int

/-- The integral gain of a discipline loop, as `loopKp` (spec/06_frame_timing.md R203). Log entry 14. -/
opaque loopKi : Nat → Nat → Int → Int

/-- Which neighbour a trim is rounded to where spec/06_frame_timing.md R202 and R204 do not say: numerator and
denominator. Log entry 14. -/
opaque roundUp : Int → Nat → Bool

/-- The vendor key hash in OTP (spec/13_firmware_and_settings.md R352). Log entry 15. -/
opaque vendorKeyHash : BitVec 384

/-- The customer key slot in OTP, none while empty (spec/13_firmware_and_settings.md R352). Log entry 15. -/
opaque customerKeyHash : Option (BitVec 384)

/-- The version of Acorn (spec/13_firmware_and_settings.md R373: FW.ACORN_VERSION, which the ROM of the part
holds). Log entry 15. -/
opaque acornVersion : Word

/-- The manufacturer field and bit 0 of the IDCODE, bits [11:0], given by the vendor's file
(spec/16_pins_and_electrical.md R429). Log entry 12. -/
opaque idcodeLow : BitVec 12

/-- What a capture of the boundary cells reads, by its number and the position, in the order of the vendor's file
(spec/16_pins_and_electrical.md R429). Log entry 12. -/
opaque boundaryCell : Nat → Nat → Bool

/-- The length of the boundary-scan register, of the vendor's file (spec/16_pins_and_electrical.md R429). Log entry
12. -/
opaque boundaryLength : Nat

end Sys2Proof.Config
end

