-- ==== Sys2Proof/Machine/State.lean ====
section
/-!
DEFINITION. The state of the NV-4810 as plain data, its faults and refusals, and the state after power-on reset.
A register without structure of its own is held in `regs` by its BAR0 byte offset; a register the rules compute
from other state is not stored twice.
-/

namespace Sys2Proof.Machine

open Sys2Proof

/-! ### Queue pairs -/

/-- The visit that has a read on the link: the first index of the read and how many slots it brings, the slots up to the
tail after them, the tail it was issued under, the entries of a chain whose end is not read yet
(spec/02_queue_pairs_and_doorbells.md R70), and how many items the visit may still fetch (R74). -/
structure Fetch where
  idx : Nat
  cnt : Nat
  rest : Nat
  tail : Nat
  part : List Entry
  left : Nat
  deriving DecidableEq, Repr

/-- The cycle in which a CQ last took records, and how the queue pair stood before the first of them
(spec/09_slices.md R288): CQ_TAIL, the SEQ below it, and the coalescing figures (R440). -/
structure CqCycle where
  at_ : Nat
  tail : Nat
  seq : Word
  coalCount : Nat
  coalHit : Bool
  coalStart : Option Nat
  deriving DecidableEq, Repr

/-- One queue pair (spec/02_queue_pairs_and_doorbells.md R56, R60, R61). Indices count modulo 2N. -/
structure Qp where
  tail : Nat
  cqHead : Nat
  cqTail : Nat
  fetchPtr : Nat
  halted : Bool
  /-- entries taken from push writes, oldest first, at most 4 (R79): index and entry -/
  push : List (Nat × Entry)
  /-- items read from the ring that back-pressure holds back, the first at FETCH_PTR (R120, R124) -/
  staged : List (List Entry)
  /-- the read after them failed: the queue pair halts once they are stored (R76) -/
  failDue : Bool
  fetch : Option Fetch
  /-- first index of the uncovered chain that was read last, and the tail it was read under (R70) -/
  chainWait : Option (Nat × Nat)
  /-- visits left in the round (R74) -/
  visits : Nat
  coalCount : Nat
  /-- the count has reached CQ_COAL.COUNT and CQ_NEW is to set (R440) -/
  coalHit : Bool
  /-- moment the coalescing timer started (R440) -/
  coalStart : Option Nat
  mirrorDue : Bool
  mirrorWrites : Word
  /-- SEQ of the CQ record just below CQ_TAIL (R83) -/
  lastCqSeq : Word
  cycle : Option CqCycle
  /-- enabled since reset: before that CREDIT shows its Reset value (R440, log entry 29) -/
  opened : Bool
  deriving DecidableEq, Repr

/-- A queue pair at reset. The mirror's SEQ field is 0 while no CQ record has been written since the enable: R83 names
none then (DESIGN CHOICE, log entry 56). -/
def Qp.init : Qp :=
  { tail := 0, cqHead := 0, cqTail := 0, fetchPtr := 0, halted := false, push := [], staged := [], failDue := false,
    fetch := none, chainWait := none, visits := 0, coalCount := 0, coalHit := false, coalStart := none, mirrorDue := false,
    mirrorWrites := 0,
    lastCqSeq := 0, cycle := none, opened := false }

/-! ### Items -/

/-- The state of an item (spec/03_dispatch_scheduler.md R103). In SERVICE a transfer holds a slot; a MAINT item
holds none (R111). -/
inductive ItemState where
  | pending
  | held
  | frameWait
  | ready
  | pip (e : EngId)
  | service (e : EngId) (slot : Option (Fin 16))
  deriving DecidableEq, Repr

/-- One packet descriptor of an isochronous item (spec/04_transfer_engines_and_endpoints.md R148): PSTATUS is
0 OK, 1 ERROR, 2 BABBLE, 3 MISSED, 4 HOST_MEM. -/
structure IsoPkt where
  ofs : Nat
  req : Nat
  act : Nat
  pst : Nat
  served : Bool
  deriving DecidableEq, Repr

/-- The progress of an item in SERVICE (spec/04_transfer_engines_and_endpoints.md R129, R143-R149). -/
structure Xfer where
  ctxReady : Bool
  /-- the opcode's own meaning has begun -/
  running : Bool
  /-- the owner's power mask allowed a PORT_POWER_REQ when it entered SERVICE (spec/09_slices.md R275) -/
  powerOk : Bool
  /-- 0 setup, 1 data, 2 status (R145) -/
  stage : Nat
  /-- bytes moved -/
  done : Nat
  nakWait : Bool
  /-- moved behind the other transfers of the port (R129) -/
  turn : Nat
  ping : Bool
  /-- a split transaction waits for its complete-split, and the boundary count of the latest one
  (spec/05_root_ports.md R185) -/
  csplit : Bool
  csplitAt : Nat
  /-- the transaction waits for a granule (R143) -/
  wantGranule : Bool
  /-- outbound data of the next transaction, or of the next service, are in the buffer; those of the transaction after
  it; a read of host memory for either is out (R143, R144) -/
  dataReady : Bool
  nextReady : Bool
  fetching : Bool
  /-- the packet of an isochronous OUT item whose data are read -/
  dataIdx : Nat
  /-- a granule holds the received data or the empty packet on the wire; another drains to host memory (R143) -/
  wireBuf : Bool
  drain : Bool
  /-- TOGGLE when the transaction on the wire started (R160) -/
  wireToggle : Bool
  /-- transactions run in the present service opportunity, and whether one was not NAKed (R147) -/
  svcTx : Nat
  svcMoved : Bool
  nakSvc : Nat
  served : Bool
  /-- the next service opportunity, on the port's boundary count -/
  nextSvc : Nat
  isoReady : Bool
  iso : List IsoPkt
  isoIdx : Nat
  /-- PID that the next data packet of a high-bandwidth service carries (R149) -/
  isoPid : Option Nat
  /-- R155: the time limit has passed -/
  expired : Bool
  deriving DecidableEq, Repr

/-- Progress on entering SERVICE. -/
def Xfer.init : Xfer :=
  { ctxReady := false, running := false, powerOk := false, stage := 0, done := 0, nakWait := false, turn := 0,
    ping := false, csplit := false, csplitAt := 0, wantGranule := false, dataReady := false, nextReady := false,
    fetching := false, dataIdx := 0, wireBuf := false, drain := false, wireToggle := false, svcTx := 0,
    svcMoved := false, nakSvc := 0, served := false, nextSvc := 0, isoReady := false, iso := [], isoIdx := 0,
    isoPid := none, expired := false }

/-- One item of the Work Item Store (spec/03_dispatch_scheduler.md R100-R105). The store's list is in store
order. -/
structure Item where
  id : Nat
  qp : QpId
  owner : Option SliceId
  gen : BitVec 16
  entry : Entry
  /-- the later segments of a chain (R69): buffer and length -/
  segs : List (BitVec 64 × Nat)
  /-- index of the first entry in the ring, and how many entries the item covers -/
  idx : Nat
  cnt : Nat
  st : ItemState
  /-- status and DETAIL the item carries on the retire list (R113) -/
  retire : Option (Nat × Nat)
  /-- its entry failed a check when it was stored (R101, spec/02_queue_pairs_and_doorbells.md R71) -/
  failed : Bool
  /-- EVWAIT satisfied, or not set (R42) -/
  evOk : Bool
  /-- status and DETAIL the item ends with at its next transaction boundary (R130) -/
  ending : Option (Nat × Nat)
  storedAt : Nat
  readyAt : Nat
  /-- place in its ready list: the order of entry to READY (spec/03_dispatch_scheduler.md R106); a recall goes before
  the head (R112) -/
  readyNo : Int
  /-- its wait is in the histogram (R126) -/
  binned : Bool
  aged : Bool
  guarded : Bool
  /-- the service was released for this boundary count of the port (R116) -/
  cutoffAt : Nat
  svcAt : Nat
  pipAt : Nat
  /-- the record carries the present generation (R282) -/
  freshGen : Bool
  /-- CTRL.NOSNOOP of its queue pair when it was dispatched (spec/02_queue_pairs_and_doorbells.md R58,
  spec/01_device_organisation.md R30) -/
  noSnoop : Bool
  x : Xfer
  deriving DecidableEq, Repr

/-- A record held by the Completion Park (spec/02_queue_pairs_and_doorbells.md R92). -/
structure Parked where
  qp : QpId
  owner : Option SliceId
  gen : BitVec 16
  record : BitVec 128
  deriving DecidableEq, Repr

/-- An event waiting in its source (spec/02_queue_pairs_and_doorbells.md R89, R91). -/
structure Waiting where
  page : Nat
  code : Nat
  detail : Nat
  data : Nat
  count : Nat
  dtime : Word
  deriving DecidableEq, Repr

/-! ### Endpoints -/

/-- An OPEN or HALTED endpoint context with its claim (spec/04_transfer_engines_and_endpoints.md R132, R136).
`cached` is false after eviction (R133); `typ` is 0 control, 1 isochronous, 2 bulk, 3 interrupt. -/
structure Ctx where
  port : PortId
  addr : Nat
  ep : Nat
  dir : Bool
  owner : Option SliceId
  gen : BitVec 16
  halted : Bool
  typ : Nat
  speed : Nat
  toggle : Bool
  mult : Nat
  interval : Nat
  mps : Nat
  hubAddr : Nat
  hubPort : Nat
  phase : Nat
  splitY : Nat
  charge : Nat
  bufId : Nat
  granules : Nat
  iface : Nat
  devSpeed : Nat
  /-- boundary count of the next service of a period longer than the window (R138) -/
  nextAt : Nat
  /-- boundary count of the latest service opportunity in which a transaction ran, and how many ran in it (R147) -/
  svcAt : Nat
  svcUsed : Nat
  /-- transaction errors in a row (R152) -/
  errs : Nat
  /-- a snooped reset came while a transaction was in progress (R160) -/
  snooped : Bool
  /-- address of its context block, as its device-table entry gave it (R131) -/
  block : BitVec 64
  dirty : Bool
  cached : Bool
  /-- last use, for the least-recently-used choice -/
  used : Nat
  deriving DecidableEq, Repr

/-- What a context read of a closed endpoint brought into the cache: software's DW7 (R132). -/
structure ClosedCtx where
  port : PortId
  addr : Nat
  ep : Nat
  dir : Bool
  block : BitVec 64
  iface : Nat
  devSpeed : Nat
  deriving DecidableEq, Repr

/-! ### Ports and frame clocks -/

/-- The port states (spec/05_root_ports.md R163), code 0 to 7 in this order. -/
inductive PState where
  | powerOff
  | disconnected
  | resetting
  | enabled
  | suspended
  | resuming
  | disabledError
  | test
  deriving DecidableEq, Repr

/-- The progress of a speed handshake (spec/05_root_ports.md R171). -/
inductive Chirp where
  | none
  | seen
  | pairs
  | failed
  | good
  deriving DecidableEq, Repr

/-- What a port sent at its latest frame-clock boundary (spec/06_frame_timing.md R194). -/
inductive SofOut where
  | none
  | sof (frame : Nat)
  | keepAlive
  deriving DecidableEq, Repr

/-- The tokens of USB 2.0 that a root port sends (spec/04_transfer_engines_and_endpoints.md R129, R145). -/
inductive Token where
  | setup
  | out
  | in_
  | ping
  deriving DecidableEq, Repr

/-- What a port sends in a transaction: token, device and endpoint; the transaction translator of a split, and whether
it is the complete-split (spec/05_root_ports.md R185); the PID of a data packet, its length, and the eight bytes of a
setup packet (spec/04_transfer_engines_and_endpoints.md R145, R149). -/
structure Tx where
  token : Token
  addr : Nat
  ep : Nat
  hub : Option (Nat × Nat)
  complete : Bool
  pid : Option (Fin 4)
  len : Nat
  setup : BitVec 64
  deriving DecidableEq, Repr

/-- One Port Sequencer (spec/05_root_ports.md R163-R191). -/
structure Port where
  st : PState
  conn : Bool
  /-- pull-up on D- (R167) -/
  lowPull : Bool
  /-- 0 high, 1 full, 2 low -/
  speed : Nat
  line : Line
  discDet : Bool
  /-- envelope samples at or above 625 mV in consecutive microframes (R168) -/
  envCount : Nat
  recovering : Bool
  suspPend : Bool
  /-- the drain of R174 is done and the bus idles -/
  suspIdle : Bool
  /-- a PORT_RESET waits for its reset start point (R170) -/
  resetWait : Bool
  chirp : Chirp
  /-- the reset has ended and the first SOF is due (R171) -/
  resetEnded : Bool
  /-- the resume K has ended and the first SOF is due (R175) -/
  resumeEnded : Bool
  remote : Bool
  wakeSeen : Bool
  cdpDrive : Bool
  ledPulse : Bool
  /-- item on the wire -/
  wire : Option Nat
  /-- what the latest transaction sent, and the context it ran under -/
  tx : Option Tx
  wireCtx : Option Ctx
  /-- the present microframe's cut-off has passed (R115) -/
  cutPassed : Bool
  /-- transfers already given a turn, for the round robin of R129 -/
  turn : Nat
  /-- address and endpoint of the latest token (spec/11_capture.md R317) -/
  token : Option (Nat × Option Nat)
  /-- power-good as the control die knows it (R191, STATUS.PGOOD) -/
  pgood : Bool
  /-- the last moment the line was seen leaving an unqualified K while SUSPENDED (R178) -/
  kAt : Option Nat
  /-- the K on the line, or the latest one, has qualified as a remote wake (R176, R178) -/
  kQual : Bool
  sofOut : SofOut
  deriving DecidableEq, Repr

/-- A port at reset. -/
def Port.init : Port :=
  { st := .powerOff, conn := false, lowPull := false, speed := 0, line := .se0, discDet := false, envCount := 0,
    recovering := false, suspPend := false, suspIdle := false, resetWait := false, chirp := .none,
    resetEnded := false, resumeEnded := false, remote := false, wakeSeen := false, cdpDrive := false,
    ledPulse := false, wire := none, tx := none, wireCtx := none, cutPassed := false, turn := 0, token := none,
    pgood := false,
    kAt := none, kQual := false, sofOut := .none }

/-- Loop states (spec/06_frame_timing.md R201), codes 0 to 3. -/
inductive LState where
  | free
  | acquire
  | locked
  | holdover
  deriving DecidableEq, Repr

/-- Acquisition steps (spec/06_frame_timing.md R202), codes 0 to 3. -/
inductive Acq where
  | freq
  | phase
  | track
  | off
  deriving DecidableEq, Repr

/-- One frame clock with its discipline loop (spec/06_frame_timing.md R192-R206). Times are in bit times. -/
structure Clk where
  frindex : BitVec 14
  /-- boundaries, counted on from 16,384 so that a past START_FRAME has a number -/
  count : Nat
  lastBoundary : Nat
  /-- moment of the boundary that began the frame in progress (R195) -/
  frameStart : Nat
  /-- sixty-fourths of a bit time carried to the next boundary (R193) -/
  frac : Int
  /-- length of the microframe in progress -/
  len : Int
  trim : Int
  sofTime : BitVec 64
  phaseErr : Int
  /-- e of the latest comparison, unsaturated (R199) -/
  lastE : Int
  ls : LState
  acq : Acq
  clamped : Bool
  refOk : Bool
  phaseStep : Bool
  integ : Int
  preset : Int
  /-- phase remainder still to slew (R202) -/
  rem : Int
  /-- phase jump of the next microframe, and what it adds to the frame index -/
  jump : Option (Int × Int)
  /-- the microframe of a phase jump runs: what its end adds to the frame index -/
  landing : Option Int
  /-- first e and comparisons counted in step FREQ -/
  firstE : Option Int
  freqCount : Nat
  /-- trim before ACQUIRE (R204) -/
  before : Int
  /-- latest trims, newest first, at most 64 (R204) -/
  hist : List Int
  /-- consecutive comparisons within LOCK_WIN, and beyond 4 LOCK_WIN -/
  inWin : Nat
  outWin : Nat
  clampRun : Nat
  /-- boundary count, modulo the microframes per comparison, of the boundaries compared (R197, R202) -/
  anchor : Option Int
  /-- moment of a comparison boundary whose edge has not come, and an edge, in steps, whose boundary has not come
  (R199) -/
  boundAt : Option Nat
  edgeAt : Option Int
  /-- moment of the latest reference edge; the edges since the one last taken, none before the first pick (R199) -/
  lastEdge : Option Nat
  edges : Option Nat
  /-- the moment the latest edge was reported, and the edge before it: what the cycle of that report started with
  (R215) -/
  edgePrev : Option (Nat × Option Nat)
  /-- the comparison boundary that comes next has met its edge before the boundaries were anchored anew (R202) -/
  skip : Bool
  /-- ACQUIRE is entered at the next comparison (R201, R215) -/
  toAcquire : Bool
  /-- the moment HOLDOVER was last entered (R215) -/
  heldAt : Option Nat
  /-- a condition of R200 has held since the latest comparison -/
  badSeen : Bool
  /-- moment from which an edge is awaited where none has come; edge spacings off in a row; valid comparisons of a lost
  reference (R200) -/
  srcAt : Nat
  badRun : Nat
  goodRun : Nat
  /-- REF took its frame number from a wide pulse in this ACQUIRE (R208) -/
  numbered : Bool
  deriving DecidableEq, Repr

/-- A frame clock at reset: FREE, not acquiring. -/
def Clk.init : Clk :=
  { frindex := 0, count := 16384, lastBoundary := 0, frac := 0, len := 60000, trim := 0, sofTime := 0, phaseErr := 0,
    lastE := 0,
    ls := .free, acq := .off, clamped := false, refOk := false, phaseStep := false, integ := 0, preset := 0, rem := 0,
    jump := none, landing := none, firstE := none, freqCount := 0, before := 0, hist := [], inWin := 0, outWin := 0,
    clampRun := 0, anchor := none, boundAt := none, edgeAt := none, lastEdge := none, edges := none,
    edgePrev := none, skip := false, toAcquire := false, heldAt := none, badSeen := false, frameStart := 0, srcAt := 0,
    badRun := 0, goodRun := 0, numbered := false }

/-! ### Power dies -/

/-- Husk channel states (spec/07_husk_power_path.md R220), codes 0 to 5. -/
inductive HState where
  | off
  | ramp
  | settle
  | on
  | retryWait
  | latched
  deriving DecidableEq, Repr

/-- One point of a breaker curve: threshold in 10 mA and time code (spec/07_husk_power_path.md R232). -/
structure CurvePt where
  thresh : Nat
  time : Nat
  deriving DecidableEq, Repr

/-- One Husk channel on its power die (spec/07_husk_power_path.md R220-R241). -/
structure Husk where
  st : HState
  claim : Bool
  /-- attempts that R237 holds: one that the register page or a replug asked for, one that a PORT_POWER_REQ did, and a retry
  that is due -/
  pendOwn : Bool
  pendItem : Bool
  pendRetry : Bool
  hot : Bool
  retriesLeft : Nat
  offReason : Nat
  lastTrip : Nat
  /-- 0 none, 1 OPEN, 2 LOAD, 3 SHORT -/
  probe : Nat
  curvePend : Bool
  /-- active curve -/
  curve : List CurvePt
  /-- the attempt is a retry (R237) -/
  isRetry : Bool
  /-- start of the ramp, for t_on (R237) -/
  rampAt : Nat
  /-- V_OUT has reached 95 % of V_F (R227) -/
  v95 : Bool
  /-- released from fold-back at TRAMP (R226) -/
  released : Bool
  /-- the gate is fully enhanced (R227) -/
  full : Bool
  /-- moment PG_DLY last started (R221, R230) -/
  settleAt : Nat
  /-- off time of R237 in bit times -/
  tOff : Nat
  probeOn : Bool
  lastClass : Nat
  /-- a baseline class has been confirmed since entry (R239) -/
  baseline : Bool
  /-- breaker accumulators in eighths of a microsecond: L, then points 0 to 7 (R231) -/
  acc : List Nat
  /-- thermal poles in nanokelvin (R235) -/
  pole1 : Nat
  pole2 : Nat
  /-- the model's temperatures since the latest reading, summed, and how many (R244) -/
  heatSum : Int
  heatCnt : Nat
  /-- latest current in mA and V_DS in mV of the channel's own sense path (R244) -/
  mA : Nat
  vds : Nat
  /-- latest sample of the FET diode in °C (R235) -/
  diode : Int
  /-- moment of the latest trip (spec/08_regions_feeds_budgets.md R264) -/
  tripAt : Option Nat
  /-- PG_N asserted -/
  pgn : Bool
  /-- on (true) and off requests that wait for the region link, oldest first, with their item (R21) -/
  wait : List (Bool × Option Nat)
  deriving DecidableEq, Repr

/-- The reset curve (spec/07_husk_power_path.md R247, CURVEk). -/
def resetCurve : List CurvePt :=
  [⟨220, 104⟩, ⟨250, 96⟩, ⟨300, 88⟩, ⟨350, 80⟩, ⟨400, 64⟩, ⟨450, 48⟩, ⟨500, 32⟩, ⟨550, 16⟩]

/-- A channel at reset: OFF. -/
def Husk.init : Husk :=
  { st := .off, claim := false, pendOwn := false, pendItem := false, pendRetry := false, hot := false,
    retriesLeft := 0, offReason := 0, lastTrip := 0, probe := 0, curvePend := false, curve := resetCurve, isRetry := false, rampAt := 0,
    v95 := false, released := false, full := false, settleAt := 0, tOff := 0, probeOn := false, lastClass := 0,
    baseline := false, acc := [0, 0, 0, 0, 0, 0, 0, 0, 0], pole1 := 0, pole2 := 0, heatSum := 0, heatCnt := 0, mA := 0, vds := 0,
    diode := 0, tripAt := none, pgn := false, wait := [] }

/-- An attempt is held by R237. -/
def Husk.pendOn (x : Husk) : Bool := x.pendOwn || x.pendItem || x.pendRetry

/-- What a power die tells the control die; held while the link is lost or the control die is in reset
(spec/01_device_organisation.md R21). -/
inductive Report where
  | trip (n : PortId) (reason : Nat) (latched : Bool)
  | pgood (n : PortId)
  | powerLost (n : PortId)
  | replug (n : PortId) (old new : Nat)
  | tempWarn (n : PortId) (model : Bool) (temp : Int)
  | dieHot (n : PortId)
  | feedSwitch (b : Bool) (detail : Nat)
  | feedBad (b : Bool) (detail : Nat)
  | feedLost
  | shed (n : PortId) (detail : Nat)
  | podTherm (k : PodId)
  | noWriteBack
  deriving DecidableEq, Repr

/-- A region's feed selector and power die (spec/08_regions_feeds_budgets.md R248-R253,
spec/01_device_organisation.md R19-R26). Feed A is false, B is true. -/
structure Region where
  /-- connected feed; the path conducts when `closed` -/
  sel : Bool
  closed : Bool
  aGood : Bool
  bGood : Bool
  /-- a switch runs: the new feed and its DETAIL -/
  switching : Option (Bool × Nat)
  /-- fault of the connected feed not yet cleared: its DETAIL -/
  fault : Option Nat
  /-- moment of the last switch, for the 10 ms of R253 -/
  lastSwitch : Option Nat
  running : Bool
  /-- the selector has connected a feed since the die restarted (R441) -/
  everConnected : Bool
  linkUp : Bool
  lost : Bool
  parked : Bool
  /-- the write-back of R252 is not complete -/
  writeBack : Bool
  /-- the die has received no write-back since its own reset (R252) -/
  noWriteBack : Bool
  hot : Bool
  reports : List Report
  /-- the control die's copy of the settings it last had accepted (R252): offset and value -/
  copy : List (Nat × Word)
  copyCurve : List (List CurvePt)
  warned : Bool
  /-- feed a planned switch waits for, and whether CTRL.SWITCH asked for the one that waits or runs (R253, R266) -/
  plan : Option Bool
  planRs : Bool
  /-- the region's share of PKG.MEAS_I, held while its link is lost (R262) -/
  pkgCur : Nat
  /-- die junction as the control die last had it -/
  pkgTemp : Int
  /-- power-die junction in °C, sampled at 1 kHz (spec/07_husk_power_path.md R235) -/
  junction : Int
  /-- the region's share of PKG.CLAIM, held while its frames are stopped (R252, R259) -/
  pkgClaim : Nat
  /-- PWR_PRIO of the twelve ports, PKG.SHED.TIME and PKG.SHED.GAP as copied when the frames stopped (R262) -/
  prio : List Nat
  shedTime : Option Nat
  shedGap : Option Nat
  /-- the control die has a copy of the settings: frames have brought it since its own reset (R252, R54) -/
  copied : Bool
  /-- a feed that is not good stands below 4.00 V (R264) -/
  aLow : Bool
  bLow : Bool
  deriving DecidableEq, Repr

/-- A region at reset: no feed powers its die yet (spec/16_pins_and_electrical.md R411); POWER_DIE_RESTART starts a fed
one (R441). -/
def Region.init : Region :=
  { sel := false, closed := false, aGood := false, bGood := false, switching := none, fault := none,
    lastSwitch := none, running := false, everConnected := false, linkUp := false, lost := false, parked := false,
    writeBack := false, noWriteBack := false, hot := false, reports := [], copy := [], copyCurve := [],
    warned := false, plan := none, planRs := false, pkgCur := 0, pkgTemp := 0, junction := 0, pkgClaim := 0, prio := [],
    shedTime := none, shedGap := none, copied := false, aLow := false, bLow := false }

/-! ### Slices, Data Mover, capture -/

/-- Slice states (spec/09_slices.md R271), codes 0 to 4. -/
inductive SState where
  | none
  | active
  | resetting
  | removing
  | faulted
  deriving DecidableEq, Repr

/-- One slice (spec/09_slices.md R269-R287). `owns` fields are what its masks own (R270, R286). -/
structure Slice where
  st : SState
  gen : BitVec 16
  drained : Bool
  qps : BitVec 64
  ports : BitVec 48
  chs : BitVec 32
  cfs : BitVec 4
  winCause : Word
  winEn : Word
  peakUse : Nat
  deriving DecidableEq, Repr

/-- A slice at reset: NONE, drained. -/
def Slice.init : Slice :=
  { st := .none, gen := 0, drained := true, qps := 0, ports := 0, chs := 0, cfs := 0, winCause := 0, winEn := 0,
    peakUse := 0 }

/-- Data Mover channel states (spec/10_data_mover.md R291), codes 0 to 4. -/
inductive DState where
  | idle
  | pending
  | running
  | waiting
  | halted
  deriving DecidableEq, Repr

/-- What a WAITING channel waits for (spec/10_data_mover.md R303, spec/11_capture.md R325). -/
inductive DWait where
  | line (e : Nat)
  | frame (p : PortId) (k : Nat)
  | fifo (k : CfId)
  deriving DecidableEq, Repr

/-- One operand of a MOVE (spec/10_data_mover.md R298-R300): space, base, continue, offset or FIFO. -/
structure DOperand where
  sp : Nat
  base : Bool
  cont : Bool
  ofs : Nat
  deriving DecidableEq, Repr

/-- A MOVE, or a register-mode copy, in progress (spec/10_data_mover.md R301). -/
structure Move where
  src : DOperand
  dst : DOperand
  len : Nat
  done : Nat
  deriving DecidableEq, Repr

/-- One Data Mover channel (spec/10_data_mover.md R291-R312). -/
structure Dmch where
  st : DState
  result : Nat
  detail : Nat
  pc : Nat
  ptrS : Nat
  ptrD : Nat
  lc0 : Nat
  lc1 : Nat
  doneBytes : Nat
  /-- instruction at PC, once fetched -/
  instr : Option (BitVec 128)
  move : Option Move
  wait : Option DWait
  satisfied : Bool
  stop : Bool
  /-- halt asked by the run limit at the next instruction boundary (R295) -/
  limit : Bool
  /-- ABORTED at the next instruction boundary (R284 step 7) -/
  abort : Bool
  tries : Nat
  goAt : Nat
  gen : BitVec 16
  deriving DecidableEq, Repr

/-- A channel at reset: IDLE. -/
def Dmch.init : Dmch :=
  { st := .idle, result := 0, detail := 0, pc := 0, ptrS := 0, ptrD := 0, lc0 := 0, lc1 := 0, doneBytes := 0,
    instr := none, move := none, wait := none, satisfied := false, stop := false, limit := false, abort := false,
    tries := 0, goAt := 0, gen := 0 }

/-- One Data Mover engine: program RAM and bytes written below a KiB (spec/10_data_mover.md R296, R314). -/
structure Dm where
  ram : List Host.Cell
  part : Nat
  deriving DecidableEq, Repr

/-- What a capture word is (spec/11_capture.md R318-R320): a header not yet filled, or a word. -/
inductive CWord where
  | slot
  | header (w : BitVec 64)
  | data (w : BitVec 64)
  | marker (w : BitVec 64)
  deriving DecidableEq, Repr

/-- The open item of a capture FIFO (spec/11_capture.md R318). -/
structure COpen where
  pid : Byte
  fromDev : Bool
  cont : Bool
  dtime : Word
  bytes : Nat
  word : BitVec 64
  trunc : Bool
  deriving DecidableEq, Repr

/-- One capture FIFO (spec/11_capture.md R316-R326). Words are oldest first. -/
structure Cf where
  en : Bool
  words : List CWord
  item : Option COpen
  /-- the rest of the packet is ignored after a drop (R323) or a flush (R324) -/
  skipping : Bool
  /-- bytes of the packet so far, for SNAP and continuation (R318, R322) -/
  pktBytes : Nat
  /-- a packet is in progress with no open item after a tail timeout: its direction (R322) -/
  tailCut : Option Bool
  /-- the PID check of the packet in progress failed (R321) -/
  badPid : Bool
  /-- data words of the item the reader is in that it has not yet taken (R324) -/
  readLeft : Nat
  /-- fill words the read side supplies next (R324) -/
  fill : Nat
  peak : Nat
  deriving DecidableEq, Repr

/-- A FIFO at reset: disabled and empty. -/
def Cf.init : Cf :=
  { en := false, words := [], item := none, skipping := false, pktBytes := 0, tailCut := none, badPid := false,
    readLeft := 0, fill := 0, peak := 0 }

/-! ### Power domains, firmware, pins -/

/-- Domain states (spec/12_power_domains.md R331), codes 0 to 4. -/
inductive DomState where
  | on
  | ret
  | off
  | entering
  | exiting
  deriving DecidableEq, Repr

/-- Phase of an entry (spec/12_power_domains.md R333). -/
inductive Phase where
  | none
  | ask
  | save
  | gate
  deriving DecidableEq, Repr

/-- One power domain (spec/12_power_domains.md R330-R347). -/
structure Dom where
  st : DomState
  /-- 0 ON, 1 RET, 2 OFF -/
  target : Nat
  phase : Phase
  /-- the state an entry started from, and whether it leads to OFF -/
  fromRet : Bool
  toOff : Bool
  /-- an exit follows the gate (R347) -/
  thenOn : Bool
  /-- the last delaying reason and block -/
  delay : Option (Nat × Nat)
  lastReason : Nat
  lastBlock : Nat
  fails : Nat
  entries : Nat
  /-- the save RAM holds its registers (R336); the fields themselves keep the saved values -/
  hasSaved : Bool
  /-- an exit that runs started from RET: the contents kept there are still there -/
  held : Bool
  /-- a restore has failed: the domain never comes into service (R337) -/
  failed : Bool
  deriving DecidableEq, Repr

/-- A domain at reset. -/
def Dom.init (on : Bool) : Dom :=
  { st := if on then .on else .off, target := if on then 0 else 2, phase := .none, fromRet := false, toOff := false,
    thenOn := false, delay := none, lastReason := 0, lastBlock := 0, fails := 0, entries := 0,
    hasSaved := false, held := false, failed := false }

/-- A live or old record of the settings store (spec/13_firmware_and_settings.md R366). -/
structure SetRec where
  key : Nat
  schema : Nat
  serial : Nat
  payload : List (Word × Word)
  crc : Word
  commit : Word
  deriving DecidableEq, Repr

/-- Image states (spec/13_firmware_and_settings.md R350). -/
inductive ImgState where
  | invalid
  | trial
  | confirmed
  | confirmStart (target : Nat)
  deriving DecidableEq, Repr

/-- An entry of the boot record: the image state it gives, and whether its CRC-32 and its commit word, written last, are
valid (R350). -/
structure BootEntry where
  state : ImgState
  valid : Bool
  deriving DecidableEq, Repr

/-- The store die, OTP and straps: they outlive every reset of the control die (spec/13_firmware_and_settings.md
R349-R370, spec/16_pins_and_electrical.md R413). -/
structure Store where
  /-- entries of the boot-record sector in use, oldest first, and whether it is sector 2 (R349, R350) -/
  boot : List BootEntry
  boot2 : Bool
  /-- bytes of the Acorn region and of the reserved sectors, by their place in the die: nothing in the field writes
  them -/
  fixed : List Host.Cell
  slot : List Host.Cell
  /-- length in chunks of the image in the slot -/
  slotChunks : Nat
  /-- records, oldest first -/
  records : List SetRec
  serial : Nat
  /-- the sectors of the settings ring; bytes used in the active one, and its place in the ring (R366, R370) -/
  ring : List Nat
  fill : Nat
  active : Nat
  /-- erase counts of the 128 sectors -/
  erases : List Nat
  spares : Nat
  readOnly : Bool
  secCount : Nat
  debugFuse : Bool
  straps : BitVec 5
  deriving DecidableEq, Repr

/-- The store before anything was written to it (log entry 10). -/
def Store.init : Store :=
  { boot := [], boot2 := false, fixed := [], slot := [], slotChunks := 0, records := [], serial := 0,
    ring := (List.range 16).map (fun i => 51 + i), fill := 0, active := 0, erases := List.replicate 128 0,
    spares := 4, readOnly := false, secCount := 0,
    debugFuse := false, straps := 0 }

/-- MC_STATE (spec/13_firmware_and_settings.md R373). -/
inductive McState where
  | loader
  | running
  | acornOnly
  deriving DecidableEq, Repr

/-- UPD_STATE (spec/13_firmware_and_settings.md R373). -/
inductive UpdState where
  | idle
  | receiving
  | verified
  | activating
  deriving DecidableEq, Repr

/-- What the header of an image says of it (spec/13_firmware_and_settings.md R351). -/
structure ImgHead where
  version : Word
  svn : Nat
  schemaMin : Nat
  schemaMax : Nat
  deriving DecidableEq, Repr

/-- The firmware block (spec/13_firmware_and_settings.md R353-R373). -/
structure Fw where
  mc : McState
  /-- Acorn has started and read the boot record -/
  served : Bool
  upd : UpdState
  updSmbus : Bool
  /-- running command: TAG and the result it will end with, none while an activation runs -/
  cmd : Option (Nat × Option Nat)
  chunks : List Nat
  expected : Nat
  /-- the boot-record entry that ends the running update command will verify (R357) -/
  storeOk : Bool
  /-- the running UPD_CONFIRM has written CONFIRM_START (R363) -/
  confirming : Bool
  unreadable : Bool
  replayDone : Bool
  why : Nat
  starts : Nat
  /-- RUN_VERSION and RUN_SVN; the image that the management controller was last made to enter (R353, R359) -/
  runVersion : Word
  runSvn : Word
  loaded : ImgHead
  buf : List Host.Cell
  ptr : Nat
  /-- the engine control store holds microcode; the bank in use; what the two banks of the store, and of the management
  controller's SRAM, hold (R353, R354, R359) -/
  ucode : Bool
  bank : Bool
  ustore : Vector (List Host.Cell) 2
  sram : Vector (List Host.Cell) 2
  /-- dispatch paused for activation (R359) -/
  paused : Bool
  skipped : Nat
  result : Word
  deriving DecidableEq, Repr

/-- The firmware block at reset: LOADER, nothing loaded. -/
def Fw.init : Fw :=
  { mc := .loader, served := false, upd := .idle, updSmbus := false, cmd := none, chunks := [], expected := 0, storeOk := true,
    confirming := false, unreadable := false, replayDone := false, why := 0, starts := 0, runVersion := 0, runSvn := 0,
    loaded := ⟨0, 0, 0, 0⟩, buf := [], ptr := 0, ucode := false, bank := false, ustore := Vector.replicate 2 [],
    sram := Vector.replicate 2 [], paused := false, skipped := 0,
    result := 0 }

/-- The clocks and holds of the control die (spec/01_device_organisation.md R34, R438,
spec/15_register_map.md R404, R405). -/
structure Ctl where
  /-- PERST_N is low; it has been asserted since power-on reset and holds the control die -/
  perstLow : Bool
  perstHold : Bool
  timedHold : Bool
  pllHold : Bool
  thermHold : Bool
  pllLock : Bool
  pllStopped : Bool
  /-- the PLL was started again by spec/12_power_domains.md R341 and has not locked yet -/
  pllWaits : Bool
  onXtal : Bool
  qual : Bool
  /-- the RC clocked CLK_AON at some moment of the sleep (spec/06_frame_timing.md R213) -/
  rcUsed : Bool
  fatal : Bool
  /-- a hot reset has run since the FATAL (R388) -/
  fatalReset : Bool
  /-- claims are being rebuilt (spec/08_regions_feeds_budgets.md R259) -/
  rebuild : Bool
  sleepTicks : Nat
  sclHeld : Bool
  /-- an SMBus transaction is in progress (spec/12_power_domains.md R334) -/
  smbTxn : Bool
  /-- a scrub pass is writing back a corrected word of the Endpoint Buffer RAM (R334, log entry 63) -/
  scrubWb : Bool
  warned : Bool
  fsyncOk : Bool
  /-- width in ns of the FSYNC_OUT pulse of the latest REF boundary, 0 without one (R207) -/
  fsyncOut : Nat
  /-- the counter window in progress was abandoned (R211) -/
  windowOff : Bool
  /-- an access to an off block, and one of wrong size, have been recorded since their cause was last cleared
  (spec/12_power_domains.md R344, spec/15_register_map.md R402) -/
  accOffSeen : Bool
  accSizeSeen : Bool
  /-- frequency of each word-clock pin in mHz as last measured, 0 for an absent clock (spec/06_frame_timing.md R212) -/
  awclk : Vector Word 4
  deriving DecidableEq, Repr

/-- The control die after power-on reset. -/
def Ctl.init : Ctl :=
  { perstLow := false, perstHold := false, timedHold := false, pllHold := false, thermHold := false, pllLock := false,
    pllStopped := false, pllWaits := false, onXtal := false, qual := false, rcUsed := false, fatal := false, fatalReset := true,
    rebuild := false, sleepTicks := 0, sclHeld := false, smbTxn := false, scrubWb := false, warned := false,
    fsyncOk := false, fsyncOut := 0,
    windowOff := false, accOffSeen := false, accSizeSeen := false, awclk := Vector.replicate 4 0 }

/-- The PCI Express link and configuration bits the rules use (spec/12_power_domains.md R334,
spec/14_attention_and_errors.md R375). -/
structure Pci where
  ready : Bool
  training : Bool
  d3hot : Bool
  inL1 : Bool
  inL2 : Bool
  msixEn : Bool
  msixMask : Bool
  vecMask : BitVec 33
  /-- address and data of each entry of the MSI-X table (spec/12_power_domains.md R330) -/
  vecAddr : Vector (BitVec 64) 33
  vecData : Vector Word 33
  /-- Uncorrectable Internal Error reported through AER (R387), its mask and its severity (fatal), and the enables of the
  fatal and non-fatal error messages -/
  aerInternal : Bool
  aerMasked : Bool
  aerSevere : Bool
  fatalEn : Bool
  nonFatalEn : Bool
  /-- base addresses of BAR0 and BAR2 (spec/15_register_map.md R391) -/
  bar0 : BitVec 64
  bar2 : BitVec 64
  /-- PASID Enable (spec/00_scope.md R5) -/
  pasidEn : Bool
  /-- lanes and speed code, 1 to 4 for 2.5 to 16 GT/s, of the trained link (R5) -/
  width : Nat
  speed : Nat
  deriving DecidableEq, Repr

/-- Configuration space after reset (log entry 11). -/
def Pci.init : Pci :=
  { ready := false, training := true, d3hot := false, inL1 := false, inL2 := false, msixEn := false,
    msixMask := false, vecMask := BitVec.allOnes 33, vecAddr := Vector.replicate 33 0, vecData := Vector.replicate 33 0,
    aerInternal := false, aerMasked := true, aerSevere := true, fatalEn := false, nonFatalEn := false, bar0 := 0,
    bar2 := 0, pasidEn := false, width := 0, speed := 0 }

/-- Attention: the level of INT_N, the vector conditions, pending bits and messages (R374-R376). -/
structure Att where
  intN : Bool
  cond : BitVec 33
  pend : BitVec 33
  intx : Bool
  /-- messages sent and not yet left, oldest first: vector, or 33 Assert_INTA, 34 Deassert_INTA, 35 ERR_FATAL,
  36 ERR_NONFATAL -/
  msgs : List Nat
  /-- the latest cycle in which attention was judged, the conditions at its start, and the pending bits that fell in it:
  a summary that falls and rises in one cycle has not fallen (R389) -/
  cycle : Nat
  start : BitVec 33
  fell : BitVec 33
  deriving DecidableEq, Repr

/-- Attention at reset: nothing asserted. -/
def Att.init : Att :=
  { intN := false, cond := 0, pend := 0, intx := false, msgs := [], cycle := 0, start := 0, fell := 0 }

/-- States of the IEEE 1149.1 TAP controller (spec/16_pins_and_electrical.md R429, log entry 12). -/
inductive TapState where
  | reset
  | idle
  | selDr
  | capDr
  | shDr
  | ex1Dr
  | pauDr
  | ex2Dr
  | updDr
  | selIr
  | capIr
  | shIr
  | ex1Ir
  | pauIr
  | ex2Ir
  | updIr
  deriving DecidableEq, Repr

/-- The test access port (log entry 12): controller state, instruction, shift registers, the update stage of the
boundary cells, how many captures of the cells have run, and TDO, none while it floats. -/
structure Tap where
  st : TapState
  ir : BitVec 4
  irShift : BitVec 4
  dr : List Bool
  cells : List Bool
  captures : Nat
  tdo : Option Bool
  deriving DecidableEq, Repr

/-- A host-memory access leaving the device (spec/01_device_organisation.md R29-R31): whose it is, where it goes
and what it carries. -/
inductive PostedKind where
  | data (addr : BitVec 64) (len : Nat)
  | cq (q : QpId) (dst : BitVec 64) (slot : Nat) (record : BitVec 128)
  | mirror (q : QpId) (dst : BitVec 64) (record : BitVec 128)
  | context (dst : BitVec 64) (port : PortId) (addr ep : Nat) (dir : Bool) (dw : BitVec 128)
  | pktList (dst : BitVec 64) (dw1 : Word)
  | mover (c : ChId) (addr : BitVec 64) (ws : List (BitVec 64))
  | moverFill (c : ChId) (addr : BitVec 64) (len : Nat)
  deriving DecidableEq, Repr

/-- A posted write with its owner (none: the physical function) and the PASID it carries, its generation, and its
no-snoop and relaxed-ordering attributes (R29-R31, spec/09_slices.md R282). -/
structure Posted where
  kind : PostedKind
  owner : Option SliceId
  gen : BitVec 16
  noSnoop : Bool
  relaxed : Bool := false
  /-- moment it was issued (spec/09_slices.md R288) -/
  since : Nat := 0
  pasid : Option Nat := none
  deriving DecidableEq, Repr

/-- A read the device asks of host memory (spec/01_device_organisation.md R30, R31): ring slots, a device-table entry,
an endpoint context, a packet list, a transfer buffer, a Data Mover program or its source; address and bytes. -/
inductive ReadKind where
  | ring (q : QpId) (src : BitVec 64) (len : Nat)
  | devTable (src : BitVec 64)
  | context (src : BitVec 64)
  | pktList (src : BitVec 64) (len : Nat)
  | data (src : BitVec 64) (len : Nat)
  | program (c : ChId) (src : BitVec 64)
  | mover (c : ChId) (src : BitVec 64) (len : Nat)
  deriving DecidableEq, Repr

/-- A read request with its owner (none: the physical function), its no-snoop attribute and the PASID it carries (R30,
R31), and the moment it was issued: it does not pass a write issued before it (spec/10_data_mover.md R309). -/
structure ReadReq where
  kind : ReadKind
  owner : Option SliceId
  noSnoop : Bool
  pasid : Option Nat := none
  since : Nat := 0
  deriving DecidableEq, Repr

/-- The PEC that an SMBus read returns: none clocked, that of its bytes, or a wrong one (spec/15_register_map.md R400,
spec/14_attention_and_errors.md R386). -/
inductive PecAnswer where
  | absent
  | good (b : Byte)
  | bad
  deriving DecidableEq, Repr

/-- The answer to the last read (spec/15_register_map.md R397, R400; spec/14_attention_and_errors.md R386). -/
inductive Answer where
  | none
  | words (ws : List Word)
  | smb (ws : List Word) (pec : PecAnswer)
  | poisoned
  | nack
  | retryStatus
  | pmeAck
  deriving DecidableEq, Repr

/-- Figures of the counter window in progress and the last one (spec/03_dispatch_scheduler.md R126). -/
structure EngStat where
  busy : Nat
  occ : Nat
  lastBusy : Nat
  lastOcc : Nat
  deriving DecidableEq, Repr

/-- A result that reached a stopped engine in the activation pause (spec/13_firmware_and_settings.md R359): the end of a
transaction in its Port Sequencer, or the completion of a read of host memory. -/
inductive Late where
  | tx (p : PortId) (r : Option Resp)
  | context (id : Nat) (res : CtxResult)
  | list (id : Nat) (res : Option (List (BitVec 64)))
  | data (id : Nat) (ok : Bool)
  | nakGap (id : Nat)
  | timeout (id : Nat)
  deriving DecidableEq, Repr

/-! ### Stops -/

/-- No meaning of this model faults: every rule of the spec gives the block an effect. The type has one reason,
kept for a command queue that an environment outside the model corrupts; nothing raises it (safe). -/
inductive Fault where
  | none
  deriving DecidableEq, Repr

/-- Why a command is not carried out. -/
inductive Refusal where
  /-- raised only by an arm of the dispatch whose meaning is not written (safe) -/
  | notModelled (mnemonic : String)
  deriving DecidableEq, Repr

/-! ### The whole state -/

/-- The state of the block. -/
structure State where
  /-- waiting commands, first in first out -/
  pending : List Instr
  /-- bit times since the model's start (log entry 2) -/
  now : Nat
  /-- number of the next stored item -/
  nextId : Nat
  /-- numbers the moments of entry to READY -/
  ordinal : Nat
  /-- counter the free values are applied to (log entry 13) -/
  free : Nat
  /-- registers that differ from their Reset value: BAR0 offset and value, offsets rising -/
  regs : List (Nat × Word)
  /-- CAUSE bits that happenings have set in the present cycle: page, or 512 and the slice for a window's CAUSE, and bit; and
  bits of unit registers, by BAR0 offset (spec/14_attention_and_errors.md R379, R389) -/
  causesNow : List (Nat × Nat)
  seq : Word
  dtime : BitVec 64
  /-- CLK_CORE cycles into the 12-cycle pattern of DTIME -/
  dphase : Nat
  qps : Vector Qp 64
  wis : List Item
  park : List Parked
  events : List Waiting
  /-- last queue pair visited (R74) -/
  visitPtr : Nat
  perPtr : Nat
  rrPtr : Nat
  wisPeak : Nat
  flowPeak : Nat
  pfPeak : Nat
  poolPeak : Nat
  poolWaits : List Nat
  engs : Vector EngStat 16
  ctxs : List Ctx
  closed : List ClosedCtx
  flushing : Bool
  ports : Vector Port 48
  clks : Vector Clk 48
  refClk : Clk
  husks : Vector Husk 48
  regions : Vector Region 4
  /-- levels that are judged again at their gap, with the moment it started (spec/08_regions_feeds_budgets.md R261,
  R264) -/
  gaps : List (ShedLevel × Nat)
  /-- readings in a row for which a current level has been over (R261) -/
  overRuns : List (ShedLevel × Nat)
  slices : Vector Slice 32
  dmchs : Vector Dmch 32
  dms : Vector Dm 4
  cfs : Vector Cf 4
  doms : Vector Dom 20
  store : Store
  fw : Fw
  ctl : Ctl
  pci : Pci
  att : Att
  tap : Tap
  posted : List Posted
  /-- reads asked of host memory and not yet on the link, oldest first (spec/01_device_organisation.md R31) -/
  reads : List ReadReq
  /-- results held for the engines during the activation pause, oldest first -/
  late : List Late
  /-- high dwords latched by reads of low dwords: source, offset of the high dword, value (R397) -/
  latches : List (Source × Nat × Word)
  rd : Answer
  deriving DecidableEq, Repr

/-- Counter figures at reset. -/
def EngStat.init : EngStat := { busy := 0, occ := 0, lastBusy := 0, lastOcc := 0 }

/-- The machine right after power-on reset (spec/00_scope.md R16, spec/01_device_organisation.md R53): every field
at its Reset value, domains AON to CAP ON and the Pods OFF, nothing enabled, no command waiting. -/
def State.reset : State :=
  { pending := [], now := 0, nextId := 0, ordinal := 0, free := 0, regs := [], causesNow := [], seq := 0, dtime := 0, dphase := 0,
    qps := Vector.replicate 64 Qp.init, wis := [], park := [], events := [], visitPtr := 63, perPtr := 0, rrPtr := 0,
    wisPeak := 0, flowPeak := 0, pfPeak := 0, poolPeak := 0, poolWaits := [],
    engs := Vector.replicate 16 EngStat.init, ctxs := [], closed := [], flushing := false,
    ports := Vector.replicate 48 Port.init, clks := Vector.replicate 48 Clk.init, refClk := Clk.init,
    husks := Vector.replicate 48 Husk.init, regions := Vector.replicate 4 Region.init,
    gaps := [], overRuns := [],
    slices := Vector.replicate 32 Slice.init, dmchs := Vector.replicate 32 Dmch.init,
    dms := Vector.replicate 4 { ram := [], part := 0 }, cfs := Vector.replicate 4 Cf.init,
    doms := Vector.ofFn (fun d => Dom.init (decide (d.val < 8))), store := Store.init, fw := Fw.init,
    ctl := Ctl.init, pci := Pci.init,
    att := Att.init,
    tap := { st := .reset, ir := 1, irShift := 0, dr := [], cells := [], captures := 0, tdo := none }, posted := [],
    reads := [], late := [], latches := [],
    rd := .none }

end Sys2Proof.Machine
end

