-- ==== Sys2Proof/Machine/Ops.lean ====
section
/-!
DEFINITION. The named operations over registers, sparse memory, units and items that every meaning is written
with.
-/

namespace Sys2Proof.Machine

open Sys2Proof

/-- What a meaning answers. -/
abbrev Result := Host.Outcome State Fault Refusal

/-! ### Sparse cells in one canonical form -/

/-- The value at a key; an unlisted key holds its default. -/
def cellGet {α : Type} (dflt : Nat → α) : List (Nat × α) → Nat → α
  | [], k => dflt k
  | c :: t, k => if c.1 = k then c.2 else cellGet dflt t k

/-- Writes a value at a key; writing the default removes the entry. -/
def cellSet {α : Type} [DecidableEq α] (dflt : Nat → α) (k : Nat) (v : α) : List (Nat × α) → List (Nat × α)
  | [] => if v = dflt k then [] else [(k, v)]
  | c :: t =>
    if c.1 < k then c :: cellSet dflt k v t
    else if c.1 = k then (if v = dflt k then t else (k, v) :: t)
    else (if v = dflt k then c :: t else (k, v) :: c :: t)

/-- The canonical form: keys strictly rising, no entry equal to its default. -/
def cellsWf {α : Type} [DecidableEq α] (dflt : Nat → α) : List (Nat × α) → Bool
  | [] => true
  | c :: t => decide (c.2 ≠ dflt c.1) && t.all (fun d => decide (c.1 < d.1)) && cellsWf dflt t

/-- An unlisted byte of a RAM reads 0 (spec/01_device_organisation.md R54). -/
def zeroByte : Nat → Byte := fun _ => 0

/-- The canonical form of a RAM of the device. -/
def Memory.wf (m : List Host.Cell) : Bool := cellsWf zeroByte m

/-- One byte of a RAM. -/
def memGet (m : List Host.Cell) (a : Nat) : Byte := cellGet zeroByte m a

/-- Writes one byte of a RAM. -/
def memSet (m : List Host.Cell) (a : Nat) (b : Byte) : List Host.Cell := cellSet zeroByte a b m

/-- `n` bytes from address `a`, little-endian (spec/00_scope.md R10). -/
def memRead (m : List Host.Cell) (a : Nat) : Nat → Nat
  | 0 => 0
  | n + 1 => (memGet m a).toNat + 256 * memRead m (a + 1) n

/-- Writes `n` bytes of `v` at address `a`, little-endian (R10). -/
def memWrite (m : List Host.Cell) (a : Nat) : Nat → Nat → List Host.Cell
  | 0, _ => m
  | n + 1, v => memWrite (memSet m a (BitVec.ofNat 8 v)) (a + 1) n (v / 256)

/-- The bytes from address `a`, in order. -/
def memBytes (m : List Host.Cell) (a n : Nat) : List Byte := (List.range n).map (fun i => memGet m (a + i))

/-! ### Fields -/

/-- Bits [lo + len - 1 : lo] of a number. -/
def bits (w lo len : Nat) : Nat := w / 2 ^ lo % 2 ^ len

/-- One bit of a number. -/
def bitAt (w i : Nat) : Bool := decide (bits w i 1 = 1)

/-- 1 for true. -/
def b2n (b : Bool) : Nat := if b then 1 else 0

/-- A field of a register value replaced. -/
def putBits (w : Word) (lo len v : Nat) : Word :=
  let m := BitVec.ofNat 32 ((2 ^ len - 1) * 2 ^ lo)
  (w &&& ~~~m) ||| (BitVec.ofNat 32 (v % 2 ^ len * 2 ^ lo))

/-- A two's-complement field. -/
def signed (len v : Nat) : Int :=
  if v % 2 ^ len < 2 ^ (len - 1) then (v % 2 ^ len : Nat) else (v % 2 ^ len : Nat) - (2 ^ len : Nat)

/-- An integer as a field of `len` bits. -/
def toField (len : Nat) (i : Int) : Nat := (i % ((2 ^ len : Nat) : Int)).toNat

/-- Clamps an integer to ±limit. -/
def clampTo (limit : Nat) (i : Int) : Int := max (-(limit : Int)) (min (limit : Int) i)

/-! ### Registers -/

/-- BAR0 offset of a register (spec/15_register_map.md R391). -/
def at_ (page o : Nat) : Nat := page * 4096 + o

def qpPage (q : QpId) : Nat := 0x010 + q.val
def portPage (p : PortId) : Nat := 0x080 + p.val
def huskPage (n : PortId) : Nat := 0x0C0 + n.val
def regionPage (m : RegId) : Nat := 0x0F0 + m.val
def podPage (k : PodId) : Nat := 0x0F8 + k.val / 2
def dmchPage (c : ChId) : Nat := 0x100 + c.val
def dmPage (e : DmId) : Nat := 0x120 + e.val
def cfPage (k : CfId) : Nat := 0x128 + k.val
def slicePage (s : SliceId) : Nat := 0x140 + s.val
def tePage (e : EngId) : Nat := 0x060 + e.val

/-- The stored value of a register. -/
def State.reg (s : State) (ofs : Nat) : Word := cellGet resetValue s.regs ofs

/-- Stores a register value. -/
def State.setReg (s : State) (ofs : Nat) (v : Word) : State := { s with regs := cellSet resetValue ofs v s.regs }

/-- A field of a stored register. -/
def State.fld (s : State) (ofs lo len : Nat) : Nat := bits (s.reg ofs).toNat lo len

/-- Stores a field of a register. -/
def State.setFld (s : State) (ofs lo len v : Nat) : State := s.setReg ofs (putBits (s.reg ofs) lo len v)

/-- One bit of a stored register. -/
def State.flag (s : State) (ofs i : Nat) : Bool := bitAt (s.reg ofs).toNat i

/-- Sets a cause bit of a page (spec/15_register_map.md R394); a clearing write of the same cycle finds it set anew
(spec/14_attention_and_errors.md R379). -/
def State.cause (s : State) (page i : Nat) : State :=
  { s.setFld (at_ page 8) i 1 1 with causesNow := (page, i) :: s.causesNow }

/-- Sets a bit of a unit register, which stands among the CAUSE bits of the cycle by its offset: no page number is so high
(spec/14_attention_and_errors.md R379). -/
def State.setUnit (s : State) (o i : Nat) : State :=
  { s.setFld o i 1 1 with causesNow := (o, i) :: s.causesNow }

/-- The CAUSE bits of a page, or the bits of a unit register, that happenings have set in the present cycle. -/
def State.causedNow (s : State) (page : Nat) : Word :=
  s.causesNow.foldl (fun w c => if c.1 = page then w ||| (1#32 <<< c.2) else w) 0

/-- Sets a cause bit if a condition holds. -/
def State.causeIf (s : State) (c : Bool) (page i : Nat) : State := if c then s.cause page i else s

/-- Adds to a counter field that saturates. -/
def State.satF (s : State) (ofs lo len n : Nat) : State :=
  s.setFld ofs lo len (min (s.fld ofs lo len + n) (2 ^ len - 1))

/-- Adds one to a 32-bit saturating counter. -/
def State.sat (s : State) (ofs : Nat) : State := s.satF ofs 0 32 1

/-- Adds to a 32-bit wrapping counter. -/
def State.wrap (s : State) (ofs n : Nat) : State := s.setReg ofs (s.reg ofs + BitVec.ofNat 32 n)

/-- Registers that a test selects take their Reset value (spec/15_register_map.md R398). -/
def State.resetRegs (s : State) (sel : Nat → Bool) : State := { s with regs := s.regs.filter (fun c => !sel c.1) }

/-- Clears a list of counters, whose Reset value is 0. -/
def State.clearRegs (s : State) (l : List Nat) : State := s.resetRegs (fun o => l.contains o)

/-- A 64-bit register at a low-dword offset. -/
def State.reg64 (s : State) (ofs : Nat) : Nat := (s.reg ofs).toNat + 2 ^ 32 * (s.reg (ofs + 4)).toNat

/-! ### Units -/

/-- Replaces one member of a group. -/
def vset {α : Type} {n : Nat} (v : Vector α n) (i : Fin n) (x : α) : Vector α n := v.set i.val x i.isLt

def State.modQp (s : State) (q : QpId) (f : Qp → Qp) : State := { s with qps := vset s.qps q (f s.qps[q]) }
def State.modPort (s : State) (p : PortId) (f : Port → Port) : State :=
  { s with ports := vset s.ports p (f s.ports[p]) }
def State.modHusk (s : State) (n : PortId) (f : Husk → Husk) : State :=
  { s with husks := vset s.husks n (f s.husks[n]) }
def State.modRegion (s : State) (m : RegId) (f : Region → Region) : State :=
  { s with regions := vset s.regions m (f s.regions[m]) }
def State.modSlice (s : State) (i : SliceId) (f : Slice → Slice) : State :=
  { s with slices := vset s.slices i (f s.slices[i]) }
def State.modCh (s : State) (c : ChId) (f : Dmch → Dmch) : State :=
  { s with dmchs := vset s.dmchs c (f s.dmchs[c]) }
def State.modDm (s : State) (e : DmId) (f : Dm → Dm) : State := { s with dms := vset s.dms e (f s.dms[e]) }
def State.modCf (s : State) (k : CfId) (f : Cf → Cf) : State := { s with cfs := vset s.cfs k (f s.cfs[k]) }
def State.modDom (s : State) (d : DomId) (f : Dom → Dom) : State := { s with doms := vset s.doms d (f s.doms[d]) }
def State.modEng (s : State) (e : EngId) (f : EngStat → EngStat) : State :=
  { s with engs := vset s.engs e (f s.engs[e]) }
def State.modStore (s : State) (f : Store → Store) : State := { s with store := f s.store }
def State.modFw (s : State) (f : Fw → Fw) : State := { s with fw := f s.fw }
def State.modCtl (s : State) (f : Ctl → Ctl) : State := { s with ctl := f s.ctl }
def State.modPci (s : State) (f : Pci → Pci) : State := { s with pci := f s.pci }
def State.modAtt (s : State) (f : Att → Att) : State := { s with att := f s.att }

/-- A frame clock (spec/06_frame_timing.md R192, R206). -/
def State.clk (s : State) : ClkId → Clk
  | .port p => s.clks[p]
  | .ref => s.refClk

/-- Changes a frame clock. -/
def State.modClk (s : State) (k : ClkId) (f : Clk → Clk) : State :=
  match k with
  | .port p => { s with clks := vset s.clks p (f s.clks[p]) }
  | .ref => { s with refClk := f s.refClk }

/-- The place of a slice window's CAUSE register among the pages whose causes of the present cycle are kept. -/
def winCausePage (i : SliceId) : Nat := 512 + i.val

/-- Sets a cause bit of a slice window's control page (spec/09_slices.md R281). -/
def State.winCauseSet (s : State) (i : SliceId) (b : Nat) : State :=
  { s.modSlice i (fun x => { x with winCause := x.winCause ||| (1#32 <<< b) }) with
    causesNow := (winCausePage i, b) :: s.causesNow }

/-- All members of a group, in number order. -/
def allFin (n : Nat) : List (Fin n) := List.finRange n

/-- Applies a change for every member of a list. -/
def State.forAll {α : Type} (s : State) (l : List α) (f : State → α → State) : State := l.foldl f s

/-! ### Items and contexts -/

/-- The item with a number, if it is in the store. -/
def State.item? (s : State) (id : Nat) : Option Item := s.wis.find? (fun it => it.id == id)

/-- Changes one item. -/
def State.modItem (s : State) (id : Nat) (f : Item → Item) : State :=
  { s with wis := s.wis.map (fun it => if it.id = id then f it else it) }

/-- Changes the progress of one item. -/
def State.modX (s : State) (id : Nat) (f : Xfer → Xfer) : State :=
  s.modItem id (fun it => { it with x := f it.x })

/-- The context of an endpoint, if it is OPEN or HALTED. -/
def State.ctx? (s : State) (p : PortId) (addr ep : Nat) (dir : Bool) : Option Ctx :=
  s.ctxs.find? (fun c => c.port == p && c.addr == addr && c.ep == ep && c.dir == dir)

/-- Changes the context of an endpoint. -/
def State.modCtx (s : State) (p : PortId) (addr ep : Nat) (dir : Bool) (f : Ctx → Ctx) : State :=
  { s with ctxs := s.ctxs.map (fun c =>
      if c.port = p ∧ c.addr = addr ∧ c.ep = ep ∧ c.dir = dir then f c else c) }

/-- A fresh free value (log entry 13). -/
def State.fresh (s : State) : BitVec 64 × State := (Config.freeValue s.free, { s with free := s.free + 1 })

/-- Bit times in a microsecond (spec/01_device_organisation.md R32). -/
def usTicks : Nat := 480

/-- Microseconds since a moment. -/
def State.usSince (s : State) (t : Nat) : Nat := (s.now - t) / usTicks

/-- The region of a port (R23). -/
def regionOf (p : PortId) : RegId := ⟨p.val / 12, by have := p.isLt; omega⟩

/-- The Pod of a port (R23). -/
def podOf (p : PortId) : PodId := ⟨p.val / 4, by have := p.isLt; omega⟩

/-- The domain of a Pod (spec/12_power_domains.md R330). -/
def podDom (k : PodId) : DomId := ⟨8 + k.val, by have := k.isLt; omega⟩

/-- The ports of a region. -/
def portsOfRegion (m : RegId) : List PortId := (allFin 48).filter (fun p => regionOf p = m)

/-- The ports of a Pod. -/
def portsOfPod (k : PodId) : List PortId := (allFin 48).filter (fun p => podOf p = k)

/-- The region whose power die judges a level, none for a level of the control die (spec/08_regions_feeds_budgets.md
R260). -/
def shedRegion : ShedLevel → Option RegId
  | .pod k => some ⟨k.val / 3, by have := k.isLt; omega⟩
  | .podT k => some ⟨k.val / 3, by have := k.isLt; omega⟩
  | .region m => some m
  | _ => none

/-- The level runs on the control die. -/
def shedOnControl (l : ShedLevel) : Bool := (shedRegion l).isNone

/-! Domain numbers (spec/12_power_domains.md R330). -/

def domAON : DomId := 0
def domHOST : DomId := 1
def domSCHED : DomId := 2
def domEBR : DomId := 3
def domTIME : DomId := 4
def domMC : DomId := 5
def domDM : DomId := 6
def domCAP : DomId := 7

/-- A domain is ON. -/
def State.domOn (s : State) (d : DomId) : Bool := decide (s.doms[d].st = .on)

/-- The control die is held in reset (spec/01_device_organisation.md R438, R27, spec/15_register_map.md R404). -/
def State.held (s : State) : Bool :=
  s.ctl.perstHold || s.ctl.timedHold || s.ctl.pllHold || s.ctl.thermHold

/-- The management controller runs: MC is ON and the control die is not held. -/
def State.mcRuns (s : State) : Bool := !s.held && s.domOn domMC

/-- FATAL is in force (spec/14_attention_and_errors.md R387). -/
def State.fatal (s : State) : Bool := s.ctl.fatal

/-- A block of a root-derived clock runs: its domain is ON and the PLL is locked (R34). -/
def State.rootOn (s : State) (d : DomId) : Bool := s.domOn d && s.ctl.pllLock

/-- A Port Sequencer and its PHY run: the Pod is ON and CLK_PHY is not stopped (spec/01_device_organisation.md R32, R34,
spec/12_power_domains.md R333). -/
def State.portOn (s : State) (p : PortId) : Bool := s.rootOn (podDom (podOf p))

/-- What happens at a port can take effect: its Port Sequencer runs and the control die is not held. -/
def State.portLive (s : State) (p : PortId) : Bool := !s.held && s.portOn p

end Sys2Proof.Machine
end

