-- ==== Sys2Proof/Machine/Operands.lean ====
section
/-!
DEFINITION. Operand forms: the fields of a submission entry and its fetch checks, endpoint contexts, completion,
event and mirror records, packet descriptors, and endpoint charges.
-/

namespace Sys2Proof.Machine

open Sys2Proof

/-! ### Submission entries (spec/02_queue_pairs_and_doorbells.md R65) -/

/-- A field of an entry, by its bit position in the 256 bits. -/
def ef (e : Entry) (lo len : Nat) : Nat := bits e.toNat lo len

def eOp (e : Entry) : Nat := ef e 0 8
def eFence (e : Entry) : Bool := ef e 8 1 = 1
def eEvwait (e : Entry) : Bool := ef e 9 1 = 1
def eShortOk (e : Entry) : Bool := ef e 10 1 = 1
def eNoCqe (e : Entry) : Bool := ef e 11 1 = 1
def eChain (e : Entry) : Bool := ef e 12 1 = 1
def eTag (e : Entry) : Nat := ef e 16 16
def ePort (e : Entry) : Nat := ef e 32 6
def eAddr (e : Entry) : Nat := ef e 38 7
def eEp (e : Entry) : Nat := ef e 45 4
def eDir (e : Entry) : Bool := ef e 49 1 = 1
def eHubAddr (e : Entry) : Nat := ef e 50 7
def eHubPort (e : Entry) : Nat := ef e 57 7
def eBuffer (e : Entry) : BitVec 64 := BitVec.ofNat 64 (ef e 64 64)
def eLength (e : Entry) : Nat := ef e 128 24
def eMult (e : Entry) : Nat := ef e 152 2
def eInterval (e : Entry) : Nat := ef e 154 4
def eType (e : Entry) : Nat := ef e 158 2
/-- bmRequestType, bRequest, wValue, wIndex and wLength of a CONTROL entry. -/
def eReqType (e : Entry) : Nat := ef e 160 8
def eRequest (e : Entry) : Nat := ef e 168 8
def eValue (e : Entry) : Nat := ef e 176 16
def eIndex (e : Entry) : Nat := ef e 192 16
def eWLength (e : Entry) : Nat := ef e 208 16
def eStartFrame (e : Entry) : Nat := ef e 160 14
def eAsap (e : Entry) : Bool := ef e 175 1 = 1
def ePktCount (e : Entry) : Nat := ef e 192 16
def eEvent (e : Entry) : Nat := ef e 224 6
/-- Address of the packet list (R66). -/
def ePktList (e : Entry) : Nat := ef e 96 32 * 2 ^ 32 + ef e 232 24 * 256

/-- The opcodes (R67). -/
inductive Op where
  | control
  | bulkOut
  | bulkIn
  | intrOut
  | intrIn
  | isocOut
  | isocIn
  | epOpen
  | epClose
  | epResetToggle
  | epClearHalt
  | portReset
  | portSuspend
  | portResume
  | portPowerReq
  | nop
  | fenceMark
  deriving DecidableEq, Repr

/-- The opcode of a code (R67); none is undefined. -/
def opOf (n : Nat) : Option Op :=
  match n with
  | 0x01 => some .control
  | 0x02 => some .bulkOut
  | 0x03 => some .bulkIn
  | 0x04 => some .intrOut
  | 0x05 => some .intrIn
  | 0x06 => some .isocOut
  | 0x07 => some .isocIn
  | 0x10 => some .epOpen
  | 0x11 => some .epClose
  | 0x12 => some .epResetToggle
  | 0x13 => some .epClearHalt
  | 0x20 => some .portReset
  | 0x21 => some .portSuspend
  | 0x22 => some .portResume
  | 0x23 => some .portPowerReq
  | 0x30 => some .nop
  | 0x31 => some .fenceMark
  | _ => none

def Op.isBulk (o : Op) : Bool := o = .bulkOut || o = .bulkIn
def Op.isIntr (o : Op) : Bool := o = .intrOut || o = .intrIn
def Op.isIsoc (o : Op) : Bool := o = .isocOut || o = .isocIn
def Op.isPeriodic (o : Op) : Bool := o.isIntr || o.isIsoc
def Op.isTransfer (o : Op) : Bool := o = .control || o.isBulk || o.isPeriodic
def Op.isEpOp (o : Op) : Bool := o = .epOpen || o = .epClose || o = .epResetToggle || o = .epClearHalt
def Op.isPortOp (o : Op) : Bool := o = .portReset || o = .portSuspend || o = .portResume || o = .portPowerReq
/-- MAINT opcodes (spec/03_dispatch_scheduler.md R106). -/
def Op.isMaint (o : Op) : Bool := o.isEpOp || o.isPortOp
/-- The opcode belongs to no flow (R67). -/
def Op.noFlow (o : Op) : Bool := o = .nop || o = .fenceMark

/-- The bits an opcode uses beyond DW0 and HUB_PORT, which DETAIL 0x01 does not judge (R67, R71). -/
def usedMask (o : Op) : Nat :=
  let dw0 := 0xFFFF1FFF
  let hubPort := 0xFE000000 * 2 ^ 32
  let port := 0x3F * 2 ^ 32
  let dw1 := 0x01FFFFFF * 2 ^ 32
  let buffer := (2 ^ 64 - 1) * 2 ^ 64
  let len := 0xFFFFFF * 2 ^ 128
  let upper := 0xFF000000 * 2 ^ 128
  let setup := (2 ^ 64 - 1) * 2 ^ 160
  let iso := 0x0000FFFF0000BFFF * 2 ^ 160
  let event := 0x3F * 2 ^ 224
  let list := 0xFFFFFF00 * 2 ^ 224
  let base := dw0 + hubPort + event
  match o with
  | .control => base + dw1 + buffer + len + setup
  | .bulkOut => base + dw1 + buffer + len
  | .bulkIn => base + dw1 + buffer + len
  | .intrOut => base + dw1 + buffer + len
  | .intrIn => base + dw1 + buffer + len
  | .isocOut => base + dw1 + buffer + len + iso + list
  | .isocIn => base + dw1 + buffer + len + iso + list
  | .epOpen => base + dw1 + len + upper
  | .epClose => base + dw1
  | .epResetToggle => base + dw1
  | .epClearHalt => base + dw1
  | .portReset => base + port
  | .portSuspend => base + port
  | .portResume => base + port
  | .portPowerReq => base + port + 2 ^ 128
  | .nop => base
  | .fenceMark => base

/-- A bit outside a mask is set. -/
def outside (e : Entry) (mask : Nat) : Bool := e &&& ~~~(BitVec.ofNat 256 mask) != 0

/-- DETAIL 0x03 of R71. -/
def dirBad (o : Op) (e : Entry) : Bool :=
  match o with
  | .control => eWLength e != 0 && eDir e != bitAt (eReqType e) 7
  | .bulkOut => eDir e
  | .intrOut => eDir e
  | .isocOut => eDir e
  | .bulkIn => !eDir e
  | .intrIn => !eDir e
  | .isocIn => !eDir e
  | .epOpen => eDir e && eType e == 0
  | _ => false

/-- DETAIL 0x04 of R71. -/
def lengthBad (o : Op) (e : Entry) : Bool :=
  match o with
  | .control => decide (65535 < eLength e) || decide (eWLength e < eLength e)
  | .bulkIn => eLength e == 0
  | .intrIn => eLength e == 0
  | .isocOut => eLength e == 0
  | .isocIn => eLength e == 0
  | .epOpen => eLength e == 0 || decide (1024 < eLength e)
  | _ => false

/-- SHORT_OK is permitted (R71, DETAIL 0x08). -/
def shortAllowed (o : Op) (e : Entry) : Bool :=
  match o with
  | .control => bitAt (eReqType e) 7 && eWLength e != 0
  | .bulkIn => true
  | .intrIn => true
  | .isocIn => true
  | _ => false

/-- The later entries of a chain keep R69: same OPCODE and DW1, flags clear, CHAIN on all but the last. -/
def chainBad (pushed : Bool) (o : Op) (es : List Entry) : Bool :=
  match es with
  | [] => false
  | e :: rest =>
    if rest.isEmpty then eChain e
    else pushed || !o.isBulk || decide (64 < es.length) ||
      es.any (fun x => eLength x == 0) ||
      rest.any (fun x => eOp x != eOp e || ef x 32 32 != ef e 32 32 || ef x 8 4 != 0) ||
      (match es.getLast? with
       | some x => eChain x
       | none => false) ||
      es.dropLast.any (fun x => !eChain x)

/-- A check on each entry of an item, by the entry's own opcode. -/
def anyEntry (f : Op → Entry → Bool) (es : List Entry) : Bool :=
  es.any (fun e => match opOf (eOp e) with
    | some o => f o e
    | none => false)

/-- The checks of R71 on one item, each made on every entry of it before the next: status and DETAIL of the first
failing check. `owns` says whether a port is among the ports of the queue pair's owner. Reserved TAG and EVENT_ID of
later chain entries fall under DETAIL 0x01, their flags under 0x05 (DEDUCED, log entry 16). -/
def entryCheck (pushed : Bool) (owns : Nat → Bool) (es : List Entry) : Option (Nat × Nat) :=
  match es with
  | [] => none
  | e :: rest =>
    if es.any (fun x => (opOf (eOp x)).isNone) then some (0x0D, 0)
    else
      let o := (opOf (eOp e)).getD .nop
      if anyEntry (fun o x => outside x (usedMask o)) es || rest.any (fun x => eTag x != 0 || eEvent x != 0) then
        some (0x09, 0x01)
      else if es.any (fun x => decide (48 ≤ ePort x)) then some (0x09, 0x02)
      else if anyEntry dirBad es then some (0x09, 0x03)
      else if anyEntry lengthBad es then some (0x09, 0x04)
      else if chainBad pushed o es then some (0x09, 0x05)
      else if o = .epOpen ∧ (eMult e = 3 ∨
          ((eType e = 0 ∨ eType e = 2) ∧ (eMult e ≠ 0 ∨ eInterval e ≠ 0))) then some (0x09, 0x06)
      else if o.isIsoc && (ePktCount e == 0 || decide (1024 < ePktCount e)) then some (0x09, 0x07)
      else if (eShortOk e && !shortAllowed o e) || (eHubPort e == 0 && eHubAddr e != 0)
          || (eHubPort e != 0 && eHubAddr e == 0) then some (0x09, 0x08)
      else if !o.noFlow && !owns (ePort e) then some (0x0A, 0)
      else none

/-- Classes of spec/03_dispatch_scheduler.md R106, by rank. -/
inductive Cls where
  | periodic
  | maint
  | control
  | bulk
  deriving DecidableEq, Repr

def Cls.rank : Cls → Nat
  | .periodic => 0
  | .maint => 1
  | .control => 2
  | .bulk => 3

def Op.cls (o : Op) : Cls :=
  if o.isPeriodic then .periodic else if o.isMaint then .maint else if o = .control then .control else .bulk

/-! ### Items -/

/-- The opcode of an item. -/
def Item.op (it : Item) : Op := (opOf (eOp it.entry)).getD .nop

/-- The item is served through the retire list (R101, R113). -/
def Item.retiring (it : Item) : Bool := it.retire.isSome || it.op.noFlow

def Item.port (it : Item) : Nat := ePort it.entry

/-- The flow of an item (R101): maintenance or endpoint key. -/
inductive Flow where
  | port (p : Nat)
  | ep (p addr e : Nat) (dir : Bool)
  deriving DecidableEq, Repr

/-- The direction the flow and the context of an item use (R101, spec/04_transfer_engines_and_endpoints.md
R131). -/
def Item.keyDir (it : Item) : Bool :=
  if it.op = .control then false
  else if it.op.isEpOp && eEp it.entry == 0 then false
  else eDir it.entry

/-- The flow an item belongs to from its store until it gives its entry back (R101-R104): an item that the scheduler
ends goes to the retire list as a no-flow item, and holds up the next item of the flow it was stored in until its record
is out (spec/04_transfer_engines_and_endpoints.md R160; DEDUCED, log entry 60). -/
def Item.flow (it : Item) : Option Flow :=
  if it.failed || it.op.noFlow then none
  else if it.op.isPortOp then some (.port it.port)
  else some (.ep it.port (eAddr it.entry) (eEp it.entry) it.keyDir)

/-- Fences: the FENCE bit, and every FENCE_MARK (R41, R68). An entry that failed a check ignores its flags
(R72). -/
def Item.fenced (it : Item) : Bool := it.retire.isNone && (eFence it.entry || it.op = .fenceMark)

/-- Total length asked for: LENGTH, or the sum over a chain (R88). -/
def Item.length (it : Item) : Nat := eLength it.entry + (it.segs.map (fun g => g.2)).sum

/-- In SERVICE. -/
def Item.inService (it : Item) : Bool :=
  match it.st with
  | .service _ _ => true
  | _ => false

/-- In PIP or SERVICE: dispatched (R95), and so counted against the completion credit (R95, R96). DESIGN CHOICE (log
entry 60): the spec does not say what a recall (R112), a Wait verdict (R166), an abort (R97) or another way out of a Pip
without a record does to the credit; the item, no longer dispatched, gives its credit back and must find credit
again. -/
def Item.dispatched (it : Item) : Bool :=
  match it.st with
  | .pip _ => true
  | .service _ _ => true
  | _ => false

/-- The engine an item is in SERVICE on. -/
def Item.engine? (it : Item) : Option EngId :=
  match it.st with
  | .service e _ => some e
  | _ => none

/-- An item in SERVICE holding a transfer slot of an engine. -/
def Item.slotOn (it : Item) (e : EngId) : Bool :=
  match it.st with
  | .service e' (some _) => e' = e
  | _ => false

/-! ### Records -/

/-- A completion record (spec/02_queue_pairs_and_doorbells.md R86). -/
def completionRecord (tag status detail slot : Nat) (q : QpId) (len : Nat) (seq : Word) : BitVec 128 :=
  BitVec.ofNat 128 (tag % 2 ^ 16 + status % 256 * 2 ^ 16 + detail % 256 * 2 ^ 24 + slot % 2 ^ 16 * 2 ^ 32
    + q.val * 2 ^ 48 + len % 2 ^ 32 * 2 ^ 64 + seq.toNat * 2 ^ 96)

/-- An event record (R89). -/
def eventRecord (w : Waiting) (q : QpId) (seq : Word) : BitVec 128 :=
  BitVec.ofNat 128 (w.page % 2 ^ 16 + w.code % 256 * 2 ^ 16 + w.detail % 256 * 2 ^ 24 + w.data % 2 ^ 16 * 2 ^ 32
    + q.val * 2 ^ 48 + w.count % 256 * 2 ^ 54 + 2 ^ 62 + w.dtime.toNat * 2 ^ 64 + seq.toNat * 2 ^ 96)

/-- A mirror record (R83). -/
def mirrorRecord (head tail : Nat) (seq writes : Word) : BitVec 128 :=
  BitVec.ofNat 128 (head % 2 ^ 17 + tail % 2 ^ 17 * 2 ^ 32 + seq.toNat * 2 ^ 64 + writes.toNat * 2 ^ 96)

/-! ### Packet descriptors (spec/04_transfer_engines_and_endpoints.md R148) -/

/-- Reserved bits of a descriptor: DW0[31:24] and DW1[15:13]. -/
def pktReserved (d : BitVec 64) : Bool := bits d.toNat 24 8 != 0 || bits d.toNat 45 3 != 0

/-- A descriptor not yet served. -/
def pktOf (d : BitVec 64) : IsoPkt :=
  { ofs := bits d.toNat 0 24, req := bits d.toNat 32 13, act := 0, pst := 0, served := false }

/-- DW1 of a descriptor after service. -/
def pktDw1 (p : IsoPkt) : Word := BitVec.ofNat 32 (p.req + p.act % 2 ^ 13 * 2 ^ 16 + p.pst % 8 * 2 ^ 29)

/-! ### Endpoint parameters (R135-R138) -/

/-- Worst-case stuffed length of `n` bytes (R137). -/
def stuffed (n : Nat) : Nat := (8 * n * 7 + 5) / 6

/-- Combinations that EP_OPEN accepts at a speed (R135): 0 high, 1 full, 2 low. DEV_SPEED 3, to which the spec gives no
meaning, counts as low speed (DESIGN CHOICE, log entry 69). -/
def epComboOk (speed typ mps mult interval : Nat) : Bool :=
  match speed with
  | 0 =>
    if typ = 0 then mps == 64 && mult == 0 && interval == 0
    else if typ = 2 then mps == 512 && mult == 0 && interval == 0
    else (mult == 0 && decide (1 ≤ mps) && decide (mps ≤ 1024)) ||
      (mult == 1 && decide (513 ≤ mps) && decide (mps ≤ 1024)) ||
      (mult == 2 && decide (683 ≤ mps) && decide (mps ≤ 1024))
  | 1 =>
    if typ = 0 ∨ typ = 2 then (mps == 8 || mps == 16 || mps == 32 || mps == 64) && mult == 0 && interval == 0
    else if typ = 3 then decide (1 ≤ mps) && decide (mps ≤ 64) && mult == 0 && decide (interval ≤ 7)
    else decide (1 ≤ mps) && decide (mps ≤ 1023) && mult == 0
  | _ =>
    if typ = 0 then mps == 8 && mult == 0 && interval == 0
    else if typ = 3 then decide (1 ≤ mps) && decide (mps ≤ 8) && mult == 0 && decide (3 ≤ interval)
      && decide (interval ≤ 7)
    else false

/-- The charge of one service away from a split (R137). -/
def chargeOf (speed typ mps mult : Nat) : Nat :=
  match speed with
  | 0 => (if typ = 1 then 250 + stuffed mps else 400 + stuffed mps) * (mult + 1)
  | 1 => if typ = 1 then 110 + stuffed mps else 160 + stuffed mps
  | _ => 1300 + 8 * stuffed mps

/-- Granules of a periodic buffer (R136). -/
def granulesOf (mps mult : Nat) : Nat := (mps * (mult + 1) + 511) / 512

end Sys2Proof.Machine
end

