-- ==== Sys2Proof/Machine/Flags.lean ====
section
/-!
DEFINITION. Ownership of resources, the cause summaries, and attention: INT_N, MSI-X and INTx as they follow the
causes.
-/

namespace Sys2Proof.Machine

open Sys2Proof

/-! ### Ownership (spec/09_slices.md R270) -/

/-- The slice that owns a resource by one of its masks, if any. -/
def State.ownerBy (s : State) (f : Slice → Bool) : Option SliceId := (allFin 32).find? (fun i => f s.slices[i])

def State.ownerQp (s : State) (q : QpId) : Option SliceId := s.ownerBy (fun x => x.qps.getLsbD q.val)
def State.ownerPort (s : State) (p : PortId) : Option SliceId := s.ownerBy (fun x => x.ports.getLsbD p.val)
def State.ownerCh (s : State) (c : ChId) : Option SliceId := s.ownerBy (fun x => x.chs.getLsbD c.val)
def State.ownerCf (s : State) (k : CfId) : Option SliceId := s.ownerBy (fun x => x.cfs.getLsbD k.val)

/-- The present generation of an owner (spec/09_slices.md R282); the physical function has none. -/
def State.genOf (s : State) (o : Option SliceId) : BitVec 16 :=
  match o with
  | some i => s.slices[i].gen
  | none => 0

/-- The owner of the unit of a page, where a slice can own it (R270, R378). -/
def State.ownerPage (s : State) (page : Nat) : Option SliceId :=
  match blockOf page with
  | .qp => s.ownerBy (fun x => x.qps.getLsbD (instOf page))
  | .port => s.ownerBy (fun x => x.ports.getLsbD (instOf page))
  | .dmch => s.ownerBy (fun x => x.chs.getLsbD (instOf page))
  | .cf => s.ownerBy (fun x => x.cfs.getLsbD (instOf page))
  | _ => none

/-! ### Blocks that are off (spec/12_power_domains.md R330, R344) -/

/-- The domain of a block's pages (spec/15_register_map.md R392). -/
def domainOf (b : Block) : Option DomId :=
  match b with
  | .fw => some domMC
  | .time => some domTIME
  | .qp => some domSCHED
  | .sched => some domSCHED
  | .te => some domSCHED
  | .slice => some domSCHED
  | .ebr => some domEBR
  | .dm => some domDM
  | .dmch => some domDM
  | .cf => some domCAP
  | _ => none

/-- A block is off for access: its domain is not ON, or its clock is stopped (R344, spec/01_device_organisation.md
R34). -/
def State.blockOff (s : State) (b : Block) : Bool :=
  match domainOf b with
  | none => false
  | some d => if d = domMC then !s.domOn d else !s.rootOn d

/-! ### Summaries (spec/14_attention_and_errors.md R377-R380) -/

/-- Pages with an enabled cause pending, outside domains that are not ON. -/
def State.pendPages (s : State) : List Nat :=
  s.regs.filterMap (fun c =>
    let page := c.1 / 4096
    if c.1 % 4096 = 8 ∧ c.2 &&& s.reg (c.1 + 4) ≠ 0 ∧ !s.blockOff (blockOf page) then some page else none)

/-- The group bit of a page (R377). -/
def groupOf (page : Nat) : Nat :=
  match blockOf page with
  | .global => 0
  | .clock => 1
  | .pwrdom => 2
  | .fw => 3
  | .time => 4
  | .pkg => 5
  | .qp => 6
  | .sched => 7
  | .te => 8
  | .ebr => 9
  | .port => 10
  | .husk => 11
  | .region => 12
  | .pod => 13
  | .dmch => 14
  | .dm => 15
  | .cf => 16
  | .slice => 17
  | .intsum => 31
  | .absent => 31

/-- Pages that count in GLOBAL.INTSUM (R378). -/
def State.countedPages (s : State) : List Nat := s.pendPages.filter (fun p => (s.ownerPage p).isNone)

/-- GLOBAL.INTSUM. -/
def State.intsum (s : State) : Word :=
  s.countedPages.foldl (fun w p => w ||| (1#32 <<< groupOf p)) 0 &&& 0x3FFFF

/-- The device-wide summary, FATAL included (R374). -/
def State.devSum (s : State) : Bool := s.intsum &&& s.reg (at_ 0 0x110) != 0 || s.flag (at_ 0 8) 8

/-- ATTN_SUM of a slice (spec/09_slices.md R281). -/
def State.attnSum (s : State) (i : SliceId) : Word :=
  let bit (p : Nat) : Word :=
    match blockOf p with
    | .qp => 1
    | .port => 2
    | .dmch => 4
    | .cf => 8
    | _ => 0
  let own := (s.pendPages.filter (fun p => s.ownerPage p = some i)).foldl (fun w p => w ||| bit p) 0
  if s.slices[i].winCause &&& s.slices[i].winEn ≠ 0 ∧ !s.blockOff .slice then own ||| 16 else own

/-- The conditions of the 33 vectors (spec/14_attention_and_errors.md R375). -/
def State.vecCond (s : State) : BitVec 33 :=
  (allFin 32).foldl (fun w i =>
    if s.slices[i].st ≠ .none ∧ s.attnSum i ≠ 0 then w ||| (1#33 <<< (i.val + 1)) else w)
    (if s.devSum then 1 else 0)

/-- Vectors masked in configuration space (R375). -/
def State.vecMasked (s : State) : BitVec 33 := if s.pci.msixMask then BitVec.allOnes 33 else s.pci.vecMask

/-- The conditions at the start of the present cycle, and the pending bits that fell in it (R389). -/
def State.attStart (s : State) : BitVec 33 := if s.att.cycle = s.now then s.att.start else s.att.cond
def State.attFell (s : State) : BitVec 33 := if s.att.cycle = s.now then s.att.fell else 0

/-- Attention follows the causes (R374-R376): INT_N keeps its level while the control die is held; each rising
condition sends one message or sets its pending bit, but for one that fell in the same cycle (R389); in FATAL only
vector 0 is sent (R387). MSI-X while it is disabled, in D3hot, or with HOST not ON: log entry 11. -/
def settle (s : State) : State :=
  if s.held then s else
  let cond := s.vecCond
  let rising := cond &&& ~~~s.att.cond &&& ~~~s.attStart
  let want := if s.pci.msixEn then (s.att.pend ||| s.attFell ||| rising) &&& cond else 0
  let canSend := s.domOn domHOST && !s.pci.d3hot
  let masked := s.vecMasked
  let allowed : BitVec 33 := if s.fatal then 1 else BitVec.allOnes 33
  let send := if canSend then want &&& ~~~masked &&& allowed else 0
  let intx := cond.getLsbD 0 && !s.pci.msixEn
  let vecs := ((List.range 33).filter (fun v => send.getLsbD v))
  let back := intx && s.attStart.getLsbD 0 && s.att.msgs.getLast? == some 34
  let msgs := if intx = s.att.intx then s.att.msgs else if back then s.att.msgs.dropLast
    else s.att.msgs ++ [if intx then 33 else 34]
  { s with att :=
      { intN := cond.getLsbD 0, cond := cond, pend := if canSend then want &&& masked else want, intx := intx,
        msgs := msgs ++ vecs, cycle := s.now, start := s.attStart, fell := (s.attFell ||| s.att.pend) &&& ~~~cond } }

/-- A resetting slice becomes ACTIVE once it has drained and every item of it has committed its record
(spec/09_slices.md R272, R284). -/
def State.slicesReady (s : State) : State :=
  s.forAll (allFin 32) (fun t i =>
    if t.slices[i].st = .resetting ∧ t.slices[i].drained ∧ !t.wis.any (fun it => it.owner == some i) then
      (t.modSlice i (fun x => { x with st := .active })).winCauseSet i 3
    else t)

/-- Ends a meaning: slices whose reset is over run again, and attention follows what the meaning left (R374). -/
def done (s : State) : Result := .next (settle s.slicesReady)

end Sys2Proof.Machine
end

