-- ==== Sys2Proof/Machine/Complete.lean ====
section
/-!
DEFINITION. The completion path: credit, commits to a CQ or the Completion Park, events, the states of stored
items, and the end of an item.
-/

namespace Sys2Proof.Machine

open Sys2Proof

/-! ### Rings (spec/02_queue_pairs_and_doorbells.md R60, R61, R95) -/

/-- Entries of the SQ and of the CQ (R56). -/
def State.sqN (s : State) (q : QpId) : Nat := 2 ^ s.fld (at_ (qpPage q) 0x118) 0 5
def State.cqN (s : State) (q : QpId) : Nat := 2 ^ s.fld (at_ (qpPage q) 0x118) 8 5

/-- (b − a) mod 2N. -/
def ringDist (n a b : Nat) : Nat := (b % (2 * n) + 2 * n - a % (2 * n)) % (2 * n)

/-- A queue pair is enabled. -/
def State.qpEn (s : State) (q : QpId) : Bool := s.flag (at_ (qpPage q) 0x14) 0

/-- SQ_HEAD: the oldest entry still stored, else the next to store (R40, R82). -/
def State.sqHead (s : State) (q : QpId) : Nat :=
  match s.wis.find? (fun it => it.qp = q) with
  | some it => it.idx
  | none => s.qps[q].fetchPtr

/-- Records of a CQ in the Park. -/
def State.parked (s : State) (q : QpId) : Nat := (s.park.filter (fun r => r.qp = q)).length

/-- Dispatched items whose records are not committed (R95). -/
def State.inflight (s : State) (q : QpId) : Nat := (s.wis.filter (fun it => it.qp = q ∧ it.dispatched)).length

/-- Free CQ slots (R95). -/
def State.cqFree (s : State) (q : QpId) : Nat := s.cqN q - ringDist (s.cqN q) s.qps[q].cqHead s.qps[q].cqTail

/-- Completion credit (R95). -/
def State.credit (s : State) (q : QpId) : Nat :=
  s.cqFree q + s.fld (at_ (qpPage q) 0x120) 0 9 - s.parked q - s.inflight q

/-- STATUS.IDLE (R97, R99). -/
def State.qpIdle (s : State) (q : QpId) : Bool := !s.wis.any (fun it => it.qp = q) && s.parked q == 0

/-! ### Writes to host memory (spec/09_slices.md R282) -/

/-- PASID of a slice. -/
def State.pasid (s : State) (i : SliceId) : Nat := s.fld (at_ (slicePage i) 0x100) 0 20

/-- The PASID that a request carries: its slice's where PASID is enabled in configuration space; the physical function's
carry none (spec/01_device_organisation.md R31, spec/00_scope.md R5, log entry 11). -/
def State.pasidOf (s : State) (o : Option SliceId) : Option Nat :=
  match o with
  | some i => if s.pci.pasidEn then some (s.pasid i) else none
  | none => none

/-- Counts a stale record. -/
def State.staleRecord (s : State) (o : Option SliceId) : State :=
  match o with
  | none => s
  | some i => (s.sat (at_ (slicePage i) 0x148)).cause (slicePage i) 9

/-- Counts another stale write. -/
def State.staleWrite (s : State) (o : Option SliceId) : State :=
  match o with
  | none => s
  | some i => (s.sat (at_ (slicePage i) 0x14C)).cause (slicePage i) 9

/-- The relaxed-ordering attribute of a write: transfer data may carry it; CQ entries, mirrors and context traffic never
do, nor does an access of a Data Mover channel (spec/01_device_organisation.md R29, spec/10_data_mover.md R290, R309;
log entry 57). -/
def PostedKind.relaxed (k : PostedKind) : Bool :=
  match k with
  | .data a _ => Config.dataRelaxed a
  | .mover _ _ _ => false
  | .moverFill _ _ _ => false
  | .cq _ _ _ _ => false
  | .mirror _ _ _ => false
  | .context _ _ _ _ _ _ => false
  | .pktList _ _ => false

/-- Asks a read of host memory for an owner (spec/01_device_organisation.md R31). -/
def State.askRead (s : State) (o : Option SliceId) (noSnoop : Bool) (k : ReadKind) : State :=
  { s with reads := s.reads ++ [{ kind := k, owner := o, noSnoop := noSnoop, pasid := s.pasidOf o, since := s.now }] }

/-- Issues a host-memory write: not when its generation is old (R282), not in FATAL
(spec/14_attention_and_errors.md R387). -/
def State.post (s : State) (o : Option SliceId) (gen : BitVec 16) (noSnoop : Bool) (k : PostedKind) : State :=
  if gen ≠ s.genOf o then s.staleWrite o
  else if s.fatal then s
  else { s with posted := s.posted ++ [{
    kind := k, owner := o, gen := gen, noSnoop := noSnoop, relaxed := k.relaxed, since := s.now,
    pasid := s.pasidOf o }] }

/-- A record of a slice is stale: an older generation, or the slice is being removed or has faulted (R282, R286,
R287). -/
def State.recordStale (s : State) (o : Option SliceId) (gen : BitVec 16) : Bool :=
  match o with
  | none => false
  | some i => s.slices[i].gen != gen || s.slices[i].st == .removing || s.slices[i].st == .faulted

/-- CQ_COAL.COUNT, where 0 acts as 1 (R440). -/
def State.coalMax (s : State) (q : QpId) : Nat := max 1 (s.fld (at_ (qpPage q) 0x128) 0 8)

/-- How a queue pair stands before the first record of a cycle (spec/09_slices.md R288). -/
def Qp.cycleAt (x : Qp) (now : Nat) : CqCycle :=
  { at_ := now, tail := x.cqTail, seq := x.lastCqSeq, coalCount := x.coalCount, coalHit := x.coalHit,
    coalStart := x.coalStart }

/-- Writes a record into the ring of a CQ with a free slot, at CQ_BASE (R56), and counts it for coalescing: at COUNT the count and the
timer restart, and the records after it count anew (R93, R440). -/
def State.writeCq (s : State) (q : QpId) (o : Option SliceId) (gen : BitVec 16) (rec : BitVec 128) : State :=
  let tail := s.qps[q].cqTail
  let slot := tail % s.cqN q
  let s := s.post o gen false (.cq q (BitVec.ofNat 64 (s.reg64 (at_ (qpPage q) 0x108) + 16 * slot)) slot rec)
  let hit := decide (s.coalMax q ≤ s.qps[q].coalCount + 1)
  s.modQp q (fun x => { x with
    cqTail := (tail + 1) % (2 * s.cqN q)
    cycle := match x.cycle with
      | some c => if c.at_ = s.now then some c else some (x.cycleAt s.now)
      | none => some (x.cycleAt s.now)
    lastCqSeq := BitVec.ofNat 32 (bits rec.toNat 96 32)
    coalCount := if hit then 0 else x.coalCount + 1
    coalHit := x.coalHit || hit
    coalStart := if hit then none else if x.coalCount = 0 then some s.now else x.coalStart
    mirrorDue := true })

/-- Commits a record: it takes the next SEQ and goes to its CQ, or to the Park where the CQ is full or parks
records already (spec/01_device_organisation.md R48, R93). The page whose block caused it shows the SEQ. -/
def State.commit (s : State) (q : QpId) (o : Option SliceId) (gen : BitVec 16) (page : Nat)
    (mk : Word → BitVec 128) : State :=
  let seq := s.seq + 1
  let s := ({ s with seq := seq }).setReg (at_ page 0x1C) seq
  if s.recordStale o gen then s.staleRecord o
  else if s.cqFree q = 0 ∨ s.parked q ≠ 0 then
    { s with park := s.park ++ [{ qp := q, owner := o, gen := gen, record := mk seq }] }
  else s.writeCq q o gen (mk seq)

/-! ### Events (R89-R91, spec/14_attention_and_errors.md R381, R382) -/

/-- The owner of a source of events (spec/09_slices.md R270). -/
def State.eventOwner (s : State) (page : Nat) : Option SliceId :=
  match blockOf page with
  | .husk => s.ownerBy (fun x => x.ports.getLsbD (instOf page))
  | _ => s.ownerPage page

/-- The event CQ of an owner that is enabled (R90). -/
def State.eventQ (s : State) (o : Option SliceId) : Option QpId :=
  (allFin 64).find? (fun q => s.flag (at_ (qpPage q) 0x14) 3 && s.qpEn q && decide (s.ownerQp q = o))

/-- Commits one event record to an event CQ. PORT[p].CAUSE.EVENT sets with it (spec/05_root_ports.md R188). -/
def State.commitEvent (s : State) (w : Waiting) (q : QpId) (o : Option SliceId) : State :=
  let s := s.commit q o (s.genOf o) w.page (eventRecord w q)
  s.causeIf (decide (blockOf w.page = .port)) w.page 0

/-- Shows a wait on the event CQ (R91). -/
def State.holdEvent (s : State) (o : Option SliceId) : State :=
  match s.eventQ o with
  | some q => s.cause (qpPage q) 8
  | none => s

/-- An event happens: it commits at once where nothing of its source waits and the event CQ has credit; else it
waits in its source and merges with a record of the same code (R91). -/
def State.raise (s : State) (page code detail data : Nat) : State :=
  let w : Waiting := { page := page, code := code, detail := detail, data := data, count := 1,
                       dtime := s.dtime.setWidth 32 }
  let o := s.eventOwner page
  if s.events.any (fun x => x.page == page && x.code == code) then
    { s with events := s.events.map (fun x =>
        if x.page = page ∧ x.code = code then { w with count := min 255 (x.count + 1) } else x) }
  else
    match s.eventQ o with
    | some q =>
      if !s.fatal && decide (1 ≤ s.credit q) && !s.events.any (fun x => x.page == page) then s.commitEvent w q o
      else ({ s with events := s.events ++ [w] }).holdEvent o
    | none => { s with events := s.events ++ [w] }

/-! ### States of stored items (spec/03_dispatch_scheduler.md R103-R105) -/

/-- A port by number. -/
def portId? (n : Nat) : Option PortId := if h : n < 48 then some ⟨n, h⟩ else none

/-- Boundaries of the port's clock in one unit of an item's service: 1 for microframes, 8 for frames, that is on a full-
or low-speed port and behind a transaction translator (spec/04_transfer_engines_and_endpoints.md R138). -/
def State.isoUnit (s : State) (p : PortId) (it : Item) : Nat :=
  if s.ports[p].speed ≠ 0 then 8
  else match s.ctx? p (eAddr it.entry) (eEp it.entry) it.keyDir with
  | some c => if c.hubAddr = 0 then 1 else 8
  | none => 1

/-- Boundaries between two packets of an isochronous item: its endpoint's period (R138), one unit where the endpoint is
not open. -/
def State.isoPeriod (s : State) (p : PortId) (it : Item) : Nat :=
  match s.ctx? p (eAddr it.entry) (eEp it.entry) it.keyDir with
  | some c => 2 ^ c.interval * s.isoUnit p it
  | none => s.isoUnit p it

/-- START_FRAME and the present moment on the frame index, START_FRAME[2:0] and the microframe counted as 0 where the
item is served by frames (R116; behind a transaction translator DEDUCED, log entry 22). -/
def State.isoStart (s : State) (p : PortId) (it : Item) : Nat × Nat :=
  let unit := s.isoUnit p it
  (eStartFrame it.entry / unit * unit, s.clks[p].frindex.toNat / unit * unit)

/-- Every packet of an isochronous item lies in the past (R116): START_FRAME is past when its distance is 8,192 or
more, and the last packet's microframe has passed, or its cut-off (R125). -/
def State.isoPassed (s : State) (it : Item) : Bool :=
  match portId? it.port with
  | none => false
  | some p =>
    let t := s.isoStart p it
    let d := (t.1 + 16384 - t.2 % 16384) % 16384
    let past := if d = 0 then 0 else 16384 - d
    let last := (ePktCount it.entry - 1) * s.isoPeriod p it
    it.op.isIsoc && !eAsap it.entry && (d == 0 || decide (8192 ≤ d))
      && (decide (last < past) || (s.ports[p].cutPassed && decide (last = past)))

/-- The state an item that waits moves to, after the items before it in store order (R103). -/
def State.nextState (s : State) (earlier : List Item) (it : Item) : Item :=
  if it.st ≠ .pending ∧ it.st ≠ .held then it
  else if it.retire.isSome then { it with st := .ready, readyAt := s.now, readyNo := s.ordinal }
  else if it.flow.isSome && earlier.any (fun x => x.flow == it.flow) then { it with st := .pending }
  else if (it.fenced && earlier.any (fun x => x.qp == it.qp)) || !it.evOk then { it with st := .held }
  else if it.op.isPeriodic then
    if s.isoPassed it then
      { it with st := .ready, readyAt := s.now, readyNo := s.ordinal, retire := some (0x06, 0x02) }
    else { it with st := .frameWait }
  else { it with st := .ready, readyAt := s.now, readyNo := s.ordinal }

/-- The histogram bin of a wait in microseconds (R126). -/
def histBin (us : Nat) : Nat :=
  if us < 1 then 0 else if us < 8 then 1 else if us < 64 then 2 else if us < 512 then 3
  else if us < 4096 then 4 else if us < 32768 then 5 else if us < 131072 then 6 else 7

/-- Counts the wait of one item in its SQ's histogram, once (R126). -/
def State.binItem (s : State) (it : Item) : State :=
  if it.binned then s else
  let n := it.qp.val
  (s.sat (at_ (0x054 + n / 16) (0x100 + 32 * (n % 16) + 4 * histBin (s.usSince it.storedAt)))).modItem it.id
    (fun x => { x with binned := true })

/-- Moves every waiting item to its next state; an item missed on entering FRAME_WAIT counts (R116), and an item
entering the retire path is binned. -/
def State.requeue (s : State) : State :=
  let wis := s.wis.foldl (fun acc it => acc ++ [s.nextState acc it]) []
  let missed := (s.wis.zip wis).filter (fun p => p.1.retire.isNone && p.2.retire.isSome)
  let s := { s with wis := wis, ordinal := s.ordinal + 1 }
  let s := if missed.isEmpty then s else (s.wrap (at_ 0x050 0x120) missed.length).cause 0x050 4
  s.forAll (s.wis.filter (fun it => it.retiring && it.st == .ready && !it.binned)) State.binItem

/-! ### The end of an item -/

/-- Bytes an item reports (R86): packet lengths for isochronous items, 0 where no data moves (R88). -/
def Item.xferLen (it : Item) : Nat :=
  if it.op.isIsoc then (it.x.iso.map (fun p => p.act)).sum
  else if it.op.isTransfer then it.x.done
  else 0

/-- The requested length of R88. -/
def Item.requested (it : Item) : Nat :=
  if it.op.isIsoc then (it.x.iso.map (fun p => p.req)).sum
  else if it.op.isTransfer then it.length
  else 0

/-- Toggle snooping is off for an owner (spec/04_transfer_engines_and_endpoints.md R158). -/
def State.snoopOff (s : State) (o : Option SliceId) : Bool :=
  match o with
  | none => s.flag (at_ 0x060 0x14) 1
  | some i => s.flag (at_ (slicePage i) 0x14) 3

/-- The toggles a CONTROL item that ended OK resets (R158). -/
def State.snoop (s : State) (it : Item) : State :=
  let e := it.entry
  if it.op ≠ .control ∨ eEp e ≠ 0 ∨ s.snoopOff it.owner then s else
  let mine (c : Ctx) : Bool := c.port.val == it.port && c.addr == eAddr e && (c.typ == 2 || c.typ == 3)
  let hit (c : Ctx) : Bool :=
    if eReqType e = 0 ∧ eRequest e = 9 then mine c && c.ep != 0
    else if eReqType e = 1 ∧ eRequest e = 11 then mine c && (c.iface == eIndex e % 256 || c.iface == 255)
    else if eReqType e = 2 ∧ eRequest e = 1 ∧ eValue e = 0 then
      mine c && c.ep == eIndex e % 16 && c.dir == bitAt (eIndex e) 7
    else false
  { s with ctxs := s.ctxs.map (fun c => if hit c then { c with toggle := false, dirty := true, snooped := true } else c) }

/-- Writes DW1 of a packet descriptor to the packet list, whose address R66 gives
(spec/04_transfer_engines_and_endpoints.md R148). It never carries no-snoop (spec/01_device_organisation.md R30). -/
def State.putDw1 (s : State) (it : Item) (i : Nat) (p : IsoPkt) : State :=
  s.post it.owner it.gen false (.pktList (BitVec.ofNat 64 (ePktList it.entry + 8 * i + 4)) (pktDw1 p))

/-- The descriptors an isochronous item has not served when it ends are written before its CQ entry, as MISSED
(spec/04_transfer_engines_and_endpoints.md R148, R149; DEDUCED, log entry 22). -/
def State.missRest (s : State) (it : Item) : State :=
  if !it.x.isoReady || it.x.iso.all (fun p => p.served) then s
  else
    let s := (List.range it.x.iso.length).foldl (fun t i =>
      match it.x.iso[i]? with
      | some p => if p.served then t else t.putDw1 it i { p with act := 0, pst := 3, served := true }
      | none => t) s
    s.cause 0x060 4

/-- An item ends: its entry is given back, its record commits or is suppressed (R40, R88), a snooped request resets
toggles, and the items behind it move on (R104). XFER_LEN is 0 for an item a slice reset ended (spec/09_slices.md
R284). In FATAL nothing ends: the engines have stopped (spec/14_attention_and_errors.md R387). -/
def State.complete (s : State) (it : Item) (status detail len : Nat) : State :=
  if s.fatal then s else
  let e := it.entry
  let len := if it.freshGen then 0 else len
  let head := s.sqHead it.qp
  let s := s.missRest it
  let s := { s with
    wis := s.wis.filter (fun x => x.id != it.id)
    closed := s.closed.filter (fun c => !(c.port.val == it.port && c.addr == eAddr e && c.ep == eEp e && c.dir == it.keyDir)) }
  let suppressed := eNoCqe it.entry && status == 0 && len == it.requested && it.op != .fenceMark
  let gen := if it.freshGen then s.genOf it.owner else it.gen
  let slot := (it.idx + it.cnt - 1) % s.sqN it.qp
  let s := if suppressed then s
    else s.commit it.qp it.owner gen (qpPage it.qp) (completionRecord (eTag it.entry) status detail slot it.qp len)
  let moved := decide (s.sqHead it.qp ≠ head)
  let s := s.modQp it.qp (fun x => { x with mirrorDue := x.mirrorDue || moved })
  let s := if status = 0 then s.snoop it else s
  s.requeue

/-- An item on the wire of its port. -/
def State.onWire (s : State) (it : Item) : Bool :=
  match portId? it.port with
  | some p => s.ports[p].wire == some it.id
  | none => false

/-- An item goes to the retire list with a status (R101, R113). -/
def State.toRetire (s : State) (id status detail : Nat) : State :=
  s.modItem id (fun it =>
    { it with st := .ready, readyAt := s.now, readyNo := s.ordinal, retire := some (status, detail) })

/-- The end of an item waits: for its transaction boundary, or for the engines to resume. -/
def State.endLater (s : State) (id status detail : Nat) : State :=
  s.modItem id (fun x => { x with ending := some (x.ending.getD (status, detail)) })

/-- An item is ended from outside: out of SERVICE through the retire list, in SERVICE at its next transaction
boundary (spec/04_transfer_engines_and_endpoints.md R130). In the activation pause one in SERVICE, and one that a port
reset ends with RESET_DURING, ends when the engines resume (spec/13_firmware_and_settings.md R371). `len0` reports no
bytes. -/
def State.endItem (s : State) (it : Item) (status detail : Nat) (len0 : Bool) : State :=
  if it.inService then
    if s.onWire it || (s.fw.paused && (it.op.isTransfer || it.op.isEpOp)) then
      s.endLater it.id status detail
    else s.complete it status detail (if len0 then 0 else it.xferLen)
  else if it.retire.isSome then s
  else if s.fw.paused && status == 0x0F then s.endLater it.id status detail
  else s.toRetire it.id status detail

/-- Ends every item of a list, in store order, then lets the rest move on. -/
def State.endItems (s : State) (sel : Item → Bool) (status detail : Nat) (len0 : Bool) : State :=
  ((s.wis.filter sel).foldl (fun t it => t.endItem it status detail len0) s).requeue

end Sys2Proof.Machine
end

