-- ==== Sys2Proof/Machine/Gate.lean ====
section
/-!
DEFINITION. What every register write passes first: size (R14), off blocks (R344), authority by port of arrival
(R277, R281); and the plain effect of a write on fields without behaviour of their own (R11-R13).
-/

namespace Sys2Proof.Machine

open Sys2Proof

/-- The code of an access source in PWRDOM.ACC_OFF_PAGE (spec/12_power_domains.md R348). -/
def srcCode (src : Source) : Nat :=
  match src with
  | .bar0 => 0
  | .win _ => 1
  | .smbus => 2
  | .mc => 3

/-- An access to an off block: the first since ACC_OFF was cleared is recorded (R344). -/
def State.accOff (s : State) (src : Source) (page : Nat) : State :=
  if s.ctl.accOffSeen then s
  else ((s.setReg (at_ 3 0x288) (BitVec.ofNat 32 (page % 1024 + srcCode src * 2 ^ 12))).cause 0 2).modCtl
    (fun x => { x with accOffSeen := true })

/-- An access of wrong size or alignment: the first since ACC_SIZE was cleared is recorded
(spec/15_register_map.md R402, spec/00_scope.md R14). -/
def State.accSize (s : State) (src : Source) (ofs size : Nat) (write : Bool) : State :=
  if s.ctl.accSizeSeen then s
  else
    let win := match src with
      | .win _ => 1
      | _ => 0
    let code := match src with
      | .bar0 => 0
      | .win _ => 0
      | .smbus => 2
      | .mc => 3
    ((s.setReg (at_ 0 0x12C) (BitVec.ofNat 32
      (ofs % 2 ^ 21 + win * 2 ^ 21 + code * 2 ^ 22 + min size 15 * 2 ^ 24 + b2n write * 2 ^ 28))).cause 0 1).modCtl
      (fun x => { x with accSizeSeen := true })

/-- Registers the SMBus port may write (R277). Of SCHED, TE and EBR the column shuts out the settings, and CAUSE_SET is
none (spec/15_register_map.md R395); of QP, DMCH and CF it shuts out the whole pages (DEDUCED, log entry 30). -/
def smbusMay (page o : Nat) : Bool :=
  match blockOf page with
  | .qp => false
  | .te => page == 0x060 && o == 0x010
  | .cf => false
  | .sched => page == 0x050 && (o == 0x104 || o == 0x010)
  | .ebr => o == 0x104 || o == 0x010
  | .dmch => o == 0x100
  | .port => o != 0x110
  | _ => true

/-- Registers the management controller may write: the SMBus column without budgets, quotas, CAUSE_SET, update
commands and the SLICE page (R277, R289, R395, spec/13_firmware_and_settings.md R373). -/
def mcMay (page o : Nat) : Bool :=
  smbusMay page o && o != 0x010 &&
    (match blockOf page with
     | .global => o == 0x008 || o == 0x00C
     | .sched => false
     | .ebr => false
     | .slice => false
     | .fw => false
     | .region => o != 0x104
     | .pod => o != 0x100 && o != 0x180
     | .pkg => o != 0x100 && o != 0x104
     | _ => true)

/-- Registers a slice may write through the parts of its window (R280, spec/10_data_mover.md R315,
spec/11_capture.md R329). -/
def winMay (page o : Nat) : Bool :=
  match blockOf page with
  | .qp => [0x008, 0x00C, 0x014, 0x100, 0x104, 0x108, 0x10C, 0x110, 0x114, 0x118, 0x120, 0x124, 0x128, 0x130,
            0x138].contains o
  | .port => [0x008, 0x00C, 0x014].contains o
  | .dmch => [0x008, 0x00C, 0x014, 0x020, 0x024, 0x028, 0x02C, 0x030, 0x034, 0x038, 0x03C, 0x040].contains o
  | .cf => [0x008, 0x00C, 0x014, 0x020, 0x024, 0x028, 0x02C].contains o
  | _ => false

/-- The bits of a register a source may write: through a window LED of PORT.CTRL is read-only (R280). -/
def writableBits (src : Source) (page o : Nat) : Nat :=
  match src with
  | .win _ => if blockOf page = .port ∧ o = 0x014 then 0x13 else 2 ^ 32 - 1
  | _ => 2 ^ 32 - 1

/-- Authority of a register write (R277). PKG.SYS_BUDGET is written over SMBus only (R28). -/
def mayWrite (src : Source) (page o : Nat) : Bool :=
  match src with
  | .bar0 => !(page == 6 && o == 0x104)
  | .win _ => winMay page o
  | .smbus => smbusMay page o
  | .mc => mcMay page o

/-- A refusal at a slice window (R281): DENIED where the slice does not own the resource, NOT_ACTIVE where it is not
ACTIVE. -/
def State.winRefuse (s : State) (i : SliceId) (denied notActive : Bool) : State :=
  let s := if denied then (s.winCauseSet i 0).cause (slicePage i) 6 else s
  if notActive then s.winCauseSet i 1 else s

/-- A slice window write to the unit of a page: ownership and state (R281). -/
def State.winGate (s : State) (i : SliceId) (page o : Nat) (act : State → State) : State :=
  if s.slices[i].st = .none then s
  else
    let denied := s.ownerPage page != some i
    let exempt := blockOf page = .port ∧ o = 0x008
    let inactive := s.slices[i].st != .active && !exempt
    if denied || inactive then s.winRefuse i denied inactive
    else if !winMay page o then s
    else act s

/-- An access of a source reaches the registers: over PCIe from the moment configuration is accepted and while HOST is
ON, outside L2; over SMBus and from the management controller while MC is ON (spec/17_bring_up.md R433,
spec/12_power_domains.md R336, R344). -/
def State.reaches (s : State) (src : Source) : Bool :=
  match src with
  | .bar0 => s.pci.ready && !s.pci.inL2 && s.domOn domHOST
  | .win _ => s.pci.ready && !s.pci.inL2 && s.domOn domHOST
  | .smbus => s.mcRuns
  | .mc => s.mcRuns

/-- A register write of good size that has reached the registers: dropped while the control die is held or the block is
off, or without authority (R344, R277, R281). -/
def State.gateIn (s : State) (src : Source) (page o : Nat) (act : State → State) : State :=
  if s.held then s
  else if s.blockOff (blockOf page) then s.accOff src page
  else
    match src with
    | .win i => s.winGate i page o act
    | _ => if mayWrite src page o then act s else s

/-- A register write of good size by a source. -/
def State.gate (s : State) (src : Source) (page o : Nat) (act : State → State) : State :=
  if s.reaches src then s.gateIn src page o act else s

/-- A register read of good size: unanswered while the control die is held or the source does not reach the registers,
0x0FF0_0FF0 from an off block (R344). -/
def State.gateRead (s : State) (src : Source) (page : Nat) (act : State → State) : State :=
  if s.held || !s.reaches src then { s with rd := .none }
  else if s.blockOff (blockOf page) then { s.accOff src page with rd := .words [0x0FF00FF0] }
  else act s

/-- A read of a page that no slice window shows: what a window reads in its place is 0 (spec/09_slices.md R281). -/
def State.pageRead (s : State) (src : Source) (page : Nat) (act : State → State) : State :=
  match src with
  | .win _ => { s with rd := if s.held || !s.reaches src then .none else .words [0] }
  | _ => s.gateRead src page act

/-- The plain effect of a write on the stored fields of a register: RW fields take legal values, an illegal value
is refused under R13, RW1C fields clear but for bits set in the same cycle (spec/14_attention_and_errors.md R379); `mask`
holds the bits the source may write. -/
def State.plainWrite (s : State) (page o : Nat) (mask : Nat) (v : Word) : State :=
  (fieldsAt page o).foldl (fun t f =>
    let x := bits v.toNat f.lo f.len
    if bits mask f.lo f.len ≠ 2 ^ f.len - 1 then t
    else
      match f.acc with
      | .rw => if f.min ≤ x ∧ x ≤ f.max then t.setFld (at_ page o) f.lo f.len x else t.cause page (cfgBadBit page)
      | .rws => if f.min ≤ x ∧ x ≤ f.max then t.setFld (at_ page o) f.lo f.len x else t.cause page (cfgBadBit page)
      | .rw1c => t.setReg (at_ page o) (t.reg (at_ page o) &&& ~~~(v &&& ~~~t.causedNow (at_ page o)))
      | .keep => t) s

/-- Whether every field of a write is legal (R13). -/
def legalWrite (page o : Nat) (v : Word) : Bool :=
  (fieldsAt page o).all (fun f => decide (f.min ≤ bits v.toNat f.lo f.len) && decide (bits v.toNat f.lo f.len ≤ f.max))

/-- A configuration write that a busy unit refuses: the busy cause, and the page's CFG_BAD too where a field is illegal
(R13, R58, R293, R326; DEDUCED, log entry 31). -/
def State.busyWrite (s : State) (page o busy : Nat) (v : Word) : State :=
  (s.cause page busy).causeIf (!legalWrite page o v) page (cfgBadBit page)

/-- Clears CAUSE bits by a write of 1, but for those that happenings have set in the same cycle (R394,
spec/14_attention_and_errors.md R379). GLOBAL.CAUSE.FATAL clears only once a hot reset has run since the FATAL (R388).
With ACC_SIZE or ACC_OFF the next access of that kind is recorded again (R402, spec/12_power_domains.md R344). -/
def State.causeWrite (s : State) (page : Nat) (v : Word) : State :=
  let v := v &&& ~~~s.causedNow page
  let v := if page = 0 ∧ !s.ctl.fatalReset then v &&& ~~~(0x100#32) else v
  let s := s.setReg (at_ page 8) (s.reg (at_ page 8) &&& ~~~v)
  if page = 0 then
    s.modCtl (fun x => { x with
      accSizeSeen := x.accSizeSeen && !v.getLsbD 1, accOffSeen := x.accOffSeen && !v.getLsbD 2 })
  else s

/-- Writes CAUSE_EN (R394). -/
def State.causeEnWrite (s : State) (page : Nat) (v : Word) : State :=
  s.setReg (at_ page 0xC) (v &&& causeMask page)

end Sys2Proof.Machine
end

