-- ==== Sys2Proof/Machine/CaptureItem.lean ====
section
/-!
DEFINITION. Items and markers of a capture FIFO (spec/11_capture.md R318-R323), and what the end of traffic at a port
does to them.
-/

namespace Sys2Proof.Machine

open Sys2Proof

/-! ### Words (R318-R320) -/

/-- A header word (R319). -/
def capHeader (port : Nat) (i : COpen) (crcErr trunc tail : Bool) : BitVec 64 :=
  BitVec.ofNat 64 (i.bytes + port * 2 ^ 11 + (if i.cont then 0 else i.pid.toNat) * 2 ^ 17 + i.dtime.toNat * 2 ^ 25 +
    b2n crcErr * 2 ^ 57 + b2n trunc * 2 ^ 58 + b2n tail * 2 ^ 59 + b2n i.fromDev * 2 ^ 60 + b2n i.cont * 2 ^ 61 +
    2 ^ 62)

/-- A marker word: KIND 0 GAP, 1 TAIL, 2 FLUSH (R320). -/
def capMarker (kind count : Nat) : BitVec 64 :=
  BitVec.ofNat 64 (min count 0xFFFFFFFF + kind * 2 ^ 60 + 2 ^ 63)

/-- KIND and COUNT of a marker. -/
def markerKind (w : BitVec 64) : Nat := bits w.toNat 60 2
def markerCount (w : BitVec 64) : Nat := bits w.toNat 0 32

/-- Data words of an item of a length. -/
def itemWords (len : Nat) : Nat := (len + 7) / 8

/-- Free words, reserved header slots included in those held (R323). -/
def Cf.free (x : Cf) : Nat := 8192 - x.words.length

/-- The last word is an unread GAP marker. -/
def Cf.gapOpen (x : Cf) : Bool :=
  match x.words.getLast? with
  | some (.marker w) => markerKind w == 0
  | _ => false

/-- Adds words, keeping the peak of the level. -/
def Cf.push (x : Cf) (ws : List CWord) : Cf :=
  { x with words := x.words ++ ws, peak := max x.peak (x.words.length + ws.length) }

/-- The words without the open item. -/
def Cf.closedWords (x : Cf) : List CWord := if x.item.isSome then x.words.takeWhile (fun w => w != CWord.slot) else x.words

/-- Counts one drop in a GAP marker (R323). -/
def Cf.gap (x : Cf) : Cf :=
  match x.words.getLast? with
  | some (.marker w) =>
    if markerKind w = 0 then { x with words := x.words.dropLast ++ [.marker (capMarker 0 (markerCount w + 1))] }
    else x.push [.marker (capMarker 0 1)]
  | _ => x.push [.marker (capMarker 0 1)]

/-- The source port of a FIFO. -/
def State.cfPort (s : State) (k : CfId) : Nat := s.fld (at_ (cfPage k) 0x020) 0 6

/-- The open item, or the packet that begins, is dropped and the rest of its packet is ignored (R323). -/
def State.cfDrop (s : State) (k : CfId) : State :=
  let s := s.modCf k (fun x =>
    ({ x with words := x.closedWords, item := none, skipping := true, tailCut := none }).gap)
  (s.sat (at_ (cfPage k) 0x038)).cause (cfPage k) 3

/-- Opens an item: it reserves its header word and stores its first byte (R318). -/
def State.cfOpen (s : State) (k : CfId) (i : COpen) : State :=
  if s.cfs[k].free < 2 then s.cfDrop k
  else s.modCf k (fun x => { x.push [.slot] with item := some i, tailCut := none, skipping := false })

/-- One byte stored in the open item; a full word is pushed. -/
def State.cfStore (s : State) (k : CfId) (i : COpen) (b : Byte) : State :=
  let word := i.word ||| (b.setWidth 64 <<< (8 * (i.bytes % 8)))
  if (i.bytes + 1) % 8 = 0 then
    if s.cfs[k].free < 2 then s.cfDrop k
    else s.modCf k (fun x => { x.push [.data word] with item := some { i with bytes := i.bytes + 1, word := 0 } })
  else s.modCf k (fun x => { x with item := some { i with bytes := i.bytes + 1, word := word } })

/-- The open item closes: partial word, header, and the TAIL marker of a tail timeout (R318, R321, R322). -/
def State.cfClose (s : State) (k : CfId) (crcErr trunc tail : Bool) : State :=
  match s.cfs[k].item with
  | none => s
  | some i =>
    let pad := if i.bytes % 8 = 0 then [] else [CWord.data i.word]
    let marker := if tail then [CWord.marker (capMarker 1 ((i.bytes - 1) % 8 + 1))] else []
    let need := pad.length + marker.length
    if need ≠ 0 ∧ s.cfs[k].free < need + 1 then s.cfDrop k
    else
      let h := capHeader (s.cfPort k) i crcErr (trunc || i.trunc) tail
      let s := s.modCf k (fun x =>
        let y := x.push pad
        ({ y with words := y.words.map (fun (w : CWord) => if w = CWord.slot then CWord.header h else w),
                   item := none }).push marker)
      s.wrap (at_ (cfPage k) 0x034) 1

/-! ### Packets that a port cuts short (R321) -/

/-- The Capture Unit runs: CAP is ON with the root PLL locked, and FATAL has not stopped it
(spec/14_attention_and_errors.md R387). -/
def State.capRuns (s : State) : Bool := s.rootOn domCAP && !s.held && !s.fatal

/-- The packet in progress on the port of a FIFO ends without a valid EOP. -/
def State.cfCut (s : State) (k : CfId) : State :=
  (s.cfClose k true false false).modCf k (fun x => { x with skipping := false, tailCut := none })

/-- A babble cut-off, a detach or a loss of VBUS ends the packet on a port: the open items of the FIFOs that watch it
close with CRC_ERR (R321). -/
def State.portCut (s : State) (p : PortId) : State :=
  if s.capRuns then s.forAll ((allFin 4).filter (fun k => s.cfPort k = p.val)) State.cfCut else s

end Sys2Proof.Machine
end

