-- ==== Sys2Proof/Machine/Queue.lean ====
section
/-!
DEFINITION. Queue pairs (spec/02_queue_pairs_and_doorbells.md): doorbells, push windows, enable and disable, ring
fetches, checks and storing, events, Park writes, the mirror and coalescing.
-/

namespace Sys2Proof.Machine

open Sys2Proof

/-! ### Quotas and back-pressure (spec/03_dispatch_scheduler.md R118-R120) -/

/-- Work Item Store quota of an owner. -/
def State.wisQuota (s : State) (o : Option SliceId) : Nat :=
  match o with
  | none => s.fld (at_ 0x050 0x104) 0 13
  | some i => s.fld (at_ (slicePage i) 0x130) 0 13

/-- Entries an owner holds. -/
def State.wisUse (s : State) (o : Option SliceId) : Nat := (s.wis.filter (fun it => it.owner == o)).length

/-- Entries an SQ holds. -/
def State.sqUse (s : State) (q : QpId) : Nat := (s.wis.filter (fun it => it.qp = q)).length

/-- An SQ is at its cap (R119). -/
def State.capFull (s : State) (q : QpId) : Bool := decide (s.fld (at_ (qpPage q) 0x124) 0 13 ≤ s.sqUse q)

/-- An owner is at its quota (R120). -/
def State.ownerFull (s : State) (o : Option SliceId) : Bool := decide (s.wisQuota o ≤ s.wisUse o)

/-- An owner exists: the physical function always does, a slice unless its state is NONE. -/
def State.ownerThere (s : State) (o : Option SliceId) : Bool :=
  match o with
  | none => true
  | some i => s.slices[i].st != .none

/-- After a write that changed a cap or a quota, or made a slice, an SQ or an owner that it brought to its limit shows in
SQ_CAP or OWNER_FULL (R119, R120). -/
def State.fullMarks (was s : State) (q : Option QpId) (o : Option SliceId) : State :=
  let s := match q with
    | some q => s.causeIf (s.capFull q && !was.capFull q) 0x050 3
    | none => s
  s.causeIf (s.ownerThere o && s.ownerFull o && !(was.ownerThere o && was.ownerFull o)) 0x050 2

/-- The maintenance reserve of an owner (R120). -/
def State.reserve (s : State) (o : Option SliceId) : Nat := min (s.fld (at_ 0x050 0x108) 8 6) (s.wisQuota o)

/-- The sum of the quotas of the physical function and of every existing slice (R118). -/
def State.quotaSum (s : State) : Nat :=
  s.wisQuota none + ((allFin 32).filter (fun i => s.slices[i].st ≠ .none)).foldl (fun n i => n + s.wisQuota (some i)) 0

/-- How far back-pressure lets an SQ store (R118-R120). -/
inductive Hold where
  | free
  | maintOnly
  | held
  deriving DecidableEq, Repr

/-- Back-pressure on an SQ. -/
def State.pressure (s : State) (q : QpId) : Hold :=
  let o := s.ownerQp q
  let use := s.wisUse o
  if s.capFull q || s.ownerFull o || decide (4096 ≤ s.wis.length) then .held
  else if use < s.wisQuota o - s.reserve o then .free
  else if s.flag (at_ (qpPage q) 0x14) 3 then .maintOnly
  else .held

/-! ### Storing (R71, R75, R100) -/

/-- Live flows (spec/03_dispatch_scheduler.md R102). -/
def State.flowsLive (s : State) : Nat := ((s.wis.filterMap (fun it => it.flow)).eraseDups).length

/-- Peaks after a store (R126). -/
def State.peaks (s : State) (o : Option SliceId) : State :=
  let s := { s with wisPeak := max s.wisPeak s.wis.length, flowPeak := max s.flowPeak s.flowsLive }
  match o with
  | none => { s with pfPeak := max s.pfPeak (s.wisUse none) }
  | some i => s.modSlice i (fun x => { x with peakUse := max x.peakUse (s.wisUse (some i)) })

/-- Checks one entry or chain, stamps it and stores it as an item at FETCH_PTR (R71, R74, R100). -/
def State.storeItem (s : State) (q : QpId) (pushed : Bool) (es : List Entry) : State :=
  match es with
  | [] => s
  | e :: rest =>
    let o := s.ownerQp q
    let owns (p : Nat) : Bool := match portId? p with
      | some p => s.ownerPort p == o
      | none => false
    let bad := entryCheck pushed owns es
    let it : Item :=
      { id := s.nextId, qp := q, owner := o, gen := s.genOf o, entry := e,
        segs := rest.map (fun x => (eBuffer x, eLength x)), idx := s.qps[q].fetchPtr, cnt := es.length,
        st := .pending, retire := bad, failed := bad.isSome, evOk := bad.isSome || !eEvwait e, ending := none, storedAt := s.now,
        readyAt := s.now, readyNo := 0, binned := false, aged := false, guarded := false, cutoffAt := 0, svcAt := 0, pipAt := 0,
        freshGen := false, noSnoop := false, x := Xfer.init }
    let s := { s with wis := s.wis ++ [it], nextId := s.nextId + 1 }
    let s := s.modQp q (fun x => { x with fetchPtr := (x.fetchPtr + es.length) % (2 * s.sqN q) })
    let s := s.peaks o
    let s := s.causeIf (s.capFull q) 0x050 3
    let s := s.causeIf (s.ownerFull o) 0x050 2
    s.requeue

/-- The opcode of an entry is a MAINT opcode. -/
def maintEntry (e : Entry) : Bool :=
  match opOf (eOp e) with
  | some o => o.isMaint
  | none => false

/-- Back-pressure lets an item be stored now: a MAINT item too where only those are (R120). -/
def State.mayStore (s : State) (q : QpId) (es : List Entry) : Bool :=
  match s.pressure q, es.head? with
  | .free, some _ => true
  | .maintOnly, some e => maintEntry e
  | _, _ => false

/-- Offers an item read from the ring: it is stored, or stays in the staging register behind those there (R120, R124). -/
def State.offer (s : State) (q : QpId) (es : List Entry) : State :=
  if s.qps[q].staged.isEmpty && s.mayStore q es then s.storeItem q false es
  else s.modQp q (fun x => { x with staged := x.staged ++ [es] })

/-- Splits the entries read into items: single entries, and chains of at most 64 (R69, R74). The second part is a
chain whose end was not read. Where more than 64 entries in a row have CHAIN set, the first 64 are one item, whose last
entry still has CHAIN set and which fails its check with DETAIL 0x05, and an item or a chain begins anew at the 65th.
CHAIN on an opcode that is not bulk makes a failing item of that one entry; a bulk chain whose later entries differ from its
first is one failing item up to the entry with CHAIN clear (R69; DESIGN CHOICE, log entry 50). -/
def splitItems : List Entry → List Entry → List (List Entry) × List Entry
  | acc, [] => ([], acc)
  | acc, e :: t =>
    let cur := acc ++ [e]
    let starts := match cur.head? with
      | some h => (match opOf (eOp h) with
        | some o => o.isBulk
        | none => false)
      | none => false
    if eChain e && starts && decide (cur.length < 64) then splitItems cur t
    else
      let r := splitItems [] t
      (cur :: r.1, r.2)

/-! ### Fetch service (R73, R74) -/

/-- Ring slots that a fetch may read: up to the tail, and not those held in the push buffer (R79). -/
def State.fetchable (s : State) (q : QpId) : Nat :=
  let x := s.qps[q]
  let stop := match x.push.head? with
    | some e => e.1
    | none => x.tail
  ringDist (s.sqN q) x.fetchPtr stop

/-- An SQ is eligible for fetch (R73), an uncovered chain at its fetch index waiting for the tail (R70). -/
def State.fetchOk (s : State) (q : QpId) : Bool :=
  let x := s.qps[q]
  s.qpEn q && !x.halted && x.staged.isEmpty && decide (0 < s.fetchable q)
    && x.chainWait != some (x.fetchPtr, x.tail) && s.pressure q != .held

/-- The items that a visit may fetch: the lesser of BURST and the room under the caps (R74, R118-R120). -/
def State.visitItems (s : State) (q : QpId) : Nat :=
  let o := s.ownerQp q
  let quota := if s.flag (at_ (qpPage q) 0x14) 3 then s.wisQuota o else s.wisQuota o - s.reserve o
  min (s.fld (at_ (qpPage q) 0x11C) 8 7)
    (min (s.fld (at_ (qpPage q) 0x124) 0 13 - s.sqUse q) (min (quota - s.wisUse o) (4096 - s.wis.length)))

/-- An SQ with visits left in the round (R74). -/
def State.hasVisit (s : State) (q : QpId) : Bool := decide (0 < s.qps[q].visits)

/-- The next queue pair of a visit: ascending after the last, with visits left. An SQ whose read has not returned keeps
its visits and is passed until it has (R74; DESIGN CHOICE, log entry 58). -/
def State.nextVisit (s : State) : Option QpId :=
  let able := (allFin 64).filter (fun q => s.hasVisit q && s.qps[q].fetch.isNone && s.fetchOk q)
  match able.find? (fun q => decide (s.visitPtr < q.val)) with
  | some q => some q
  | none => able.head?

/-- An SQ that is not eligible has no visits left in the round: it joins again at the next (R74, R121). -/
def State.dropVisits (s : State) : State :=
  { s with qps := Vector.ofFn (fun q => if s.hasVisit q && !s.fetchOk q then { s.qps[q] with visits := 0 } else s.qps[q]) }

/-- A round starts with WEIGHT visits for each eligible SQ, from the lowest queue pair (R74). -/
def State.newRound (s : State) : State :=
  { s with
    qps := Vector.ofFn (fun q =>
      if s.fetchOk q then { s.qps[q] with visits := s.fld (at_ (qpPage q) 0x11C) 0 5 } else s.qps[q])
    visitPtr := 63 }

/-- Asks for ring slots from an index: one read, or two where the ring wraps (R56, R60). -/
def State.askRing (s : State) (q : QpId) (idx cnt : Nat) : State :=
  let n := s.sqN q
  let slot := idx % n
  let base := s.reg64 (at_ (qpPage q) 0x100)
  let first := min cnt (n - slot)
  let s := s.askRead (s.ownerQp q) false (.ring q (BitVec.ofNat 64 (base + 32 * slot)) (32 * first))
  if first < cnt then s.askRead (s.ownerQp q) false (.ring q (BitVec.ofNat 64 base) (32 * (cnt - first))) else s

/-- Puts the read of a visit on the link: the slots from an index on, at most as many as the visit may still fetch items
(R74). -/
def State.readRing (s : State) (q : QpId) (idx avail left tail : Nat) (part : List Entry) : State :=
  let cnt := min avail left
  (s.askRing q idx cnt).modQp q (fun x => { x with
    fetch := some { idx := idx, cnt := cnt, rest := avail - cnt, tail := tail, part := part, left := left } })

/-- One visit of the Ring Interface Unit: a round starts when no eligible SQ has a visit left; the visit reads the ring
from FETCH_PTR (R74). Eligibility is judged at each visit (DESIGN CHOICE, log entry 58). -/
def State.visit (s : State) : State :=
  if s.held || !s.rootOn domSCHED || s.fatal then s else
  let s := s.dropVisits
  let s := if (allFin 64).any s.hasVisit then s else s.newRound
  match s.nextVisit with
  | none => s
  | some q =>
    let x := s.qps[q]
    let s := s.readRing q x.fetchPtr (s.fetchable q) (s.visitItems q) x.tail []
    { (s.modQp q (fun x => { x with visits := x.visits - 1 })) with visitPtr := q.val }

/-- A failed ring read: the queue pair halts with FETCH_PTR at the first failed entry, once the items read before it are
stored (R76). -/
def State.fetchFail (s : State) (q : QpId) : State :=
  if s.qps[q].staged.isEmpty then
    (s.modQp q (fun x => { x with failDue := false, halted := true })).cause (qpPage q) 6
  else s.modQp q (fun x => { x with failDue := true })

/-- The read of a visit has brought every slot it asked, with these entries of a chain still without an end: the visit
reads on while items are left to it, for a chain to its end (R70, R74). A chain that reaches into the push buffer ends
with the entry pushed there (R79); one that the tail does not cover waits for the tail. -/
def State.fetchOn (s : State) (q : QpId) (f : Fetch) (part : List Entry) (left : Nat) : State :=
  let next := (f.idx + f.cnt) % (2 * s.sqN q)
  if 0 < f.rest ∧ 0 < left ∧ (part ≠ [] ∨ s.qps[q].staged = []) then s.readRing q next f.rest left f.tail part
  else if part.isEmpty || decide (0 < f.rest) then s
  else
    match s.qps[q].push with
    | e :: t =>
      if e.1 = next then (s.offer q (part ++ [e.2])).modQp q (fun x => { x with push := t })
      else s.modQp q (fun x => { x with chainWait := some ((f.idx + f.cnt + 2 * s.sqN q - part.length) % (2 * s.sqN q), f.tail) })
    | [] =>
      s.modQp q (fun x => { x with chainWait := some ((f.idx + f.cnt + 2 * s.sqN q - part.length) % (2 * s.sqN q), f.tail) })

/-- A ring read returns (R70, R71, R74, R76): its entries are split into items, which are offered in order. -/
def State.fetched (s : State) (q : QpId) (res : FetchResult) : State :=
  match s.qps[q].fetch with
  | none => s
  | some f =>
    let es := res.entries.take f.cnt
    let r := splitItems [] (f.part ++ es)
    let s := s.forAll r.1 (fun t i => t.offer q i)
    let s := s.modQp q (fun x => { x with fetch := none })
    if es.length = f.cnt then s.fetchOn q f r.2 (f.left - r.1.length)
    else if res.failed then s.fetchFail q
    else s

/-! ### Doorbells and pushes (R62-R64, R77-R79) -/

/-- The condition of R62. -/
def State.dbOk (s : State) (q : QpId) (v : Nat) : Bool :=
  let n := s.sqN q
  let h := s.sqHead q
  decide (v < 2 * n) && decide (ringDist n h v ≤ n) && decide (ringDist n h s.qps[q].tail ≤ ringDist n h v)

/-- A write of SQ_DB (R62, R64). -/
def State.sqDb (s : State) (q : QpId) (v : Nat) : State :=
  if !s.qpEn q then s.cause (qpPage q) 2
  else if s.dbOk q v then s.modQp q (fun x => { x with tail := v })
  else s.cause (qpPage q) 1

/-- A write of CQ_DB (R63). -/
def State.cqDb (s : State) (q : QpId) (v : Nat) : State :=
  let n := s.cqN q
  let x := s.qps[q]
  if v < 2 * n ∧ ringDist n x.cqHead v ≤ ringDist n x.cqHead x.cqTail then
    s.modQp q (fun x => { x with cqHead := v })
  else s.cause (qpPage q) 1

/-- The sizes and alignments a push window accepts (R77). -/
def pushSizeOk (ofs size : Nat) : Bool := (size == 32 || size == 64) && ofs % size == 0

/-- A push of one or two entries (R77-R79). -/
def State.pushIn (s : State) (q : QpId) (ofs size : Nat) (data : BitVec 512) : State :=
  if !pushSizeOk ofs size then s.cause (qpPage q) 3
  else if !s.qpEn q then s.cause (qpPage q) 2
  else
    let k := size / 32
    let n := s.sqN q
    let x := s.qps[q]
    let v := (x.tail + k) % (2 * n)
    if !(s.dbOk q v && decide (ringDist n (s.sqHead q) x.tail + k ≤ n)) then s.cause (qpPage q) 1
    else if x.push.length + k ≤ 4 then
      let es := [(x.tail, data.setWidth 256), ((x.tail + 1) % (2 * n), (data >>> 256).setWidth 256)].take k
      (s.modQp q (fun x => { x with tail := v, push := x.push ++ es })).wrap (at_ (qpPage q) 0x14C) k
    else
      (s.modQp q (fun x => { x with tail := v })).wrap (at_ (qpPage q) 0x150) k

/-- A write of a push window that has reached it: while the block is off, one of a size or alignment that push windows
refuse is a wrong-size access at offset `full` and no access to an off block (spec/00_scope.md R14, R15). -/
def State.pushWrite (s : State) (src : Source) (q : QpId) (full ofs size : Nat) (data : BitVec 512) : State :=
  if !s.held && s.blockOff .qp && !pushSizeOk ofs size then s.accSize src full size true
  else s.gateIn src (qpPage q) 0x130 (fun t => t.pushIn q ofs size data)

/-- Where a push window starts, as its source addresses it (R77, spec/09_slices.md R279). -/
def pushBase (src : Source) (q : QpId) : Nat :=
  match src with
  | .win i => 0x10000 * i.val + 0x8000 + 0x200 * q.val
  | _ => 4096 * qpPage q + 0x800

/-- The oldest pushed entry is stored once every lower index is (R75, R79). -/
def State.pushStore (s : State) (q : QpId) : State :=
  let x := s.qps[q]
  match x.push with
  | [] => s
  | e :: t =>
    if s.held || s.fatal || !s.rootOn domSCHED || !s.qpEn q || x.halted || x.fetch.isSome || !x.staged.isEmpty
      || e.1 != x.fetchPtr || !s.mayStore q [e.2] then s
    else (s.storeItem q true [e.2]).modQp q (fun x => { x with push := t })

/-- The oldest staged item is stored once back-pressure allows: a non-MAINT one where the owner's use has fallen below
quota − r (R120, R124). -/
def State.stagedStore (s : State) (q : QpId) : State :=
  match s.qps[q].staged with
  | [] => s
  | e :: t =>
    if s.held || s.fatal || !s.rootOn domSCHED || !s.mayStore q e then s
    else
      let s := (s.storeItem q false e).modQp q (fun x => { x with staged := t })
      if s.qps[q].failDue then s.fetchFail q else s

/-! ### Enable, disable and the event queue (R59, R90, R97) -/

/-- The sum of PARK_QUOTA over enabled queue pairs that a test selects (R94). -/
def State.parkSum (s : State) (sel : QpId → Bool) : Nat :=
  ((allFin 64).filter (fun q => s.qpEn q && sel q)).foldl (fun n q => n + s.fld (at_ (qpPage q) 0x120) 0 9) 0

/-- Completion Park admission (R94). -/
def State.parkAdmits (s : State) (q : QpId) : Bool :=
  let mine := s.fld (at_ (qpPage q) 0x120) 0 9
  decide (s.parkSum (fun _ => true) + mine ≤ 1024) &&
    (match s.ownerQp q with
     | none => true
     | some i => decide (s.parkSum (fun x => s.ownerQp x = some i) + mine
         ≤ s.fld (at_ (slicePage i) 0x134) 0 11))

/-- Imyon is not there: the device is in ACORN_ONLY (spec/13_firmware_and_settings.md R355). -/
def State.acorn (s : State) : Bool := decide (s.fw.mc = .acornOnly)

/-- The enable of a queue pair that is disabled (R59, R355). A mirror write is due where the indices were not 0 before
it (R84). -/
def State.qpOpen (s : State) (q : QpId) : State :=
  if s.acorn then s.cause 0x004 4
  else if !s.qpIdle q then s.cause (qpPage q) 5
  else if !s.parkAdmits q then s.cause (qpPage q) 7
  else
    let moved := decide (s.sqHead q ≠ 0 ∨ s.qps[q].cqTail ≠ 0)
    (s.setFld (at_ (qpPage q) 0x14) 0 1 1).modQp q (fun _ => { Qp.init with opened := true, mirrorDue := moved })

/-- Fetching of a queue pair stops, what it has not stored is discarded (R97). An entry in the staging register (R120)
is not stored, so it is discarded too, with no record (DESIGN CHOICE, log entry 59). -/
def State.qpHalt (s : State) (q : QpId) : State :=
  (s.setFld (at_ (qpPage q) 0x14) 0 1 0).modQp q (fun x =>
    { x with push := [], staged := [], failDue := false, fetch := none, chainWait := none, visits := 0 })

/-- The disable of a queue pair: every stored item not in service ends ABORTED, whatever status it carried to the retire
list (R97). -/
def State.qpClose (s : State) (q : QpId) : State :=
  let s := s.qpHalt q
  ((s.wis.filter (fun it => it.qp == q && !it.inService)).foldl (fun t it => t.toRetire it.id 0x0C 0) s).requeue

/-- EVENT_Q of one queue pair; setting it clears it on the owner's other queue pairs (R90). -/
def State.eventQWrite (s : State) (q : QpId) (on : Bool) : State :=
  if !on then s.setFld (at_ (qpPage q) 0x14) 3 1 0
  else
    let o := s.ownerQp q
    let s := s.forAll ((allFin 64).filter (fun x => x ≠ q ∧ s.ownerQp x = o ∧ s.flag (at_ (qpPage x) 0x14) 3))
      (fun t x => t.setFld (at_ (qpPage x) 0x14) 3 1 0)
    s.setFld (at_ (qpPage q) 0x14) 3 1 1

/-- A write of QP[n].CTRL (R99). A wait becomes visible on an enabled event CQ (R91). -/
def State.qpCtrl (s : State) (q : QpId) (v : Word) : State :=
  let was := s.qpEn q
  let s := s.setFld (at_ (qpPage q) 0x14) 1 2 (bits v.toNat 1 2)
  let s := s.eventQWrite q (v.getLsbD 3)
  let s := if v.getLsbD 0 && !was then s.qpOpen q else if !v.getLsbD 0 && was then s.qpClose q else s
  let o := s.ownerQp q
  if s.eventQ o = some q ∧ s.events.any (fun w => s.eventOwner w.page == o) then s.cause (qpPage q) 8 else s

/-- A write of a field that R58 guards: refused while enabled or not idle. -/
def State.qpConfig (s : State) (q : QpId) (o : Nat) (v : Word) : State :=
  if s.qpEn q || !s.qpIdle q then s.busyWrite (qpPage q) o 5 v else s.plainWrite (qpPage q) o (2 ^ 32 - 1) v

/-! ### Events, Park, mirror, coalescing -/

/-- The earliest event waiting in a source commits, given an enabled event CQ with credit (R91, R95). -/
def State.eventCommit (s : State) (page : Nat) : State :=
  let o := s.eventOwner page
  match s.events.find? (fun w => w.page = page), s.eventQ o with
  | some w, some q =>
    if s.held || s.fatal || !s.rootOn domSCHED || s.credit q == 0 then s
    else { s with events := s.events.filter (fun x => !(x.page == page && x.code == w.code)) }.commitEvent w q o
  | _, _ => s

/-- The Park writes a CQ's oldest record into a free slot (R93). -/
def State.parkWrite (s : State) (q : QpId) : State :=
  match s.park.find? (fun r => r.qp = q) with
  | none => s
  | some r =>
    if s.held || s.fatal || !s.rootOn domSCHED || s.cqFree q == 0 then s
    else
      let s := { s with park := s.park.erase r }
      if s.recordStale r.owner r.gen then s.staleRecord r.owner else s.writeCq q r.owner r.gen r.record

/-- The mirror is written at MIRROR_ADDR after a change (R83, R84). A change made while MIRROR_EN is 0 stays due and is written once
it is set (DESIGN CHOICE, log entry 56). One that falls due while the slice is REMOVING or FAULTED is discarded as a record
is and counts in STALE_WRITES (spec/09_slices.md R286; DESIGN CHOICE, log entry 73). -/
def State.mirrorWrite (s : State) (q : QpId) : State :=
  let x := s.qps[q]
  if s.held || s.fatal || !s.rootOn domSCHED || !x.mirrorDue || !s.flag (at_ (qpPage q) 0x14) 1 then s
  else
    let o := s.ownerQp q
    let w := x.mirrorWrites + 1
    let s := s.modQp q (fun x => { x with mirrorDue := false, mirrorWrites := w })
    if s.recordStale o (s.genOf o) then s.staleWrite o
    else s.post o (s.genOf o) false (.mirror q (BitVec.ofNat 64 (s.reg64 (at_ (qpPage q) 0x110))) (mirrorRecord (s.sqHead q) x.cqTail x.lastCqSeq w))

/-- CQ_NEW sets; a mirror write that is due goes before the message it may cause (spec/01_device_organisation.md
R29). -/
def State.cqNew (s : State) (q : QpId) : State :=
  ((s.mirrorWrite q).modQp q (fun x => { x with coalHit := false })).cause (qpPage q) 0

/-- CQ_NEW sets and the coalescing count and timer restart (R440). -/
def State.coalFire (s : State) (q : QpId) : State :=
  (s.cqNew q).modQp q (fun x => { x with coalCount := 0, coalStart := none })

/-! ### Meanings -/

/-- SQ_DB_WRITE (R62, R64). -/
def execSqDbWrite (via : Source) (q : QpId) (v : Word) (s : State) : Result :=
  done (s.gate via (qpPage q) 0x130 (fun t => t.sqDb q (bits v.toNat 0 17)))

/-- CQ_DB_WRITE (R63). -/
def execCqDbWrite (via : Source) (q : QpId) (v : Word) (s : State) : Result :=
  done (s.gate via (qpPage q) 0x138 (fun t => t.cqDb q (bits v.toNat 0 17)))

/-- PUSH_WRITE (R77-R79). -/
def execPushWrite (via : Source) (q : QpId) (ofs size : Nat) (data : BitVec 512) (s : State) : Result :=
  done (if s.reaches via then s.pushWrite via q (pushBase via q + ofs) ofs size data else s)

/-- PUSH_BUFFER_STORE (R79). -/
def execPushBufferStore (q : QpId) (s : State) : Result := done (s.pushStore q)

/-- QP_ENABLE: the CTRL write that sets EN (R59). -/
def execQpEnable (src : Source) (q : QpId) (v : Word) (s : State) : Result :=
  done (s.gate src (qpPage q) 0x014 (fun t => t.qpCtrl q v))

/-- QP_DISABLE: the CTRL write that clears EN (R97). -/
def execQpDisable (src : Source) (q : QpId) (v : Word) (s : State) : Result :=
  done (s.gate src (qpPage q) 0x014 (fun t => t.qpCtrl q v))

/-- EVENT_Q_SET: the CTRL write that sets EVENT_Q (R90). -/
def execEventQSet (src : Source) (q : QpId) (v : Word) (s : State) : Result :=
  done (s.gate src (qpPage q) 0x014 (fun t => t.qpCtrl q v))

/-- FETCH_VISIT (R74). -/
def execFetchVisit (s : State) : Result := done s.visit

/-- RING_FETCH_DONE (R71). A fetch of a queue pair that has been disabled brings nothing (R97). -/
def execRingFetchDone (q : QpId) (res : FetchResult) (s : State) : Result :=
  done (if s.held || s.fatal || !s.rootOn domSCHED then s else s.fetched q res)

/-- STAGED_ENTRY_STORE (R120). -/
def execStagedEntryStore (q : QpId) (s : State) : Result := done (s.stagedStore q)

/-- EVENT_COMMIT (R91). -/
def execEventCommit (page : Fin 512) (s : State) : Result := done (s.eventCommit page.val)

/-- PARK_WRITE (R93). -/
def execParkWrite (q : QpId) (s : State) : Result := done (s.parkWrite q)

/-- MIRROR_WRITE (R84). -/
def execMirrorWrite (q : QpId) (s : State) : Result := done (s.mirrorWrite q)

/-- COAL_COUNT_REACHED (R440): the count and the timer restarted where the count reached COUNT; they restart here where
COUNT was lowered to the count. -/
def execCoalCountReached (q : QpId) (s : State) : Result :=
  done (if s.held || !s.rootOn domSCHED then s
    else if s.coalMax q ≤ s.qps[q].coalCount then s.coalFire q
    else if s.qps[q].coalHit then s.cqNew q
    else s)

/-- COAL_TIMER_EXPIRY (R440); TIME 0 means no timer. -/
def execCoalTimerExpiry (q : QpId) (s : State) : Result :=
  done (if !s.held && s.rootOn domSCHED && s.fld (at_ (qpPage q) 0x128) 8 16 != 0 && s.qps[q].coalStart.isSome then s.coalFire q else s)

end Sys2Proof.Machine
end

