-- ==== Sys2Proof/Machine/Sched.lean ====
section
/-!
DEFINITION. The Dispatch Scheduler (spec/03_dispatch_scheduler.md): the acceptance table, selection, placement,
slots, release and missed service, and its counters.
-/

namespace Sys2Proof.Machine

open Sys2Proof

/-! ### Acceptance by the port's state (spec/05_root_ports.md R166) -/

/-- What a port's state decides for an item. -/
inductive Verdict where
  | run
  | wait
  | ends (status detail : Nat)
  deriving DecidableEq, Repr

/-- The column of the acceptance table an opcode belongs to. -/
inductive Column where
  | transfer
  | epOther
  | epClose
  | reset
  | suspend
  | resume
  | power
  deriving DecidableEq, Repr

def Op.column (o : Op) : Column :=
  match o with
  | .epOpen => .epOther
  | .epResetToggle => .epOther
  | .epClearHalt => .epOther
  | .epClose => .epClose
  | .portReset => .reset
  | .portSuspend => .suspend
  | .portResume => .resume
  | .portPowerReq => .power
  | _ => .transfer

/-- The role of a port is DCP (R186). -/
def State.isDcp (s : State) (p : PortId) : Bool := s.fld (at_ (portPage p) 0x10C) 0 2 == 2

/-- The acceptance table of R166. -/
def State.accepts (s : State) (p : PortId) (c : Column) : Verdict :=
  if c = .epClose ∨ c = .power then .run
  else
    match s.ports[p].st with
    | .powerOff => .ends 0x0B 0x02
    | .disconnected =>
      if s.isDcp p then .ends 0x0B 0x05
      else if !s.ports[p].conn then .ends 0x0B 0x01
      else if c = .reset then .run
      else .ends 0x0B 0x03
    | .resetting => .wait
    | .enabled =>
      if c = .transfer ∧ (s.ports[p].recovering ∨ s.ports[p].suspPend) then .wait else .run
    | .suspended => if c = .transfer then .wait else .run
    | .resuming => if c = .transfer ∨ c = .suspend ∨ c = .resume then .wait else .run
    | .disabledError => if c = .reset then .run else .ends 0x0B 0x03
    | .test => .ends 0x0B 0x04

/-- The opcode needs the Port Sequencer: transfers, reset, suspend and resume (R166: the endpoint opcodes put nothing on
the bus). -/
def Column.onBus (c : Column) : Bool := c = .transfer || c = .reset || c = .suspend || c = .resume

/-- What a port's state decides for an opcode (R166). A Pod that is not ON takes no new work
(spec/12_power_domains.md R333), so what needs its Port Sequencer waits (DEDUCED, log entry 62). -/
def State.verdict (s : State) (p : PortId) (c : Column) : Verdict :=
  let v := s.accepts p c
  if v = .run && c.onBus && !s.portOn p then .wait else v

/-- The verdict on an item at its port. -/
def State.itemVerdict (s : State) (it : Item) : Verdict :=
  match portId? it.port with
  | some p => s.verdict p it.op.column
  | none => .wait

/-! ### Eligibility and selection (R107-R109) -/

/-- CONTROL and BULK items of a port in PIP or SERVICE. -/
def State.nonPerOut (s : State) (port : Nat) : Nat :=
  (s.wis.filter (fun it => it.port == port && it.dispatched && (it.op.isBulk || it.op == .control))).length

/-- An item in READY is eligible (R107). -/
def State.eligible (s : State) (it : Item) : Bool :=
  it.st == .ready && !it.retiring && decide (1 ≤ s.credit it.qp) && s.itemVerdict it != .wait
    && (!(it.op.isBulk || it.op == .control) ||
        decide (s.nonPerOut it.port < s.fld (at_ 0x050 0x10C) 0 5))

/-- SCHED[0].AGE_LIMIT in microseconds. -/
def State.ageLimit (s : State) : Nat := s.fld (at_ 0x050 0x100) 0 32

/-- A non-periodic item in READY is older than a limit: its age is compared in whole microseconds (R108). -/
def State.olderThan (s : State) (it : Item) (limit : Nat) : Bool :=
  it.st == .ready && !it.retiring && !it.op.isPeriodic && decide (limit < s.usSince it.readyAt)

/-- The item has been promoted and is still older than AGE_LIMIT (R108). -/
def State.isAged (s : State) (it : Item) : Bool := it.aged && s.olderThan it s.ageLimit

/-- The item is guarded, and still older than 4 × AGE_LIMIT (R108). -/
def State.isGuarded (s : State) (it : Item) : Bool := it.guarded && s.olderThan it (4 * s.ageLimit)

/-- Effective rank: one lower when aged, never 0 for a non-periodic item (R108). -/
def State.rank (s : State) (it : Item) : Nat :=
  if s.isAged it then max 1 (it.op.cls.rank - 1) else it.op.cls.rank

/-- The moment of an item's service cut-off, in bit times (R115): the microframe or frame in progress began at its own
boundary; boundaries yet to come lie as the port's clock places
them, the microframe in progress with its own length and the later ones with the trim now set and the fraction carried
into them (spec/06_frame_timing.md R193, R195). -/
def State.cutMoment (s : State) (it : Item) : Int :=
  match portId? it.port with
  | none => 0
  | some p =>
    let c := s.clks[p]
    let after : Int := if s.ports[p].speed = 0 then 48000 else 432000
    let ahead : Int := (it.cutoffAt : Int) - (c.count : Int)
    if ahead ≤ 0 then ((if s.ports[p].speed = 0 then c.lastBoundary else c.frameStart : Nat) : Int) + after
    else (c.lastBoundary : Int) + c.len + ((ahead - 1) * (60000 * 64 + c.trim) + c.frac) / 64 + after

/-- Distance of a port after a round-robin pointer. -/
def afterPtr (ptr port : Nat) : Nat := (port + 48 - (ptr + 1) % 48) % 48

/-- The first item of a list by a list of keys, earlier items winning ties. -/
def pickBy (key : Item → List Int) : List Item → Option Item
  | [] => none
  | a :: t =>
    match pickBy key t with
    | none => some a
    | some b => if key b < key a then some b else some a

/-- The first item of a class list among those given (R106, R109). -/
def classHead (l : List Item) (c : Cls) : Option Item :=
  pickBy (fun it => [it.readyNo]) (l.filter (fun it => decide (it.op.cls = c)))

/-- The candidate of a port among its eligible non-periodic items: its oldest guarded item, else the head of best
effective rank, the older of two (R109). -/
def State.portCandidate (s : State) (l : List Item) : Option Item :=
  match pickBy (fun it => [(it.readyAt : Int), it.readyNo]) (l.filter s.isGuarded) with
  | some it => some it
  | none => pickBy (fun it => [(s.rank it : Int), (it.readyAt : Int), it.readyNo])
      ([Cls.maint, Cls.control, Cls.bulk].filterMap (classHead l))

/-- The item the scheduler selects (R109). -/
def State.select (s : State) : Option Item :=
  let el := s.wis.filter s.eligible
  let per := el.filter (fun it => it.op.isPeriodic)
  if !per.isEmpty then
    pickBy (fun it => [s.cutMoment it, (afterPtr s.perPtr it.port : Int), it.readyNo]) per
  else
    let cands := (List.range 48).filterMap (fun p => s.portCandidate (el.filter (fun it => it.port == p)))
    if cands.any s.isGuarded then
      pickBy (fun it => [(afterPtr s.rrPtr it.port : Int)]) (cands.filter s.isGuarded)
    else pickBy (fun it => [(s.rank it : Int), (afterPtr s.rrPtr it.port : Int)]) cands

/-! ### Engines (R110-R112) -/

/-- The item in an engine's Pip. -/
def State.pipItem (s : State) (e : EngId) : Option Item := s.wis.find? (fun it => it.st = .pip e)

/-- Items in SERVICE on an engine. A port opcode handed to its Port Sequencer or to the Husk path counts until its
record commits: R111 counts it as SERVICE (DESIGN CHOICE, log entry 60). -/
def State.inSvc (s : State) (e : EngId) : Nat := (s.wis.filter (fun it => it.engine? = some e)).length

/-- Transfers in an engine's slots. -/
def State.slotsUsed (s : State) (e : EngId) : Nat := (s.wis.filter (fun it => it.slotOn e)).length

/-- CONTROL and BULK items in an engine's slots. -/
def State.nonPerSlots (s : State) (e : EngId) : Nat :=
  (s.wis.filter (fun it => it.slotOn e && !it.op.isPeriodic)).length

/-- Endpoint opcodes in an engine's endpoint unit. -/
def State.epUnit (s : State) (e : EngId) : Nat :=
  (s.wis.filter (fun it => decide (it.engine? = some e) && it.op.isEpOp)).length

/-- The engine could take the item into SERVICE at once (R111). -/
def State.couldStart (s : State) (e : EngId) (o : Op) : Bool :=
  if o.isPortOp then true
  else if o.isEpOp then decide (s.epUnit e < 16)
  else decide (s.slotsUsed e < 16) &&
    (o.isPeriodic || decide (s.nonPerSlots e < 16 - s.fld (at_ 0x050 0x108) 0 4))

/-- The engine with an empty Pip of a list that has the fewest items in SERVICE, the lowest number first. -/
def State.fewest (s : State) : List EngId → Option EngId
  | [] => none
  | e :: t =>
    match s.fewest t with
    | none => some e
    | some f => if s.inSvc f < s.inSvc e then some f else some e

/-- The engine a selected item goes to (R110). -/
def State.engineFor (s : State) (o : Op) : Option EngId :=
  let empty := (allFin 16).filter (fun e => (s.pipItem e).isNone)
  match s.fewest (empty.filter (fun e => s.couldStart e o)) with
  | some e => some e
  | none => s.fewest empty

/-- Selection and placement (R109, R110). -/
def State.place (s : State) : State :=
  if s.held || s.fatal || s.fw.paused || !s.rootOn domSCHED then s else
  match s.select with
  | none => s
  | some it =>
    match s.engineFor it.op with
    | none => s
    | some e =>
      let s := s.binItem it
      let guarded := s.isGuarded it
      let s := s.modItem it.id (fun x =>
        { x with st := .pip e, pipAt := s.now, noSnoop := s.flag (at_ (qpPage it.qp) 0x14) 2 })
      if it.op.isPeriodic then { s with perPtr := it.port }
      else
        let s := { s with rrPtr := it.port }
        if guarded then (s.wrap (at_ 0x050 0x128) 1).cause 0x050 5 else s

/-- The lowest free slot of an engine. -/
def State.freeSlot (s : State) (e : EngId) : Option (Fin 16) :=
  (allFin 16).find? (fun k => !s.wis.any (fun it => it.st == .service e (some k)))

/-- The context cache holds what an item's endpoint needs: an OPEN or HALTED context, or the closed one
(spec/04_transfer_engines_and_endpoints.md R132, R133). -/
def State.ctxCached (s : State) (it : Item) : Bool :=
  let a := eAddr it.entry
  let e := eEp it.entry
  s.ctxs.any (fun c => c.port.val == it.port && c.addr == a && c.ep == e && c.dir == it.keyDir && c.cached) ||
    s.closed.any (fun c => c.port.val == it.port && c.addr == a && c.ep == e && c.dir == it.keyDir)

/-- Asks for the device-table entry of an item: base + (PORT × 128 + DEV_ADDR) × 8
(spec/04_transfer_engines_and_endpoints.md R131). -/
def State.askTable (s : State) (it : Item) : State :=
  let base := match it.owner with
    | none => s.reg64 (at_ 0x060 0x108)
    | some i => s.reg64 (at_ (slicePage i) 0x140)
  s.askRead it.owner false (.devTable (BitVec.ofNat 64 (base + (it.port * 128 + eAddr it.entry) * 8)))

/-- The owner of an item holds power authority for a port (spec/09_slices.md R275). -/
def State.powerMay (s : State) (o : Option SliceId) (n : PortId) (on : Bool) : Bool :=
  match o with
  | none => true
  | some i => s.flag (at_ (slicePage i) (0x118 + 4 * (n.val / 32))) (n.val % 32)
      && !(on && s.flag (at_ (slicePage i) 0x014) 4)

/-- Power authority of a PORT_POWER_REQ, judged as it enters SERVICE (spec/09_slices.md R275). -/
def State.powerAllowed (s : State) (it : Item) : Bool :=
  match portId? it.port with
  | some n => s.powerMay it.owner n (bitAt (eLength it.entry) 0)
  | none => false

/-- An engine takes its Pip item (R103, R111, spec/05_root_ports.md R166). The look-up of its context is counted, and a
context that is not cached is read. An item that the port's state makes wait goes back to its old place on its list
(DESIGN CHOICE, log entry 60). A transfer joins the round robin of its port behind those that wait for a turn, before the
one that had the latest (spec/04_transfer_engines_and_endpoints.md R129). -/
def State.take (s : State) (e : EngId) : State :=
  if s.held || s.fatal || s.fw.paused || !s.rootOn domSCHED then s else
  match s.pipItem e with
  | none => s
  | some it =>
    match s.itemVerdict it with
    | .wait => s.modItem it.id (fun x => { x with st := .ready })
    | .ends st d => s.complete it st d 0
    | .run =>
      if !s.couldStart e it.op then s
      else
        let slot := if it.op.isMaint then none else s.freeSlot e
        let needsCtx := it.op.isTransfer || it.op.isEpOp
        let hit := s.ctxCached it
        let s := s.wrap (at_ 0x058 (0x108 + 16 * e.val)) 1
        let s := if needsCtx then s.wrap (at_ 0x060 (if hit then 0x110 else 0x114)) 1 else s
        let s := if needsCtx && !hit then s.askTable it else s
        let turn := match portId? it.port with
          | some p => s.ports[p].turn - 1
          | none => 0
        let x := { Xfer.init with
          ctxReady := !needsCtx || hit, powerOk := s.powerAllowed it, nextSvc := it.x.nextSvc, turn := turn }
        s.modItem it.id (fun i => { i with st := .service e slot, svcAt := s.now, x := x })

/-- The place before the head of an item's class list (R112). -/
def State.headNo (s : State) (it : Item) : Int :=
  (s.wis.filter (fun x => x.st == .ready && !x.retiring && x.port == it.port && decide (x.op.cls = it.op.cls))).foldl
    (fun m x => min m (x.readyNo - 1)) it.readyNo

/-- Pip recall (R112). -/
def State.recall (s : State) (e : EngId) : State :=
  if s.held || s.fatal then s else
  match s.pipItem e with
  | none => s
  | some it =>
    let other := (allFin 16).any (fun f => decide (f ≠ e) && (s.pipItem f).isNone && s.couldStart f it.op)
    if (it.op.isBulk || it.op == .control) && other then
      (s.modItem it.id (fun x => { x with st := .ready, readyNo := s.headNo it })).wrap (at_ 0x050 0x124) 1
    else s

/-- The first item on the retire list whose CQ has credit (R113). In the activation pause one whose end waits for the
engines to resume stays (spec/13_firmware_and_settings.md R371). -/
def State.retireHead (s : State) : Option Item :=
  pickBy (fun it => [it.readyNo])
    (s.wis.filter (fun it => it.st == .ready && it.retiring && decide (1 ≤ s.credit it.qp)
      && !(s.fw.paused && it.ending.isSome)))

/-- The retire list is served (R113). -/
def State.retireNext (s : State) : State :=
  if s.held || s.fatal || !s.rootOn domSCHED then s else
  match s.retireHead with
  | none => s
  | some it =>
    let r := it.retire.getD (0, 0)
    s.complete it r.1 r.2 it.xferLen

/-! ### Release and missed service (R115, R116) -/

/-- A periodic item misses its service. -/
def State.miss (s : State) (id detail : Nat) : State :=
  ((s.toRetire id 0x06 detail).wrap (at_ 0x050 0x120) 1).cause 0x050 4

/-- The next boundary after the present one at which an endpoint is served, on the port's boundary count
(spec/04_transfer_engines_and_endpoints.md R138); for an endpoint served by frames, the boundary that starts the
frame. -/
def State.nextService (s : State) (c : Ctx) : Nat :=
  let k := s.clks[c.port]
  let unit := if s.ports[c.port].speed = 0 ∧ c.hubAddr = 0 then 1 else 8
  let window := if unit = 1 then 256 else 32
  let period := 2 ^ c.interval
  let base := k.count - k.frindex.toNat % unit
  if period ≤ window then
    let i := k.frindex.toNat / unit
    base + ((c.phase % period + period - (i + 1) % period) % period + 1) * unit
  else if k.count < c.nextAt then c.nextAt
  else c.nextAt + period * unit

/-- The boundary count of an item's first service, and of the one it is released for now: the next microframe or frame
for an interrupt item; for an isochronous one the endpoint's next service with ASAP, else START_FRAME, or the first
packet still ahead of it (R116). That the first serviceable microframe of ASAP is the first at which R138 serves the
endpoint is DEDUCED (log entry 22). -/
def State.services (s : State) (p : PortId) (it : Item) : Nat × Nat :=
  let c := s.clks[p]
  let next := if s.ports[p].speed = 0 then c.count + 1 else c.count + (8 - c.frindex.toNat % 8)
  if it.op.isIntr then (next, next)
  else if eAsap it.entry then
    match s.ctx? p (eAddr it.entry) (eEp it.entry) it.keyDir with
    | some x => (s.nextService x, s.nextService x)
    | none => (next, next)
  else
    let t := s.isoStart p it
    let base := c.count - c.frindex.toNat % s.isoUnit p it
    let d := (t.1 + 16384 - t.2 % 16384) % 16384
    if d < 8192 then (base + d, base + d)
    else
      let period := s.isoPeriod p it
      (base - (16384 - d), base + (period - (16384 - d) % period) % period)

/-- The Frame Timer releases a waiting periodic item (R116). -/
def State.release (s : State) (id : Nat) : State :=
  if s.held || !s.rootOn domTIME || s.fatal then s else
  match s.item? id with
  | none => s
  | some it =>
    if it.st ≠ .frameWait then s
    else if s.isoPassed it then (s.miss id 0x02).requeue
    else
      match portId? it.port with
      | none => s
      | some p =>
        let sv := s.services p it
        let s := s.modItem id (fun i => { i with st := .ready, readyAt := s.now, readyNo := s.ordinal, cutoffAt := sv.2,
                                                 x := { i.x with nextSvc := sv.1 } })
        { s with ordinal := s.ordinal + 1 }

/-- A periodic item released for the present service is not in SERVICE at the cut-off of its port (R116): an isochronous
item with later packets ahead stays READY for the next packet's microframe. One that is in a Pip then stays there: R116
says READY, R112 that a periodic item holds its Pip to its cut-off, and R103 has no move from PIP to READY but the
recall and the port's state (DESIGN CHOICE, log entry 60). -/
def State.cutItem (s : State) (p : PortId) (it : Item) : State :=
  let c := s.clks[p]
  if s.fw.paused then s.miss it.id 0x03
  else if s.ports[p].suspPend then s.miss it.id 0x04
  else if it.op.isIntr then s.miss it.id 0x01
  else
    let period := s.isoPeriod p it
    if it.x.nextSvc + (ePktCount it.entry - 1) * period ≤ c.count then s.miss it.id 0x02
    else s.modItem it.id (fun i => { i with cutoffAt := i.cutoffAt + period * ((c.count - i.cutoffAt) / period + 1) })

/-- The service cut-off of a port (R115, R116). -/
def State.cutoff (s : State) (p : PortId) : State :=
  if s.held || s.fatal || !s.rootOn domTIME then s else
  let c := s.clks[p]
  let due := s.wis.filter (fun it => it.port == p.val && it.op.isPeriodic && it.retire.isNone && it.ending.isNone && !it.inService
    && (it.st == .ready || it.dispatched) && decide (it.cutoffAt ≤ c.count))
  ((due.foldl (fun t it => t.cutItem p it) s).modPort p (fun x => { x with cutPassed := true })).requeue

/-! ### Meanings -/

/-- PERIODIC_RELEASE (R116). -/
def execPeriodicRelease (id : Nat) (s : State) : Result := done (s.release id)

/-- PIP_PLACEMENT (R110). -/
def execPipPlacement (s : State) : Result := done s.place

/-- ENGINE_TAKE (R111). -/
def execEngineTake (e : EngId) (s : State) : Result := done (s.take e)

/-- PIP_RECALL (R112). -/
def execPipRecall (e : EngId) (s : State) : Result := done (s.recall e)

/-- RETIRE_LIST_SERVICE (R113). -/
def execRetireListService (s : State) : Result := done s.retireNext

/-- SERVICE_CUTOFF (R116). -/
def execServiceCutoff (p : PortId) (s : State) : Result := done (s.cutoff p)

/-- AGE_PROMOTION: a READY non-periodic item is older than AGE_LIMIT (R108). -/
def execAgePromotion (id : Nat) (s : State) : Result :=
  done (if s.held then s else s.modItem id (fun it =>
    if s.olderThan it s.ageLimit then { it with aged := true } else it))

/-- AGE_GUARD: a READY non-periodic item is older than 4 × AGE_LIMIT (R108). -/
def execAgeGuard (id : Nat) (s : State) : Result :=
  done (if s.held then s else s.modItem id (fun it =>
    if s.olderThan it (4 * s.ageLimit) then { it with aged := true, guarded := true } else it))

/-- HIST_CLR: every wait histogram counter clears (R127). -/
def State.histClr (s : State) : State :=
  s.resetRegs (fun o => decide (at_ 0x054 0x100 ≤ o) && decide (o < at_ 0x058 0) && decide (0x100 ≤ o % 4096))

/-- PEAK_CLR: every peak takes its present value (R127). -/
def State.peakClr (s : State) : State :=
  let s := { s with wisPeak := s.wis.length, flowPeak := s.flowsLive, pfPeak := s.wisUse none }
  s.forAll (allFin 32) (fun t i => t.modSlice i (fun x => { x with peakUse := t.wisUse (some i) }))

/-- CNT_CLR of SCHED[0] (R127). -/
def State.schedCntClr (s : State) : State :=
  s.clearRegs ([at_ 0x050 0x120, at_ 0x050 0x124, at_ 0x050 0x128] ++
    (List.range 16).map (fun e => at_ 0x058 (0x108 + 16 * e)))

/-- A write of PF_WIS_QUOTA: refused when the sum would pass 4,096 (R118). -/
def State.pfWisQuota (s : State) (v : Word) : State :=
  let q := bits v.toNat 0 13
  if 4096 < q then s.cause 0x050 1
  else if 4096 < s.quotaSum - s.wisQuota none + q then s.cause 0x050 0
  else State.fullMarks s (s.setFld (at_ 0x050 0x104) 0 13 q) none none

/-- The engine figures latch at a window end (R126). -/
def State.windowEnd (s : State) : State :=
  let s := { s with engs := s.engs.map (fun (x : EngStat) => { busy := 0, occ := 0, lastBusy := x.busy, lastOcc := x.occ }) }
  s.wrap (at_ 0x050 0x12C) 1

/-- HIST_CLR (R127). -/
def execHistClr (src : Source) (s : State) : Result := done (s.gate src 0x050 0x014 State.histClr)

/-- PEAK_CLR (R127). -/
def execPeakClr (src : Source) (s : State) : Result := done (s.gate src 0x050 0x014 State.peakClr)

/-- SCHED_CNT_CLR (R127). -/
def execSchedCntClr (src : Source) (s : State) : Result := done (s.gate src 0x050 0x014 State.schedCntClr)

/-- PF_WIS_QUOTA_WRITE (R118). -/
def execPfWisQuotaWrite (src : Source) (v : Word) (s : State) : Result :=
  done (s.gate src 0x050 0x104 (fun t => t.pfWisQuota v))

end Sys2Proof.Machine
end

