-- ==== Sys2Proof/Machine/Endpoint.lean ====
section
/-!
DEFINITION. Transfer Engines and endpoints (spec/04_transfer_engines_and_endpoints.md): contexts, admission, the
transfers of each type, transactions and their responses.
-/

namespace Sys2Proof.Machine

open Sys2Proof

/-! ### Contexts (R132, R133) -/

/-- DW0-DW3 of a context as they are written back (R132). -/
def ctxDw (c : Ctx) : BitVec 128 :=
  BitVec.ofNat 128 ((if c.halted then 2 else 1) + c.typ * 2 ^ 2 + c.speed * 2 ^ 4 + b2n c.toggle * 2 ^ 6
    + c.mult * 2 ^ 8 + c.interval * 2 ^ 10 + c.mps * 2 ^ 16 + c.hubAddr * 2 ^ 32 + c.hubPort * 2 ^ 39
    + c.phase * 2 ^ 64 + c.splitY * 2 ^ 72 + c.charge * 2 ^ 80 + c.bufId * 2 ^ 96 + c.granules * 2 ^ 109)

/-- Address of the context of an endpoint number and direction in its block (R131). -/
def ctxAddr (block : BitVec 64) (ep : Nat) (dir : Bool) : BitVec 64 := block + BitVec.ofNat 64 ((ep * 2 + b2n dir) * 32)

/-- Writes a context back to host memory. -/
def State.ctxOut (s : State) (c : Ctx) (dw : BitVec 128) : State :=
  s.post c.owner c.gen false (.context (ctxAddr c.block c.ep c.dir) c.port c.addr c.ep c.dir dw)

/-- A context is pinned by an item in SERVICE (R133). -/
def State.pinned (s : State) (c : Ctx) : Bool :=
  s.wis.any (fun it => it.inService && it.port == c.port.val && eAddr it.entry == c.addr && eEp it.entry == c.ep
    && it.keyDir == c.dir)

/-- The least recently used context of a list. -/
def leastUsed : List Ctx → Option Ctx
  | [] => none
  | c :: t =>
    match leastUsed t with
    | none => some c
    | some d => if d.used < c.used then some d else some c

/-- Makes room for one context: at 2,048, closed ones counted, the least recently used one that is not pinned is
written back and leaves the cache (R133). -/
def State.evict (s : State) : State :=
  if (s.ctxs.filter (fun c => c.cached)).length + s.closed.length < 2048 then s
  else
    match leastUsed (s.ctxs.filter (fun c => c.cached && !s.pinned c)) with
    | none => s
    | some c =>
      let s := if c.dirty then s.ctxOut c (ctxDw c) else s
      s.modCtx c.port c.addr c.ep c.dir (fun x => { x with cached := false, dirty := false })

/-- The context of an item's endpoint. -/
def State.ctxOf (s : State) (it : Item) : Option Ctx :=
  match portId? it.port with
  | some p => s.ctx? p (eAddr it.entry) (eEp it.entry) it.keyDir
  | none => none

/-- IFACE and DEV_SPEED of an item's endpoint (DW7, R132), and its context block. -/
def State.dw7 (s : State) (it : Item) : Nat × Nat × BitVec 64 :=
  match s.ctxOf it with
  | some c => (c.iface, c.devSpeed, c.block)
  | none =>
    match s.closed.find? (fun c => c.port.val == it.port && c.addr == eAddr it.entry && c.ep == eEp it.entry
        && c.dir == it.keyDir) with
    | some c => (c.iface, c.devSpeed, c.block)
    | none => (0, 0, 0)

/-- A context read from host memory enters the cache. One that reads OPEN or HALTED and that the device no longer
accounts (after SCHED was OFF, spec/12_power_domains.md R335) is taken without a claim (log entry 17). -/
def State.loadCtx (s : State) (p : PortId) (it : Item) (block : BitVec 64) (w : Entry) : State :=
  let a := eAddr it.entry
  let e := eEp it.entry
  let iface := ef w 224 8
  let dev := ef w 232 2
  let s := s.evict
  match s.ctx? p a e it.keyDir with
  | some _ => s.modCtx p a e it.keyDir (fun c => { c with cached := true, used := s.ordinal })
  | none =>
    if ef w 0 2 = 1 ∨ ef w 0 2 = 2 then
      let c : Ctx :=
        { port := p, addr := a, ep := e, dir := it.keyDir, owner := it.owner, gen := it.gen, halted := ef w 0 2 = 2,
          typ := ef w 2 2, speed := ef w 4 2, toggle := ef w 6 1 = 1, mult := ef w 8 2, interval := ef w 10 4,
          mps := ef w 16 11, hubAddr := ef w 32 7, hubPort := ef w 39 7, phase := ef w 64 8, splitY := ef w 72 4,
          charge := 0, bufId := 0, granules := 0, iface := iface, devSpeed := dev, nextAt := 0, svcAt := 0, svcUsed := 0,
          errs := 0, snooped := false, block := block, dirty := false, cached := true, used := s.ordinal }
      { s with ctxs := s.ctxs ++ [c] }
    else
      { s with closed := s.closed ++ [⟨p, a, e, it.keyDir, block, iface, dev⟩] }

/-- Every context of a port closes and its claims go (R141); each is written back CLOSED. -/
def State.closePort (s : State) (p : PortId) : State :=
  let gone := s.ctxs.filter (fun c => c.port = p)
  let s := gone.foldl (fun t c => t.ctxOut c 0) s
  { s with ctxs := s.ctxs.filter (fun c => c.port ≠ p), closed := s.closed.filter (fun c => c.port ≠ p) }

/-! ### Bus time and granules (R136-R139) -/

/-- Bit times a context takes on its root port at an index: microframe of 256 on a high-speed port, frame of 32
otherwise (R137, R138). -/
def Ctx.load (c : Ctx) (hs : Bool) (i : Nat) : Nat :=
  if c.typ ≠ 1 ∧ c.typ ≠ 3 then 0
  else if c.charge = 0 then 0
  else if hs ∧ c.hubAddr ≠ 0 then
    let period := min (2 ^ c.interval) 32
    let f := i / 8
    let u := i % 8
    if f % period ≠ c.phase % period then 0
    else if u = c.splitY then if c.dir then 120 else 120 + stuffed c.mps
    else if c.splitY + 2 ≤ u ∧ u ≤ c.splitY + 4 then
      if c.dir then 120 + stuffed c.mps else if c.typ = 3 then 120 else 0
    else 0
  else
    let period := min (2 ^ c.interval) (if hs then 256 else 32)
    if i % period = c.phase % period then c.charge else 0

/-- Bit times a context takes of its transaction translator in a frame (R137, R138). -/
def Ctx.ttLoad (c : Ctx) (f : Nat) : Nat :=
  if c.hubAddr = 0 ∨ c.charge = 0 ∨ (c.typ ≠ 1 ∧ c.typ ≠ 3) then 0
  else
    let period := min (2 ^ c.interval) 32
    if f % period = c.phase % period then chargeOf c.speed c.typ c.mps 0 else 0

/-- The highest total over the indices a context touches, with the others of its port. -/
def highest (others : List Ctx) (c : Ctx) (hs : Bool) : Nat :=
  (List.range (if hs then 256 else 32)).foldl (fun m i =>
    let mine := c.load hs i
    if mine = 0 then m else max m (others.foldl (fun n d => n + d.load hs i) mine)) 0

/-- The placement with the lowest highest load on the root port, the first one winning ties (R138). The translator's
load takes no part in the choice (DEDUCED, log entry 22). -/
def bestPlace (others : List Ctx) (hs : Bool) : List Ctx → Option (Ctx × Nat)
  | [] => none
  | c :: t =>
    let m := highest others c hs
    match bestPlace others hs t with
    | none => some (c, m)
    | some b => if b.2 < m then some b else some (c, m)

/-- The placements EP_OPEN may choose: PHASE from 0, and SPLIT_Y for a split endpoint (R138). -/
def placements (c : Ctx) (hs : Bool) : List Ctx :=
  let split := hs && c.hubAddr != 0
  let window := if hs && !split then 256 else 32
  let phases := List.range (min (2 ^ c.interval) window)
  phases.flatMap (fun ph => (List.range (if split then 4 else 1)).map (fun y => { c with phase := ph, splitY := y }))

/-- Granules that periodic buffers hold (R162). -/
def State.perAlloc (s : State) (sel : Ctx → Bool) : Nat :=
  (s.ctxs.filter sel).foldl (fun n c => n + c.granules) 0

/-- Granule quota of an owner (R136). -/
def State.granQuota (s : State) (o : Option SliceId) : Nat :=
  match o with
  | none => s.fld (at_ 0x070 0x104) 0 13
  | some i => s.fld (at_ (slicePage i) 0x138) 0 13

/-- Same endpoint. -/
def Ctx.same (c d : Ctx) : Bool := c.port == d.port && c.addr == d.addr && c.ep == d.ep && c.dir == d.dir

/-- The admission of a periodic endpoint: the placed context, or the refusal (R136-R139). -/
def State.admitEp (s : State) (c : Ctx) (hs : Bool) : Except (Nat × Nat) Ctx :=
  let others := s.ctxs.filter (fun d => d.port == c.port && !d.same c)
  match bestPlace others hs (placements c hs) with
  | none => .error (0x07, 0x01)
  | some (b, m) =>
    let tt := others.filter (fun d => d.hubAddr == c.hubAddr)
    let ttBad := hs && c.hubAddr != 0 && (List.range 32).any (fun f =>
      b.ttLoad f != 0 && decide (10800 < tt.foldl (fun n d => n + d.ttLoad f) (b.ttLoad f)))
    if (if hs then 48000 else 10800) < m then .error (0x07, 0x01)
    else if ttBad then .error (0x07, 0x02)
    else if 6144 - s.fld (at_ 0x070 0x100) 0 13 < s.perAlloc (fun d => !d.same c) + c.granules then .error (0x08, 0x01)
    else if s.granQuota c.owner < s.perAlloc (fun d => !d.same c && d.owner == c.owner) + c.granules then
      .error (0x08, 0x02)
    else .ok b

/-- The charge of a periodic endpoint in the unit of its port, DW2 of its context: for a split endpoint what its
microframes take of the root port in one service (R132, R137; DEDUCED, log entry 22). -/
def portCharge (split : Bool) (speed typ mps mult : Nat) (dir : Bool) : Nat :=
  if !split then chargeOf speed typ mps mult
  else if dir then 120 + 3 * (120 + stuffed mps)
  else if typ = 3 then 120 + stuffed mps + 3 * 120
  else 120 + stuffed mps

/-- Boundary count of the first service of a long period: the first index after now congruent to PHASE modulo the
window (R138). -/
def State.firstAt (s : State) (c : Ctx) (perFrame : Bool) : Nat :=
  let k := s.clks[c.port]
  if perFrame then
    let f := k.frindex.toNat / 8
    let d := (c.phase + 32 - f % 32) % 32
    k.count - k.frindex.toNat % 8 + 8 * (if d = 0 then 32 else d)
  else
    let d := (c.phase + 256 - k.frindex.toNat % 256) % 256
    k.count + (if d = 0 then 256 else d)

/-! ### Ends in SERVICE -/

/-- The item in SERVICE with a number, its context loaded. -/
def State.serving (s : State) (id : Nat) : Option Item :=
  match s.item? id with
  | some it => if it.inService && !s.held && !s.fatal && !s.fw.paused then some it else none
  | none => none

/-- DETAIL of a CONTROL item carries the stage that had started (R145). -/
def Item.detail (it : Item) (reason : Nat) : Nat := if it.op = .control then it.x.stage * 64 + reason else reason

/-- A bulk or interrupt endpoint enters HALTED (R153). -/
def State.haltEp (s : State) (it : Item) : State :=
  if !(it.op.isBulk || it.op.isIntr) then s else
  match portId? it.port with
  | none => s
  | some p =>
    ((s.modCtx p (eAddr it.entry) (eEp it.entry) it.keyDir (fun c => { c with halted := true, dirty := true })).cause
      0x060 3).wrap (at_ 0x060 0x11C) 1

/-- The end that an uncorrectable error in staged data has set for an item on the wire: no response of its transaction
changes it (spec/14_attention_and_errors.md R385). -/
def Item.eccEnd (it : Item) : Option (Nat × Nat) :=
  match it.ending with
  | some (st, d) => if st = 0x05 ∧ d % 64 = 0x05 then some (st, d) else none
  | none => none

/-- An item in SERVICE ends with a status of its own. -/
def State.finish (s : State) (it : Item) (status reason : Nat) : State :=
  match it.eccEnd with
  | some e => s.complete it e.1 e.2 it.xferLen
  | none =>
  let halts := (status == 0x02 && reason == 0) || status == 0x03 || (status == 0x04 && (reason == 1 || reason == 2))
  let s := if halts then s.haltEp it else s
  s.complete it status (it.detail reason) it.xferLen

/-- Status and DETAIL of an isochronous item (R150). -/
def isoStatus (l : List IsoPkt) : Nat × Nat :=
  let bad := l.filter (fun p => p.pst ≠ 0)
  if bad.isEmpty then (0, 0)
  else
    let n := min 255 bad.length
    if bad.any (fun p => p.pst = 4) then (0x05, n)
    else if bad.any (fun p => p.pst = 2) then (0x04, n)
    else if bad.any (fun p => p.pst = 1) then (0x03, n)
    else (0x06, n)

/-- An isochronous item ends once every packet is served (R151), unless an end from outside waits for it (R130). -/
def State.isoEnd (s : State) (id : Nat) : State :=
  match s.item? id with
  | none => s
  | some it =>
    if it.x.isoReady && it.x.iso.all (fun p => p.served) && !s.onWire it && it.ending.isNone then
      let r := isoStatus it.x.iso
      s.complete it r.1 r.2 it.xferLen
    else s

/-- A packet of an isochronous item is served, once: its descriptor's DW1 is written (R148); a MISSED one sets ISO_MISS
(R149). -/
def State.isoServe (s : State) (it : Item) (i : Nat) (pst act : Nat) : State :=
  match it.x.iso[i]? with
  | none => s
  | some p =>
    if p.served then s
    else
      let p' := { p with act := act, pst := pst, served := true }
      let s := s.modX it.id (fun x => { x with iso := x.iso.set i p' })
      (s.putDw1 it i p').causeIf (decide (pst = 3)) 0x060 4

/-! ### Outbound data and the shared pool (R142-R144) -/

/-- Host address of a byte of the transfer, through the segments of a chain (R69). -/
def segAddr (ofs : Nat) : List (BitVec 64 × Nat) → BitVec 64
  | [] => 0
  | (b, n) :: t => if ofs < n ∨ t.isEmpty then b + BitVec.ofNat 64 ofs else segAddr (ofs - n) t

/-- Host address of a byte of an item's buffer. -/
def Item.dataAddr (it : Item) (ofs : Nat) : BitVec 64 :=
  segAddr ofs ((eBuffer it.entry, eLength it.entry) :: it.segs)

/-- Granules of the shared pool that an item holds: none for a periodic one, at most two (R143). -/
def Item.granules (it : Item) : Nat :=
  if it.op.isPeriodic then 0
  else b2n it.x.dataReady + b2n it.x.nextReady + b2n it.x.fetching + b2n it.x.wireBuf + b2n it.x.drain

/-- Shared-pool granules in use and in the pool (R142, R143). -/
def State.poolUsed (s : State) : Nat := (s.wis.map Item.granules).sum
def State.poolSize (s : State) : Nat := 6144 - s.perAlloc (fun _ => true)

/-- The pool is empty. -/
def State.poolEmpty (s : State) : Bool := decide (s.poolSize ≤ s.poolUsed)

/-- The pool's peak follows its use (R162). -/
def State.poolMark (s : State) : State := { s with poolPeak := max s.poolPeak s.poolUsed }

/-- A transaction waits for a granule (R143). -/
def State.poolWait (s : State) (id : Nat) : State :=
  { ((s.modX id (fun x => { x with wantGranule := true })).wrap (at_ 0x070 0x114) 1).cause 0x070 2 with
    poolWaits := s.poolWaits ++ [id] }

/-- The packet of an isochronous OUT item whose data come next: the first not served that has any. -/
def Item.nextPkt (it : Item) : Nat := it.x.iso.findIdx (fun p => !p.served && p.req != 0)

/-- Offset and length of the outbound data that are not yet in the buffer: those of the next transaction, else of the
one after it; of a periodic endpoint those of the next service (R143, R144, R146). -/
def Item.toRead (it : Item) (c : Ctx) : Option (Nat × Nat) :=
  let packet (total : Nat) : Option (Nat × Nat) :=
    let ofs := it.x.done + (if it.x.dataReady then min c.mps (total - it.x.done) else 0)
    if ofs < total then some (ofs, min c.mps (total - ofs)) else none
  match it.op with
  | .control =>
    if it.x.stage = 1 ∧ !bitAt (eReqType it.entry) 7 then packet (eLength it.entry) else none
  | .bulkOut => packet it.length
  | .intrOut =>
    if it.x.done < it.length then some (it.x.done, min ((c.mult + 1) * c.mps) (it.length - it.x.done)) else none
  | .isocOut => match it.x.iso[it.nextPkt]? with
    | some p => some (p.ofs, p.req)
    | none => none
  | _ => none

/-- The engine reads the next outbound data of an item where it may hold them: into a granule of the pool for CONTROL
and BULK, waiting for one where the next transaction has none (R143), into the endpoint's buffer for a periodic item
(R144). -/
def State.askNext (s : State) (id : Nat) : State :=
  match s.item? id with
  | none => s
  | some it =>
    match s.ctxOf it with
    | none => s
    | some c =>
      if !it.inService || !it.x.running || it.x.fetching || it.x.nextReady || it.x.wantGranule || it.ending.isSome
          || (it.op.isPeriodic && it.x.dataReady) then s
      else
        match it.toRead c with
        | none => s
        | some (ofs, len) =>
          if !it.op.isPeriodic && s.poolEmpty then (if it.x.dataReady then s else s.poolWait id)
          else
            ((s.modX id (fun x => { x with fetching := true, dataIdx := it.nextPkt })).askRead it.owner it.noSnoop
              (.data (it.dataAddr ofs) len)).poolMark

/-! ### Service opportunities (R138, R147, R149) -/

/-- A service of a long period begins at this boundary count: the next one, or the one its `nextAt` has been moved past
within its microframe or frame (R138). -/
def Ctx.servesAt (c : Ctx) (base unit : Nat) : Bool := base == c.nextAt || c.nextAt == base + 2 ^ c.interval * unit

/-- The endpoint is served in the present microframe, or in the frame of it (R138). -/
def State.epServed (s : State) (c : Ctx) : Bool :=
  let k := s.clks[c.port]
  let i := k.frindex.toNat
  if s.ports[c.port].speed = 0 ∧ c.hubAddr = 0 then
    if 2 ^ c.interval ≤ 256 then i % 2 ^ c.interval == c.phase % 2 ^ c.interval else c.servesAt k.count 1
  else if 2 ^ c.interval ≤ 32 then i / 8 % 2 ^ c.interval == c.phase % 2 ^ c.interval
  else c.servesAt (k.count - i % 8) 8

/-- A service of the endpoint opens now: at the boundary that begins its microframe or frame, its start-split microframe
behind a transaction translator, and for an item that enters SERVICE (`start`) in all of the frame (R115, R138). -/
def State.epDue (s : State) (c : Ctx) (start : Bool) : Bool :=
  let u := s.clks[c.port].frindex.toNat % 8
  s.epServed c && (if s.ports[c.port].speed = 0 then c.hubAddr == 0 || u == c.splitY else start || u == 0)

/-- The boundary count that names the present service opportunity of an endpoint: that of the microframe, or of the
start of the frame. -/
def State.oppNo (s : State) (c : Ctx) : Nat :=
  let k := s.clks[c.port]
  if s.ports[c.port].speed = 0 ∧ c.hubAddr = 0 then k.count else k.count - k.frindex.toNat % 8

/-- Transactions the endpoint has had in the present service opportunity, of whatever item (R147). -/
def State.oppUsed (s : State) (c : Ctx) : Nat := if c.svcAt = s.oppNo c then c.svcUsed else 0

/-- An interrupt item in SERVICE meets a boundary of its port, or enters SERVICE (`start`): a service opportunity opens or
the last one is over (R138, R147), and the data of a service in which some were sent are read anew; an OUT service whose data have not come is
skipped (R144), and so is one that opens in the activation pause with the last transaction still to be judged
(spec/13_firmware_and_settings.md R360). -/
def State.intrOpportunity (s : State) (it : Item) (c : Ctx) (start : Bool) : State :=
  if s.onWire it then s.modX it.id (fun x => { x with served := true })
  else if s.epDue c start then
    let used := s.oppUsed c
    let ready := it.x.dataReady && !it.x.svcMoved
    (s.modX it.id (fun x => { x with
      svcTx := used, svcMoved := false, csplit := false, dataReady := ready
      served := decide (c.mult + 1 ≤ used) || (it.op == .intrOut && decide (x.done < it.length) && !ready) })).askNext it.id
  else if (s.ports[c.port].speed = 0 ∧ c.hubAddr = 0) ∨ s.clks[c.port].frindex.toNat % 8 = 0 then
    (s.modX it.id (fun x => { x with
      served := true, svcMoved := false, dataReady := x.dataReady && !x.svcMoved })).askNext it.id
  else s

/-- Packets of an isochronous item whose service lies before a boundary report MISSED, but for one on the wire (R149). -/
def State.isoLapse (s : State) (it : Item) (period base : Nat) : State :=
  let wire := s.onWire it
  (List.range it.x.iso.length).foldl (fun t i =>
    if it.x.nextSvc + i * period < base ∧ !(wire && i == it.x.isoIdx) then t.isoServe it i 3 0 else t) s

/-- Boundaries of the port's clock in one unit of an endpoint's service: 1 for microframes, 8 for frames (R138). -/
def State.epUnitOf (s : State) (c : Ctx) : Nat := if s.ports[c.port].speed = 0 ∧ c.hubAddr = 0 then 1 else 8

/-- An isochronous item in SERVICE meets a boundary of its port: packets that have passed report MISSED, and the packet
of this service is sent only if its data have come (R144, R149). A boundary away from the endpoint's service ends the last
one. A high-bandwidth service that passes with some of its transactions run is MISSED with ACT_LEN 0 (R149; DESIGN CHOICE,
log entry 71). A packet whose result waits for the engine to resume was sent: it is neither MISSED nor left for another
(spec/13_firmware_and_settings.md R359, R360). -/
def State.isoOpportunity (s : State) (it : Item) (c : Ctx) : State :=
  let period := 2 ^ c.interval * s.epUnitOf c
  let base := s.oppNo c
  let first := it.x.nextSvc
  let wire := s.onWire it
  let s := s.isoLapse it period base
  let i := (base - first) / period
  let here := first ≤ base ∧ (base - first) % period = 0 ∧ i < it.x.iso.length
  if here ∧ i = it.x.isoIdx then (s.isoEnd it.id).askNext it.id
  else if wire then s.modX it.id (fun x => { x with served := true })
  else if here then
    let p := it.x.iso.getD i ⟨0, 0, 0, 0, true⟩
    let ready := it.op == .isocIn || p.req == 0 || (it.x.dataReady && it.x.dataIdx == i)
    let s := s.modX it.id (fun x => { x with
      isoIdx := i, svcTx := 0, csplit := false, isoPid := none, served := p.served || !ready,
      dataReady := x.dataReady && decide (i ≤ x.dataIdx) && (ready || decide (x.dataIdx ≠ i)) })
    let s := if p.served || ready then s else s.isoServe it i 3 0
    (s.isoEnd it.id).askNext it.id
  else
    let s := s.modX it.id (fun x => { x with
      served := true, dataReady := x.dataReady && decide (base ≤ first + x.dataIdx * period) })
    (s.isoEnd it.id).askNext it.id

/-- A periodic item in SERVICE meets a boundary of its port. -/
def State.opportunity (s : State) (it : Item) : State :=
  match s.ctxOf it with
  | none => s
  | some c =>
    if it.op.isIntr then s.intrOpportunity it c false
    else if it.x.isoReady then s.isoOpportunity it c
    else s

/-- Every periodic item of a port meets a boundary; long periods move on (R138). In FATAL the engines have stopped
(spec/14_attention_and_errors.md R387); in the activation pause they stand, and a service that opens is lost to them
(spec/13_firmware_and_settings.md R359, R360). -/
def State.serviceBoundary (s : State) (p : PortId) : State :=
  if s.fatal then s else
  let items := s.wis.filter (fun it => it.port == p.val && it.inService && it.op.isPeriodic && it.x.running)
  let s := items.foldl (fun t it =>
    if t.fw.paused then t.modX it.id (fun x => { x with served := true }) else t.opportunity it) s
  let k := s.clks[p]
  { s with ctxs := s.ctxs.map (fun c =>
      let unit := s.epUnitOf c
      if c.port = p ∧ (c.typ = 1 ∨ c.typ = 3) ∧ (if unit = 1 then 256 else 32) < 2 ^ c.interval
          ∧ c.nextAt ≤ k.count - (if unit = 1 then 0 else 7) then
        { c with nextAt := c.nextAt + 2 ^ c.interval * unit }
      else c) }

/-! ### Starting an opcode -/

/-- Runs an opcode of an item in SERVICE whose context is loaded, once. -/
def State.startOp (s : State) (id : Nat) (o : Op) (act : Item → State → State) : State :=
  match s.serving id with
  | none => s
  | some it =>
    if it.op ≠ o ∨ !it.x.ctxReady ∨ it.x.running then s
    else act it (s.modX id (fun x => { x with running := true }))

/-- A transfer begins (R140, R153, R69): a closed or halted endpoint ends it at once. An opcode of another type than the
endpoint was opened with runs as that opcode: the spec names no check (DESIGN CHOICE, log entry 69). The engine asks for an isochronous
item's packet list (R148), and for the first outbound data of the others (R143, R144). -/
def State.startTransfer (s : State) (it : Item) : State :=
  match s.ctxOf it with
  | none => s.complete it 0x02 (it.detail 0x02) 0
  | some c =>
    if c.halted then s.complete it 0x02 (it.detail 0x01) 0
    else
      let early := (eLength it.entry :: it.segs.map (fun g => g.2)).dropLast
      if early.any (fun n => n % c.mps != 0) then s.complete it 0x09 0x05 0
      else
        let s := s.modCtx c.port c.addr c.ep c.dir (fun x => { x with used := s.ordinal })
        if it.op.isIntr then
          let s := (s.modX it.id (fun x => { x with served := true })).askNext it.id
          s.intrOpportunity it c true
        else if it.op.isIsoc then
          (s.modX it.id (fun x => { x with served := true, isoIdx := 2 ^ 20 })).askRead it.owner false
            (.pktList (BitVec.ofNat 64 (ePktList it.entry)) (8 * ePktCount it.entry))
        else s.askNext it.id

/-- EP_OPEN (R135, R136, R139). -/
def State.epOpen (s : State) (it : Item) : State :=
  match portId? it.port with
  | none => s
  | some p =>
    let e := it.entry
    let d7 := s.dw7 it
    let hs := decide (s.ports[p].speed = 0)
    let hub := eHubAddr e
    let speed := if hub = 0 then s.ports[p].speed else d7.2.1
    let typ := eType e
    let mps := eLength e
    if (hub ≠ 0 ∧ !hs) ∨ (hub ≠ 0 ∧ d7.2.1 = 0) ∨ (hub = 0 ∧ d7.2.1 ≠ 0) then s.complete it 0x09 0x08 0
    else if !epComboOk speed typ mps (eMult e) (eInterval e) ∨
        (hub ≠ 0 ∧ typ = 1 ∧ (if it.keyDir then 564 else 188) < mps) then s.complete it 0x09 0x06 0
    else
      let periodic := typ = 1 ∨ typ = 3
      let c : Ctx :=
        { port := p, addr := eAddr e, ep := eEp e, dir := it.keyDir, owner := it.owner, gen := it.gen,
          halted := false, typ := typ, speed := speed, toggle := false, mult := eMult e, interval := eInterval e,
          mps := mps, hubAddr := hub, hubPort := eHubPort e, phase := 0, splitY := 0,
          charge := if periodic then portCharge (hub != 0) speed typ mps (eMult e) it.keyDir else 0, bufId := 0,
          granules := if periodic then granulesOf mps (eMult e) else 0, iface := d7.1, devSpeed := d7.2.1, nextAt := 0,
          svcAt := 0, svcUsed := 0, errs := 0, snooped := false, block := d7.2.2, dirty := true, cached := true,
          used := s.ordinal }
      let place (c : Ctx) (s : State) : State :=
        let s := { s with
          ctxs := s.ctxs.filter (fun (d : Ctx) => !d.same c)
          closed := s.closed.filter (fun d => !(d.port == c.port && d.addr == c.addr && d.ep == c.ep && d.dir == c.dir)) }
        let s := s.evict
        { s with ctxs := s.ctxs ++ [c] }.complete it 0 0 0
      if !periodic then place c s
      else
        match s.admitEp c hs with
        | .error r => s.complete it r.1 r.2 0
        | .ok b =>
          let f := s.fresh
          let b := { b with bufId := 1 + f.1.toNat % (2 ^ 13 - 1) }
          place { b with nextAt := s.firstAt b (!hs || hub != 0) } f.2

/-- EP_CLOSE (R140). The closed context is written back with DW0 to DW3 all 0 (R133; DESIGN CHOICE, log entry 71). -/
def State.epClose (s : State) (it : Item) : State :=
  match s.ctxOf it with
  | none => s.complete it 0 0 0
  | some c => ({ s with ctxs := s.ctxs.filter (fun d => !d.same c) }.ctxOut c 0).complete it 0 0 0

/-- EP_RESET_TOGGLE and EP_CLEAR_HALT: change an open context (R140, R153, R157). -/
def State.epChange (s : State) (it : Item) (f : Ctx → Ctx) : State :=
  match s.ctxOf it with
  | none => s.complete it 0x02 0x02 0
  | some c => (s.modCtx c.port c.addr c.ep c.dir (fun x => { f x with used := s.ordinal })).complete it 0 0 0

/-- A device-table and context read returns: the entry names the context block, and the context is read there
(R131, R134). -/
def State.ctxRead (s : State) (id : Nat) (res : CtxResult) : State :=
  match s.serving id with
  | none => s
  | some it =>
    if it.x.ctxReady then s
    else
      match res, portId? it.port with
      | .failed, _ => (s.cause 0x060 2).complete it 0x05 (it.detail 0x03) 0
      | .notValid, _ => s.complete it 0x05 (it.detail 0x04) 0
      | .ok b w, some p =>
        let block := BitVec.ofNat 64 (b.toNat * 1024)
        let s := s.askRead it.owner false (.context (ctxAddr block (eEp it.entry) it.keyDir))
        (s.loadCtx p it block w).modX id (fun x => { x with ctxReady := true })
      | .ok _ _, none => s

/-- A packet list returns (R148). -/
def State.listRead (s : State) (id : Nat) (res : Option (List (BitVec 64))) : State :=
  match s.serving id with
  | none => s
  | some it =>
    if !it.op.isIsoc ∨ !it.x.running ∨ it.x.isoReady then s
    else
      match res, s.ctxOf it with
      | none, _ => s.complete it 0x05 0x02 0
      | some l, some c =>
        let n := ePktCount it.entry
        let bad (d : BitVec 64) : Bool :=
          let p := pktOf d
          decide (eLength it.entry < p.ofs + p.req) || decide (c.mps * (c.mult + 1) < p.req) || pktReserved d
        if l.length < n then s
        else if (l.take n).any bad then s.complete it 0x09 0x04 0
        else
          let s := s.modX id (fun x => { x with isoReady := true, iso := (l.take n).map pktOf })
          match s.item? id with
          | some it => s.opportunity it
          | none => s
      | some _, none => s

/-! ### Transactions (R129, R130) -/

/-- The item sends data in its present transaction. -/
def Item.sends (it : Item) : Bool :=
  match it.op with
  | .bulkOut => true
  | .intrOut => true
  | .isocOut => true
  | .control =>
    if it.x.stage = 0 then true
    else if it.x.stage = 1 then !bitAt (eReqType it.entry) 7
    else eLength it.entry != 0 && bitAt (eReqType it.entry) 7
  | _ => false

/-- Bytes the next data packet to the device carries. -/
def Item.nextBytes (it : Item) (mps : Nat) : Nat :=
  match it.op with
  | .control => if it.x.stage = 1 then min mps (eLength it.entry - it.x.done) else 0
  | .isocOut =>
    let p := it.x.iso.getD it.x.isoIdx ⟨0, 0, 0, 0, true⟩
    min mps (p.req - it.x.svcTx * mps)
  | _ => min mps (it.length - it.x.done)

/-- The item's next transaction needs data from host memory that has not come (R143, R144). -/
def Item.lacksData (it : Item) (mps : Nat) : Bool := it.sends && it.nextBytes mps != 0 && !it.x.dataReady

/-- Bit times of a packet of each kind on a root port of a speed, with SYNC, PID, CRC and EOP (spec/05_root_ports.md
R180); the lengths are those of USB 2.0, which spec/00_scope.md R5 names (PRESUMED, log entry 61). -/
def tokenBits (speed : Nat) (split : Bool) : Nat :=
  (if speed = 0 then (if split then 136 else 64) else if speed = 1 then 35 * 40 else 35 * 320)
def dataBits (speed n : Nat) : Nat :=
  if speed = 0 then 64 + stuffed n else if speed = 1 then (35 + stuffed n) * 40 else (35 + stuffed n) * 320
def shakeBits (speed : Nat) : Nat := if speed = 0 then 48 else if speed = 1 then 19 * 40 else 19 * 320

/-- The response window (spec/05_root_ports.md R184). -/
def responseWindow (speed : Nat) : Nat := if speed = 0 then 816 else if speed = 1 then 18 * 40 else 18 * 320

/-- The worst-case duration of the item's next transaction, in bit times (spec/05_root_ports.md R180). -/
def State.worstCase (s : State) (p : PortId) (it : Item) (c : Ctx) : Nat :=
  let sp := s.ports[p].speed
  let split := sp = 0 ∧ c.hubAddr ≠ 0
  let tok := tokenBits sp split
  let payload := if it.op = .control ∧ it.x.stage = 0 then 8 else it.nextBytes c.mps
  let ends := if it.op.isIsoc then 0 else shakeBits sp
  if split ∧ it.x.csplit then
    tok + responseWindow sp + (if it.sends then shakeBits sp else dataBits sp (min c.mps 188) + ends)
  else if it.x.ping then tok + responseWindow sp + shakeBits sp
  else if it.sends then tok + dataBits sp payload + (if it.op.isIsoc then 0 else responseWindow sp) + ends
  else if split then tok + (if it.op.isPeriodic then 0 else responseWindow sp + shakeBits sp)
  else tok + responseWindow sp + dataBits sp c.mps + ends

/-- The moment of the port's next SOF, in bit times: 16 after the boundary (spec/06_frame_timing.md R193, R194). -/
def State.nextSof (s : State) (p : PortId) : Int :=
  let k := s.clks[p]
  let more : Int := if s.ports[p].speed = 0 then 0 else 7 - (k.frindex.toNat % 8 : Nat)
  (k.lastBoundary : Int) + k.len + more * (60000 * 64 + k.trim) / 64 + 16

/-- The item's next transaction would end before the EOF1 point (spec/05_root_ports.md R180). -/
def State.fits (s : State) (p : PortId) (it : Item) (c : Ctx) : Bool :=
  decide ((s.now : Int) + s.worstCase p it c ≤ s.nextSof p - (if s.ports[p].speed = 0 then 560 else 1280))

/-- A transaction of the item is ready to start (R129, R147, R185). A periodic complete-split is tried once in each of
its microframes. -/
def State.txReady (s : State) (p : PortId) (it : Item) : Bool :=
  match s.ctxOf it with
  | none => false
  | some c =>
    let u := s.clks[p].frindex.toNat % 8
    let window := if c.hubAddr = 0 ∨ s.ports[p].speed ≠ 0 then true
      else if it.x.csplit then
        decide (c.splitY + 2 ≤ u) && decide (u ≤ c.splitY + 4) && decide (it.x.csplitAt ≠ s.clks[p].count)
      else decide (u = c.splitY)
    it.inService && it.x.running && it.ending.isNone && !it.x.expired && !it.lacksData c.mps && !it.x.wantGranule &&
      (if it.op.isPeriodic then !s.ports[p].cutPassed && !it.x.served && window &&
          (it.op.isIntr || it.x.isoReady)
       else !it.x.nakWait) && s.fits p it c

/-- The transaction the Port Sequencer starts: periodic first by cut-off, then CONTROL and BULK in round robin
(R129). The periodic transactions of one port that can run now share one cut-off; among them the order of entry to READY
decides (DESIGN CHOICE, log entry 60). -/
def State.nextTx (s : State) (p : PortId) : Option Item :=
  let l := s.wis.filter (fun it => it.port == p.val && s.txReady p it)
  match pickBy (fun it => [it.readyNo]) (l.filter (fun it => it.op.isPeriodic)) with
  | some it => some it
  | none => pickBy (fun it => [(it.x.turn : Int), it.readyNo]) l

/-- The port can run transactions: ENABLED, not recovering, engines not stopped. -/
def State.portRuns (s : State) (p : PortId) : Bool :=
  s.ports[p].st == .enabled && !s.ports[p].recovering && !s.held && !s.fatal && !s.fw.paused

/-- The PID of the data packet the item sends: DATA0 for a setup packet, DATA1 first in a data stage and in a status
stage (R145), the toggle for bulk and interrupt (R157), and for a high-bandwidth isochronous service MDATA, with the
last packet numbering them (R149). -/
def Item.sendPid (it : Item) (c : Ctx) (toggle : Bool) : Fin 4 :=
  match it.op with
  | .control => if it.x.stage = 0 then 0 else if it.x.stage = 1 then (if it.x.done / c.mps % 2 = 0 then 1 else 0) else 1
  | .isocOut =>
    let req := (it.x.iso.getD it.x.isoIdx ⟨0, 0, 0, 0, true⟩).req
    let n := max 1 ((req + c.mps - 1) / c.mps)
    if n ≤ it.x.svcTx + 1 then (if n = 1 then 0 else if n = 2 then 1 else 2) else 3
  | _ => if toggle then 1 else 0

/-- What the item's next transaction sends (R129, R145, R149, spec/05_root_ports.md R185). -/
def State.txOf (s : State) (p : PortId) (it : Item) (c : Ctx) : Tx :=
  let split := decide (s.ports[p].speed = 0) && c.hubAddr != 0
  let token := if it.op = .control ∧ it.x.stage = 0 then Token.setup
    else if it.x.ping then .ping else if it.sends then .out else .in_
  let data := it.sends && !it.x.ping && !(split && it.x.csplit)
  { token := token, addr := eAddr it.entry, ep := eEp it.entry,
    hub := if split then some (c.hubAddr, c.hubPort) else none, complete := split && it.x.csplit,
    pid := if data then some (it.sendPid c c.toggle) else none,
    len := if !data then 0 else if token = .setup then 8 else it.nextBytes c.mps,
    setup := if token = .setup then BitVec.ofNat 64 (ef it.entry 160 64) else 0 }

/-- A transaction of an item goes on the wire. -/
def State.txGo (s : State) (p : PortId) (it : Item) (c : Ctx) : State :=
  let turn := s.ports[p].turn + 2
  let again := it.x.csplit
  let s := s.modPort p (fun x => { x with wire := some it.id, turn := turn, tx := some (s.txOf p it c), wireCtx := some c,
                                          token := some (eAddr it.entry, some (eEp it.entry)) })
  let opp := s.oppNo c
  let used := s.oppUsed c + 1
  let s := s.modCtx c.port c.addr c.ep c.dir (fun x => { x with
    snooped := if again then x.snooped else false
    svcAt := if it.op.isIntr ∧ !again then opp else x.svcAt
    svcUsed := if it.op.isIntr ∧ !again then used else x.svcUsed })
  s.modX it.id (fun x => { x with
    turn := turn, svcTx := if it.op.isPeriodic ∧ !again then x.svcTx + 1 else x.svcTx
    wireToggle := if again then x.wireToggle else c.toggle
    csplitAt := if again then s.clks[p].count else x.csplitAt })

/-- A transaction starts. A CONTROL or BULK one takes a granule where no data of it are staged, and waits where the
pool is empty; the data of the next are read meanwhile (R143). -/
def State.txStart (s : State) (p : PortId) : State :=
  if !s.portRuns p || s.ports[p].wire.isSome then s else
  match s.nextTx p with
  | none => s
  | some it =>
    match s.ctxOf it with
    | none => s
    | some c =>
      let bare := !it.op.isPeriodic && !(it.sends && it.nextBytes c.mps != 0) && !it.x.wireBuf
      if bare && s.poolEmpty then s.poolWait it.id
      else
        let s := if bare then (s.modX it.id (fun x => { x with wireBuf := true })).poolMark else s
        (s.txGo p it c).askNext it.id

/-- Received data go to the host buffer (R144), with the queue pair's no-snoop attribute (spec/01_device_organisation.md
R30). -/
def State.dataIn (s : State) (it : Item) (ofs len : Nat) : State :=
  if len = 0 then s else s.post it.owner it.gen it.noSnoop (.data (it.dataAddr ofs) len)

/-- The endpoint's count of transaction errors in a row (R152). -/
def State.setErrs (s : State) (it : Item) (n : Nat) : State :=
  match portId? it.port with
  | none => s
  | some p => s.modCtx p (eAddr it.entry) (eEp it.entry) it.keyDir (fun c => { c with errs := n })

/-- The transaction moved data or a handshake the protocol permits: the endpoint's error count clears (R152), the
granules of the wire and of the last drain go back (R143). -/
def State.txOk (s : State) (it : Item) (f : Xfer → Xfer) : State :=
  (s.setErrs it 0).modX it.id (fun x => f { x with wireBuf := false, drain := false })

/-- A transaction error (R152): retried, or the third in a row of its endpoint ends the item. `again`: no data, handshake
or ERR came, so a complete-split of a CONTROL or BULK item is the transaction retried (spec/05_root_ports.md R185). -/
def State.txError (s : State) (p : PortId) (it : Item) (c : Ctx) (reason : Nat) (again : Bool) : State :=
  let s := s.wrap (at_ (portPage p) 0x118) 1
  if c.errs + 1 < 3 then
    (s.setErrs it (c.errs + 1)).modX it.id (fun x => { x with
      csplit := x.csplit && again && !it.op.isIntr, nakSvc := 0, svcMoved := false
      served := x.served || it.op.isIntr, wireBuf := false, drain := false
      dataReady := x.dataReady && !(it.op.isIntr && x.svcMoved) })
  else (s.setErrs it 0).finish it 0x03 reason

/-- The endpoint's toggle advances, unless a snooped request reset it since the transaction started (R157, R160). -/
def State.flip (s : State) (it : Item) : State :=
  match s.ctxOf it with
  | none => s
  | some c => if it.op = .control ∨ c.snooped then s
    else s.modCtx c.port c.addr c.ep c.dir (fun x => { x with toggle := !x.toggle, dirty := true })

/-- The transfer of a bulk, interrupt or control data stage has all its bytes, or a short packet. The status stage of a
CONTROL item starts without PING: what the last OUT packet left belongs to the data stage (R129, R145). -/
def State.afterData (s : State) (id : Nat) (short : Bool) : State :=
  match s.item? id with
  | none => s
  | some it =>
    let total := if it.op = .control then eLength it.entry else it.length
    if !short && decide (it.x.done < total) then s
    else if it.op = .control then s.modX id (fun x => { x with stage := 2, ping := false })
    else if total ≤ it.x.done ∨ eShortOk it.entry then s.finish it 0 0
    else s.finish it 0x01 0

/-- The end of a CONTROL item after its status stage (R145). -/
def State.controlDone (s : State) (it : Item) : State :=
  match it.eccEnd with
  | some e => s.complete it e.1 e.2 it.x.done
  | none =>
  if it.x.done < eLength it.entry ∧ !eShortOk it.entry then s.complete it 0x01 0 it.x.done
  else s.complete it 0 0 it.x.done

/-- An interrupt service gave one transaction; after MULT + 1, or where its opportunity has passed, it is over, and the next service's data are read anew
(R144, R147). -/
def svcAfter (it : Item) (c : Ctx) (x : Xfer) : Xfer :=
  if it.op.isIntr then
    let last := x.served || decide (c.mult + 1 ≤ x.svcTx)
    { x with svcMoved := !last, nakSvc := 0, served := last, dataReady := x.dataReady && !last }
  else x

/-- A handshaken transaction that sent data counts toward the length and the toggle (R130). -/
def State.countOut (s : State) (it : Item) (c : Ctx) (nyet : Bool) : State :=
  let n := it.nextBytes c.mps
  (s.txOk it (fun x => svcAfter it c { x with
    done := x.done + n, csplit := false, ping := nyet, nakWait := nyet
    dataReady := if it.op.isPeriodic then x.dataReady else x.nextReady
    nextReady := if it.op.isPeriodic then x.nextReady else false })).flip it

/-- The device took a data packet (ACK, or NYET on high-speed bulk and control). The stage that DETAIL[7:6] names has
started with the handshake that ends the stage before it (R145; DESIGN CHOICE, log entry 71). -/
def State.outTaken (s : State) (it : Item) (c : Ctx) (nyet : Bool) : State :=
  let s := s.countOut it c nyet
  if it.op = .control ∧ it.x.stage = 0 then
    s.modX it.id (fun x => { x with stage := if eLength it.entry = 0 then 2 else 1, ping := false, nakWait := false })
  else if it.op = .control ∧ it.x.stage = 2 then s.controlDone it
  else s.afterData it.id false

/-- The toggle a data packet must carry (R145, R157). -/
def Item.wantToggle (it : Item) (c : Ctx) : Bool :=
  if it.op = .control then if it.x.stage = 1 then it.x.done / c.mps % 2 == 0 else true else it.x.wireToggle

/-- Room left for received data. -/
def Item.room (it : Item) : Nat :=
  if it.op = .control then (if it.x.stage = 1 then eLength it.entry - it.x.done else 0) else it.length - it.x.done

/-- A received data packet counts toward the length and the toggle, and its granule drains to host memory (R130,
R144). -/
def State.countIn (s : State) (it : Item) (c : Ctx) (len : Nat) : State :=
  let s := s.dataIn it it.x.done len
  (s.txOk it (fun x => svcAfter it c { x with done := x.done + len, csplit := false, drain := decide (len ≠ 0) })).flip it

/-- What an engine makes of a data packet from the device (R146, R153, R157, R181). -/
inductive InPacket where
  | wrong
  | babble (detail : Nat)
  | stale
  | good
  deriving DecidableEq, Repr

/-- The judgement of a data packet. -/
def Item.judge (it : Item) (c : Ctx) (pid : Fin 4) (len : Nat) : InPacket :=
  if it.sends ∨ 2 ≤ pid.val then .wrong
  else if c.mps < len then .babble 0x01
  else if (pid.val == 1) != it.wantToggle c then .stale
  else if it.room < len then .babble 0x02
  else .good

/-- A data packet from the device (R146, R153, R157, R181). One that ends its item BABBLE leaves the endpoint's error count
as it was (DESIGN CHOICE, log entry 71). -/
def State.dataPacket (s : State) (p : PortId) (it : Item) (c : Ctx) (pid : Fin 4) (len : Nat) : State :=
  match it.judge c pid len with
  | .wrong => s.txError p it c 0x03 false
  | .babble d => s.finish it 0x04 d
  | .stale => s.txOk it (fun x => svcAfter it c { x with csplit := false })
  | .good =>
    let s := s.countIn it c len
    if it.op = .control ∧ it.x.stage = 2 then s.controlDone it
    else s.afterData it.id (decide (len < c.mps))

/-- NAK (R129, R147): a bulk or control transfer waits for NAK_GAP, an interrupt service is over. -/
def State.nak (s : State) (it : Item) (c : Ctx) : State :=
  if it.op.isIntr then
    s.txOk it (fun x => { x with served := true, csplit := false, svcMoved := false,
                                 dataReady := x.dataReady && !x.svcMoved,
                                 nakSvc := if x.svcMoved then 0 else x.nakSvc + 1 })
  else
    s.txOk it (fun x => { x with nakWait := true, csplit := false,
                                 ping := x.ping || (decide (c.speed = 0) && it.sends && !(it.op == .control && x.stage == 0)) })

/-- The present packet of an isochronous item. -/
def Item.pkt (it : Item) : IsoPkt := it.x.iso.getD it.x.isoIdx ⟨0, 0, 0, 0, true⟩

/-- An isochronous packet ends its service. -/
def State.isoDone (s : State) (it : Item) (pst act : Nat) : State :=
  ((s.isoServe it it.x.isoIdx pst act).modX it.id (fun x => { x with served := true, dataReady := false })).isoEnd it.id

/-- The PID a high-bandwidth service permits next (R149): DATA2, DATA1 and DATA0 count down to the last packet; a
service of one transaction takes DATA0 or DATA1; a piece of a split carries MDATA or, the last one, DATA0. -/
def Item.isoPidOk (it : Item) (c : Ctx) (split : Bool) (pid : Fin 4) : Bool :=
  if split then pid = 0 || pid = 3
  else if c.mult = 0 then decide (pid.val < 2)
  else match it.x.isoPid with
    | none => decide (pid.val ≤ c.mult)
    | some e => decide (pid.val = e)

/-- A response to an isochronous transaction (R148, R149, spec/05_root_ports.md R181, R185). -/
def State.isoTx (s : State) (p : PortId) (it : Item) (c : Ctx) (r : Resp) : State :=
  let k := it.pkt
  let split := c.hubAddr != 0 && s.ports[p].speed == 0
  let lastSplit := decide (c.splitY + 4 ≤ s.clks[p].frindex.toNat % 8)
  let put (s : State) (len : Nat) : State := s.dataIn it (k.ofs + k.act) len
  let bad (s : State) (act : Nat) : State := (s.wrap (at_ (portPage p) 0x118) 1).isoDone it 1 act
  if it.op = .isocOut then
    match r with
    | .sent => if split || decide (k.req ≤ it.x.svcTx * c.mps) then s.isoDone it 0 k.req else s
    | _ => s
  else if split && !it.x.csplit then
    match r with
    | .sent => s.modX it.id (fun x => { x with csplit := true })
    | _ => bad s k.act
  else
    match r with
    | .data pid len =>
      let room := k.req - k.act
      if !it.isoPidOk c split pid then bad s k.act
      else if c.mps < len ∨ room < len then (put s (min room len)).isoDone it 2 (k.act + min room len)
      else
        let s := put s len
        if pid = 0 ∨ (!split ∧ c.mult = 0) then s.isoDone it 0 (k.act + len)
        else if split ∧ lastSplit then bad s (k.act + len)
        else s.modX it.id (fun x => { x with iso := x.iso.set x.isoIdx { k with act := k.act + len }
                                             isoPid := some (pid.val - 1) })
    | .crcErr len =>
      let n := min len (k.req - k.act)
      bad (put s n) (k.act + n)
    | .nyet => if split ∧ !lastSplit then s else bad s k.act
    | _ => bad s k.act

/-- The transaction is of a kind whose device handshake may be NYET: high-speed bulk or control OUT after the setup
stage. -/
def Item.mayNyet (it : Item) (c : Ctx) : Bool :=
  decide (c.speed = 0) && it.sends && !it.op.isIntr && !(it.op == .control && it.x.stage == 0)

/-- A response to any other transaction (R145-R147, R152, R185). -/
def State.txResponse (s : State) (p : PortId) (it : Item) (c : Ctx) (r : Resp) : State :=
  let split := c.hubAddr != 0 && s.ports[p].speed == 0
  let setup := it.op == .control && it.x.stage == 0
  let err (reason : Nat) : State := s.txError p it c reason false
  if split && !it.x.csplit then
    match r with
    | .sent => if it.op.isIntr then s.modX it.id (fun x => { x with csplit := true }) else err 0x03
    | .ack => if it.op.isIntr then err 0x03 else s.txOk it (fun x => { x with csplit := true })
    | .nak => if it.op.isIntr then err 0x03 else s.nak it c
    | .crcErr _ => err 0x01
    | _ => err 0x03
  else
    match r with
    | .crcErr _ => s.txError p it c 0x01 true
    | .badPid => s.txError p it c 0x03 true
    | .sent => err 0x03
    | .ttErr => if split then err 0x04 else err 0x03
    | .ack =>
      if !it.sends then err 0x03
      else if it.x.ping then s.txOk it (fun x => { x with ping := false })
      else s.outTaken it c false
    | .nyet =>
      if split then
        if it.op.isIntr then
          if s.clks[p].frindex.toNat % 8 < c.splitY + 4 then s.txOk it (fun x => x) else err 0x03
        else s.txOk it (fun x => { x with nakWait := true })
      else if it.mayNyet c && !it.x.ping then s.outTaken it c true
      else err 0x03
    | .nak => if setup then err 0x03 else s.nak it c
    | .stall => (s.setErrs it 0).finish it 0x02 0
    | .data pid len => s.dataPacket p it c pid len

/-- The transaction permits the response, which is then no transaction error (R145-R147, R152, R185). -/
def State.permits (s : State) (p : PortId) (it : Item) (c : Ctx) (r : Resp) : Bool :=
  let split := c.hubAddr != 0 && s.ports[p].speed == 0
  let first := split && !it.x.csplit
  match r with
  | .sent => first && it.op.isIntr
  | .ack => if first then !it.op.isIntr else it.sends
  | .nak => if first then !it.op.isIntr else !(it.op == .control && it.x.stage == 0)
  | .nyet => if split then it.x.csplit && (!it.op.isIntr || decide (s.clks[p].frindex.toNat % 8 < c.splitY + 4))
    else it.mayNyet c && !it.x.ping
  | .stall => !first
  | .data pid len => !first && it.judge c pid len != .wrong
  | _ => false

/-- What a transaction adds to an item whose endpoint closed while it was on the wire: handshaken data count toward its
length (R130), an isochronous packet has its descriptor written, an error counts at the port (spec/05_root_ports.md
R191). -/
def State.lateResponse (s : State) (p : PortId) (it : Item) (c : Ctx) (r : Resp) : State :=
  if it.op.isIsoc then s.isoTx p it c r
  else if !s.permits p it c r then s.wrap (at_ (portPage p) 0x118) 1
  else if c.hubAddr != 0 && s.ports[p].speed == 0 && !it.x.csplit then s
  else
    match r with
    | .ack => if it.sends ∧ !it.x.ping then s.countOut it c false else s
    | .nyet => if it.mayNyet c ∧ !it.x.ping then s.countOut it c true else s
    | .data pid len => if it.judge c pid len = .good then s.countIn it c len else s
    | _ => s

/-- A transaction boundary of an item: a pending end or time limit takes effect (R130, R155). -/
def State.boundary (s : State) (id : Nat) : State :=
  match s.item? id with
  | none => s
  | some it =>
    match it.ending with
    | some (st, d) => s.complete it st d it.xferLen
    | none => if it.x.expired then s.complete it 0x0E (it.detail (if it.op = .control then 0x01 else 0x02)) it.x.done
      else s

/-- A handshake passes in the transaction, from the device or from the port: PORT.CTRL.LED 3 follows it
(spec/05_root_ports.md R191). A data packet is acknowledged where it is taken or is a repeat (R157); isochronous
transactions have none (R149). -/
def Item.shakes (it : Item) (c : Ctx) (r : Resp) : Bool :=
  match r with
  | .ack => true
  | .nak => true
  | .nyet => true
  | .stall => true
  | .ttErr => true
  | .data pid len => !it.op.isIsoc && (it.judge c pid len == .good || it.judge c pid len == .stale)
  | _ => false

/-- A transaction ends with its response, or with none (R130, R184), under the context it started with where its
endpoint has closed since. Data of an item whose slice was reset meanwhile are written under the generation it was
stored with, and so are stale (spec/09_slices.md R282, R285). -/
def State.txEnd (s : State) (p : PortId) (r : Option Resp) : State :=
  if s.held || s.fatal || s.fw.paused then s else
  match s.ports[p].wire, s.ports[p].wireCtx with
  | some id, some c0 =>
    match s.item? id with
    | none => s.modPort p (fun x => { x with wire := none, wireCtx := none })
    | some it =>
      let live := s.ctxOf it
      let c := live.getD c0
      let shake := match r with
        | some r => it.shakes c r
        | none => false
      let led := shake && bits (s.reg (at_ (portPage p) 0x14)).toNat 2 2 == 3
      let s := s.modPort p (fun x => { x with wire := none, wireCtx := none, ledPulse := x.ledPulse || led })
      let s := match r with
        | some r =>
          if live.isNone then s.lateResponse p it c r
          else if it.op.isIsoc then s.isoTx p it c r
          else s.txResponse p it c r
        | none =>
          if it.op.isIsoc then
            if it.op = Op.isocIn then (s.wrap (at_ (portPage p) 0x118) 1).isoDone it 1 it.pkt.act else s
          else if live.isNone then s.wrap (at_ (portPage p) 0x118) 1
          else s.txError p it c 0x02 true
      (s.boundary id).askNext id
  | _, _ => s

/-- Outbound data of an item have come, or their read failed (R144, R156). A failed read of an isochronous packet
marks that packet HOST_MEM (R148, R150); data of a packet whose window has passed are dropped (R160). -/
def State.dataRead (s : State) (id : Nat) (ok : Bool) : State :=
  match s.serving id with
  | none => s
  | some it =>
    if !it.x.fetching then s
    else
      let s := s.modX id (fun x => { x with fetching := false })
      if it.op.isIsoc then
        let passed := (it.x.iso.getD it.x.dataIdx ⟨0, 0, 0, 0, true⟩).served
        if passed then s.askNext id
        else if ok then s.modX id (fun x => { x with dataReady := true })
        else ((s.isoServe it it.x.dataIdx 4 0).isoEnd id).askNext id
      else if ok then
        s.modX id (fun x => if x.dataReady then { x with nextReady := true } else { x with dataReady := true })
      else if s.onWire it then s.endLater id 0x05 (it.detail 0x01)
      else
        match s.item? id with
        | some it => s.finish it 0x05 0x01
        | none => s

/-- The time limit of a CONTROL or BULK item has passed (R155). -/
def State.xferTimeout (s : State) (id : Nat) : State :=
  match s.serving id with
  | none => s
  | some it =>
    if !(it.op.isBulk || it.op == .control) then s
    else (s.modX id (fun x => { x with expired := true })) |> fun t => if s.onWire it then t else t.boundary id

/-! ### The activation pause (spec/13_firmware_and_settings.md R359, R360) -/

/-- A result reaches its engine. -/
def State.deliver (s : State) (l : Late) : State :=
  match l with
  | .tx p r => s.txEnd p r
  | .context id res => s.ctxRead id res
  | .list id res => s.listRead id res
  | .data id ok => s.dataRead id ok
  | .nakGap id => if s.held then s else s.modX id (fun x => { x with nakWait := false })
  | .timeout id => s.xferTimeout id

/-- A result is new to an engine that stands: one of each kind is held for an item, one transaction end for a port. -/
def State.fresh? (s : State) (l : Late) : Bool :=
  match l with
  | .tx p _ => s.ports[p].wire.isSome && !s.late.any (fun x => match x with
    | .tx q _ => q == p
    | _ => false)
  | _ => !s.late.contains l

/-- A result is delivered, or held while the engines stand in the pause. -/
def State.atEngine (s : State) (l : Late) : State :=
  if s.fw.paused && !s.held && !s.fatal then (if s.fresh? l then { s with late := s.late ++ [l] } else s) else s.deliver l

/-- Packets of an isochronous item in SERVICE whose services lay in the pause report MISSED (R360). -/
def State.isoResume (s : State) (id : Nat) : State :=
  match s.item? id with
  | none => s
  | some it =>
    match s.ctxOf it with
    | none => s
    | some c => ((s.isoLapse it (2 ^ c.interval * s.epUnitOf c) (s.oppNo c)).isoEnd id).askNext id

/-- The end of an item that waited for the engines: one of a removed or faulted slice ends at once, one that a port or
slice reset ended out of SERVICE goes to the retire list (R371). -/
def State.resumeEnd (s : State) (it : Item) : State :=
  let e := it.ending.getD (0, 0)
  if it.inService then (if s.onWire it then s else s.boundary it.id)
  else if it.freshGen || e.1 == 0x0F then (s.modItem it.id (fun x => { x with ending := none })).toRetire it.id e.1 e.2
  else s.complete it e.1 e.2 0

/-- The engines resume: what was held for them is delivered, lost services are reported, and ends that waited for them
take effect. -/
def State.enginesResume (s : State) : State :=
  let held := s.late
  let s := held.foldl State.deliver { s with late := [] }
  let s := s.forAll (s.wis.filter (fun it => it.inService && it.op.isIsoc && it.x.running && it.x.isoReady)) (fun t it =>
    t.isoResume it.id)
  (s.forAll (s.wis.filter (fun it => it.ending.isSome)) State.resumeEnd).requeue

/-! ### Meanings -/

/-- CONTEXT_READ_DONE (R134). -/
def execContextReadDone (id : Nat) (res : CtxResult) (s : State) : Result := done (s.atEngine (.context id res))

/-- CTX_FLUSH (R161): the write-back of every dirty context starts. -/
def execCtxFlush (src : Source) (s : State) : Result :=
  done (s.gate src 0x060 0x014 (fun t => { t with flushing := true }))

/-- Every context that differs from its host-memory copy is written back, an evicted one that a snooped request changed
too (R133). -/
def State.flushDone (s : State) : State :=
  if !s.flushing || s.held || s.fatal then s
  else
    let s := (s.ctxs.filter (fun c => c.dirty)).foldl (fun t c => t.ctxOut c (ctxDw c)) s
    { s with flushing := false, ctxs := s.ctxs.map (fun c => { c with dirty := false }) }

/-- CTX_FLUSH_DONE (R133). -/
def execCtxFlushDone (s : State) : Result := done s.flushDone

/-- CNT_CLR of TE[0] (R161). -/
def State.teCntClr (s : State) : State := s.clearRegs [at_ 0x060 0x110, at_ 0x060 0x114, at_ 0x060 0x11C]

/-- TE_CNT_CLR (R161). -/
def execTeCntClr (src : Source) (s : State) : Result := done (s.gate src 0x060 0x014 State.teCntClr)

/-- CONTROL (R145). -/
def execControl (id : Nat) (s : State) : Result := done (s.startOp id .control (fun it t => t.startTransfer it))

/-- BULK_OUT (R146). -/
def execBulkOut (id : Nat) (s : State) : Result := done (s.startOp id .bulkOut (fun it t => t.startTransfer it))

/-- BULK_IN (R146). -/
def execBulkIn (id : Nat) (s : State) : Result := done (s.startOp id .bulkIn (fun it t => t.startTransfer it))

/-- INTR_OUT (R147). -/
def execIntrOut (id : Nat) (s : State) : Result := done (s.startOp id .intrOut (fun it t => t.startTransfer it))

/-- INTR_IN (R147). -/
def execIntrIn (id : Nat) (s : State) : Result := done (s.startOp id .intrIn (fun it t => t.startTransfer it))

/-- ISOC_OUT (R148). -/
def execIsocOut (id : Nat) (s : State) : Result := done (s.startOp id .isocOut (fun it t => t.startTransfer it))

/-- ISOC_IN (R148). -/
def execIsocIn (id : Nat) (s : State) : Result := done (s.startOp id .isocIn (fun it t => t.startTransfer it))

/-- EP_OPEN (R136). -/
def execEpOpen (id : Nat) (s : State) : Result := done (s.startOp id .epOpen (fun it t => t.epOpen it))

/-- EP_CLOSE (R140). -/
def execEpClose (id : Nat) (s : State) : Result := done (s.startOp id .epClose (fun it t => t.epClose it))

/-- EP_RESET_TOGGLE (R157). -/
def execEpResetToggle (id : Nat) (s : State) : Result :=
  done (s.startOp id .epResetToggle (fun it t => t.epChange it (fun c => { c with toggle := false, dirty := true })))

/-- EP_CLEAR_HALT (R153). -/
def execEpClearHalt (id : Nat) (s : State) : Result :=
  done (s.startOp id .epClearHalt (fun it t => t.epChange it (fun c => { c with halted := false, dirty := true })))

/-- A NOP or FENCE_MARK completes with OK when it is the first item on the retire list whose CQ has credit (R68,
R113). -/
def State.retireOp (s : State) (id : Nat) (o : Op) : State :=
  match s.retireHead with
  | none => s
  | some it =>
    if s.held || s.fatal || !s.rootOn domSCHED || it.id ≠ id || it.op ≠ o || it.retire.isSome then s
    else s.complete it 0 0 0

/-- NOP (R68). -/
def execNop (id : Nat) (s : State) : Result := done (s.retireOp id .nop)

/-- FENCE_MARK (R68). -/
def execFenceMark (id : Nat) (s : State) : Result := done (s.retireOp id .fenceMark)

/-- TRANSACTION_START (R129). -/
def execTransactionStart (p : PortId) (s : State) : Result := done (s.txStart p)

/-- TRANSACTION_END (R130). -/
def execTransactionEnd (p : PortId) (r : Resp) (s : State) : Result := done (s.atEngine (.tx p (some r)))

/-- RESPONSE_TIMEOUT (R184). -/
def execResponseTimeout (p : PortId) (s : State) : Result := done (s.atEngine (.tx p none))

/-- NAK_GAP_EXPIRY (R129). -/
def execNakGapExpiry (id : Nat) (s : State) : Result := done (s.atEngine (.nakGap id))

/-- XFER_TIMEOUT (R155). -/
def execXferTimeout (id : Nat) (s : State) : Result := done (s.atEngine (.timeout id))

/-- The NAK limit of an interrupt item (R147). -/
def State.nakLimit (s : State) (id : Nat) : State :=
  match s.serving id with
  | none => s
  | some it =>
    if !it.op.isIntr ∨ it.x.nakSvc < s.fld (at_ 0x060 0x104) 0 8 then s
    else if s.onWire it then s.modItem id (fun x => { x with ending := some (x.ending.getD (0x0E, 0x03)) })
    else s.finish it 0x0E 0x03

/-- INTR_NAK_LIMIT (R147). -/
def execIntrNakLimit (id : Nat) (s : State) : Result := done (s.nakLimit id)

/-- HOST_DATA_READ_DONE (R156). -/
def execHostDataReadDone (id : Nat) (ok : Bool) (s : State) : Result := done (s.atEngine (.data id ok))

/-- PACKET_LIST_READ_DONE (R148). -/
def execPacketListReadDone (id : Nat) (res : Option (List (BitVec 64))) (s : State) : Result :=
  done (s.atEngine (.list id res))

/-- A waiting transaction gets its granule (R143): its outbound data are read into it, or it is for the wire. -/
def State.granuleGrant (s : State) (id : Nat) : State :=
  match s.serving id with
  | none => s
  | some it =>
    if !it.x.wantGranule || s.poolEmpty then s
    else
      let s := { s.modX id (fun x => { x with wantGranule := false }) with poolWaits := s.poolWaits.erase id }
      match s.ctxOf it with
      | none => s
      | some c =>
        if it.lacksData c.mps then s.askNext id
        else (s.modX id (fun x => { x with wireBuf := true })).poolMark

/-- POOL_GRANULE_GRANT (R143). -/
def execPoolGranuleGrant (id : Nat) (s : State) : Result := done (s.granuleGrant id)

/-- A write of POOL_MIN: refused when it is raised above 6,144 − PER_ALLOC (R142). -/
def State.poolMin (s : State) (v : Word) : State :=
  let n := bits v.toNat 0 13
  if n < 512 ∨ 6144 < n then s.cause 0x070 0
  else if s.fld (at_ 0x070 0x100) 0 13 < n ∧ s.poolSize < n then s.cause 0x070 1
  else s.setFld (at_ 0x070 0x100) 0 13 n

/-- POOL_MIN_WRITE (R142). -/
def execPoolMinWrite (src : Source) (v : Word) (s : State) : Result :=
  done (s.gate src 0x070 0x100 (fun t => t.poolMin v))

/-- CNT_CLR of EBR (R162): PEAK then reads the present use (DESIGN CHOICE, log entry 49). -/
def State.ebrCntClr (s : State) : State :=
  { s.clearRegs [at_ 0x070 0x114, at_ 0x070 0x118] with poolPeak := s.poolUsed }

/-- EBR_CNT_CLR (R162). -/
def execEbrCntClr (src : Source) (s : State) : Result := done (s.gate src 0x070 0x014 State.ebrCntClr)

end Sys2Proof.Machine
end

