-- ==== Sys2Proof/Machine/Frame.lean ====
section
/-!
DEFINITION. Frame clocks, discipline loops and device time (spec/06_frame_timing.md).
-/

namespace Sys2Proof.Machine

open Sys2Proof

/-! ### Registers of a frame clock (R217, R218) -/

/-- Offsets of SOF_SRC, SOF_RATIO, SOF_CLAMP and SOF_LOCK, or REF's. -/
def clkSrcAt : ClkId → Nat
  | .port p => at_ (portPage p) 0x200
  | .ref => at_ 5 0x140
def clkRatioAt : ClkId → Nat
  | .port p => at_ (portPage p) 0x204
  | .ref => at_ 5 0x144
def clkClampAt : ClkId → Nat
  | .port p => at_ (portPage p) 0x20C
  | .ref => at_ 5 0x148
def clkLockAt : ClkId → Nat
  | .port p => at_ (portPage p) 0x210
  | .ref => at_ 5 0x14C

/-- The page whose CAUSE.CFG_BAD a refusal sets, and its bit (R198). -/
def clkPage : ClkId → Nat
  | .port p => portPage p
  | .ref => 5

def State.clkSrc (s : State) (k : ClkId) : Nat := s.fld (clkSrcAt k) 0 3
def State.clkBw (s : State) (k : ClkId) : Nat := s.fld (clkSrcAt k) 4 2
def State.clkHold (s : State) (k : ClkId) : Bool := s.flag (clkSrcAt k) 6
def State.clkUf (s : State) (k : ClkId) : Nat := s.fld (clkRatioAt k) 0 10
def State.clkWc (s : State) (k : ClkId) : Nat := s.fld (clkRatioAt k) 12 13
def State.clkClamp (s : State) (k : ClkId) : Nat := s.fld (clkClampAt k) 0 11
def State.clkSlew (s : State) (k : ClkId) : Nat := s.fld (clkClampAt k) 16 12
def State.lockWin (s : State) (k : ClkId) : Nat := s.fld (clkLockAt k) 0 12
def State.lockCnt (s : State) (k : ClkId) : Nat := s.fld (clkLockAt k) 16 8

/-- TIME.SYNC.ROLE (R207). -/
def State.role (s : State) : Nat := s.fld (at_ 5 0x15C) 0 2

/-- The Frame Timer runs. -/
def State.timeRuns (s : State) : Bool := !s.held && s.rootOn domTIME

/-! ### Sources and rates (R197, R198) -/

/-- Microframes per comparison (R197, R208). -/
def State.ufPer (s : State) (k : ClkId) : Nat :=
  match s.clkSrc k with
  | 1 => 8000
  | 6 => match k with
    | .port _ => 1
    | .ref => 8
  | _ => s.clkUf k

/-- Comparison rate in mHz (R197, R208). -/
def State.rate (s : State) (k : ClkId) : Nat := 8000000 / s.ufPer k

/-- Reference edges per comparison (R197). -/
def State.edgesPer (s : State) (k : ClkId) : Nat :=
  let src := s.clkSrc k
  if 2 ≤ src ∧ src ≤ 5 then s.clkWc k else 1

/-- Comparisons of a frequency measurement (R197). -/
def State.freqLen (s : State) (k : ClkId) : Nat := if s.clkSrc k = 1 then 4 else 64

/-- Bandwidth in mHz (R203). -/
def bwMilli (bw : Nat) : Nat := 10 * 10 ^ bw

/-- The conditions of R198 on source, bandwidth and ratio. -/
def State.discOk (s : State) (k : ClkId) : Bool :=
  let src := s.clkSrc k
  let uf := s.clkUf k
  let wc := s.clkWc k
  src == 0 || (decide (50 * bwMilli (s.clkBw k) * s.ufPer k ≤ 8000000) &&
    (src == 1 || src == 6 || (decide (uf ≤ wc) && decide (wc ≤ 24 * uf))))

/-- The table of R207 on ROLE and REF_SRC. -/
def State.syncOk (s : State) : Bool := decide (s.clkSrc .ref = 6 ↔ s.role = 2)

/-! ### Rounding -/

/-- Nearest integer to a quotient; a tie goes either way. -/
def roundNear (num : Int) (den : Nat) : Int :=
  let q := num / (den : Int)
  let r := 2 * (num % (den : Int))
  if r < den then q else if (den : Int) < r then q + 1 else if Config.roundUp num den then q + 1 else q

/-- One of the two integers next to a quotient. -/
def roundFree (num : Int) (den : Nat) : Int :=
  let q := num / (den : Int)
  if num % (den : Int) = 0 then q else if Config.roundUp num den then q + 1 else q

/-- round(e ÷ 3,840,000) with halves toward zero (R202). -/
def wholeFrames (e : Int) : Int :=
  if 0 ≤ e then (e + 1919999) / 3840000 else -((-e + 1919999) / 3840000)

/-! ### Loop states and trim -/

/-- Code of a loop state and of an acquisition step (R217). -/
def lsCode : LState → Nat
  | .free => 0
  | .acquire => 1
  | .locked => 2
  | .holdover => 3
def acqCode : Acq → Nat
  | .freq => 0
  | .phase => 1
  | .track => 2
  | .off => 3

/-- Sets TRIM_NOW within the clamp; reaching the clamp shows in CLAMPED and sets the cause (R196). -/
def State.setTrim (s : State) (k : ClkId) (t : Int) : State :=
  let lim := s.clkClamp k
  let t := clampTo lim t
  let at_clamp := decide (t.natAbs = lim)
  let c := s.clk k
  (s.modClk k (fun x => { x with trim := t, clamped := at_clamp })).causeIf
    (at_clamp && !(c.clamped && decide (c.trim = t))) 5 3

/-- TRIM_NOW changes away from a boundary. In the cycle of a boundary the microframe that ends keeps its length, and the
one that begins has the new length (R195, R215). -/
def State.moveTrim (s : State) (k : ClkId) (want : Int) : State :=
  let c := s.clk k
  let s := s.setTrim k want
  let total := 64 * c.len + c.frac + ((s.clk k).trim - c.trim)
  if c.lastBoundary = s.now then s.modClk k (fun x => { x with len := total / 64, frac := total % 64 }) else s

/-- Changes LSTATE; every change sets the loop's bit and cause and raises LOCK_CHANGE (R201, R216). -/
def State.setLs (s : State) (k : ClkId) (l : LState) : State :=
  if (s.clk k).ls = l then s
  else
    let s := s.modClk k (fun x => { x with ls := l })
    match k with
    | .port p =>
      let o := at_ 5 (0x160 + 4 * (p.val / 32))
      ((s.setUnit o (p.val % 32)).cause 5 1).raise 5 1 (lsCode l) p.val
    | .ref => ((s.setUnit (at_ 5 0x164) 16).cause 5 1).raise 5 1 (lsCode l) 0xFF

/-- The phase detector starts anew: it picks the edge nearest the first comparison boundary (R199). -/
def State.detectAnew (s : State) (k : ClkId) : State :=
  s.modClk k (fun x => { x with anchor := none, boundAt := none, edgeAt := none, edges := none, skip := false })

/-- The loop is in ACQUIRE at step FREQ, measuring from the next comparison (R201). -/
def State.enterAcquire (s : State) (k : ClkId) : State :=
  let c := s.clk k
  let s := s.modClk k (fun x => { x with
    acq := .freq, firstE := none, freqCount := 0, rem := 0, jump := none, hist := [], inWin := 0, outWin := 0,
    toAcquire := false, numbered := false, before := if c.ls = .acquire then x.before else x.trim })
  s.setLs k .acquire

/-- ACQUIRE at once (R201): a locked loop that strayed, or a reference that is valid again. -/
def State.acquire (s : State) (k : ClkId) : State := (s.detectAnew k).enterAcquire k

/-- HOLDOVER: TRIM_NOW freezes at its mean, or at its value before ACQUIRE (R204). Entered in TRACK before a comparison of
TRACK has run, there is no mean: it keeps the value it has (DESIGN CHOICE, log entry 14). -/
def State.holdover (s : State) (k : ClkId) : State :=
  let c := s.clk k
  if c.ls ≠ .acquire ∧ c.ls ≠ .locked then s
  else
    let t := if c.ls = .acquire ∧ (c.acq = .freq ∨ c.acq = .phase) then c.before
      else if c.hist.isEmpty then c.trim
      else roundFree c.hist.sum c.hist.length
    ((s.moveTrim k t).modClk k (fun x => { x with
      acq := .off, rem := 0, jump := none, toAcquire := false, heldAt := some s.now })).setLs k .holdover

/-- FREE (R201, R205). -/
def State.goFree (s : State) (k : ClkId) : State :=
  (s.modClk k (fun x => { x with acq := .off, rem := 0, jump := none, refOk := false, toAcquire := false })).setLs k
    .free

/-- What an accepted write of the source, bandwidth, hold or ratio does to the loop (R201): it acquires from the next
comparison, or holds over; a new source is valid until it is lost (R200). -/
def State.loopWrite (s : State) (k : ClkId) (oldSrc : Nat) : State :=
  let src := s.clkSrc k
  if src = 0 then s.goFree k
  else
    let s := if src = oldSrc then s
      else s.modClk k (fun x => { x with
        refOk := true, lastEdge := none, edgePrev := none, srcAt := s.now, badRun := 0, goodRun := 0, clampRun := 0,
        badSeen := false })
    if s.clkHold k then (s.modClk k (fun x => { x with toAcquire := false })).holdover k
    else (s.detectAnew k).modClk k (fun x => { x with toAcquire := true })

/-! ### Comparisons (R199-R204) -/

/-- TRACK and LOCKED: the proportional-integral loop, at most 64 steps a comparison (R202). -/
def State.track (s : State) (k : ClkId) (e : Int) : State :=
  let c := s.clk k
  let integ := c.integ + Config.loopKi (s.clkBw k) (s.rate k) e
  let want := clampTo (s.clkClamp k) (integ + Config.loopKp (s.clkBw k) (s.rate k) e)
  let s := s.moveTrim k (c.trim + clampTo 64 (want - c.trim))
  s.modClk k (fun x => { x with
    integ := integ, hist := (x.trim :: x.hist).take 64,
    inWin := if c.ls = .acquire ∧ e.natAbs ≤ s.lockWin k then x.inWin + 1 else 0,
    outWin := if c.ls = .locked ∧ x.refOk ∧ 4 * s.lockWin k < e.natAbs then x.outWin + 1 else 0 })

/-- The latest edge before the present cycle (R215). -/
def State.edgeBefore (s : State) (k : ClkId) : Option Nat :=
  match (s.clk k).edgePrev with
  | some (m, l) => if m = s.now then l else (s.clk k).lastEdge
  | none => (s.clk k).lastEdge

/-- No edge has come within twice the expected spacing, which is the ratio of R197 in root time (R200). -/
def State.edgeLate (s : State) (k : ClkId) : Bool :=
  decide (2 * (60000 * s.ufPer k) < (s.now - ((s.edgeBefore k).getD (s.clk k).srcAt)) * s.edgesPer k)

/-- A spacing of two edges differs from the expected spacing by more than 1,000 ppm (R200). -/
def State.spacingOff (s : State) (k : ClkId) (spacing : Nat) : Bool :=
  let want : Int := 60000 * s.ufPer k
  decide (want < 1000 * ((spacing * s.edgesPer k : Nat) - want).natAbs)

/-- A condition under which a reference is not valid (R200). -/
def State.refBad (s : State) (k : ClkId) : Bool :=
  s.edgeLate k || decide (4 ≤ (s.clk k).badRun) || decide (64 ≤ (s.clk k).clampRun)

/-- One comparison of a boundary with a reference edge, of phase error e in steps (R199); the comparisons at the clamp
and the valid ones of a lost reference are counted (R200). -/
def State.compare (s : State) (k : ClkId) (e : Int) : State :=
  if s.clkSrc k = 0 then s
  else
    let s := s.modClk k (fun x => { x with
      phaseErr := clampTo (2 ^ 23 - 1) e, lastE := e, clampRun := if x.clamped then x.clampRun + 1 else 0 })
    let bad := s.refBad k || (s.clk k).badSeen
    let s := s.modClk k (fun x => { x with goodRun := if x.refOk || bad then 0 else x.goodRun + 1, badSeen := false })
    let s := if (s.clk k).toAcquire then s.enterAcquire k else s
    let c := s.clk k
    if c.ls = .acquire ∧ c.acq = .freq then
      s.modClk k (fun x => match x.firstE with
        | none => { x with firstE := some e }
        | some _ => { x with freqCount := x.freqCount + 1 })
    else if c.ls = .locked ∨ (c.ls = .acquire ∧ c.acq = .track) then s.track k e
    else s

/-- An edge the phase detector takes, at a moment in steps, meets its boundary, or waits for it (R199). -/
def State.takeEdge (s : State) (k : ClkId) (e : Int) : State :=
  match (s.clk k).boundAt with
  | some b => (s.modClk k (fun x => { x with boundAt := none })).compare k (e - 64 * b)
  | none => s.modClk k (fun x => { x with edgeAt := some e })

/-- An edge that comes `n` edges after the one last taken: the detector takes every WC_COUNT-th (R199). -/
def State.countEdge (s : State) (k : ClkId) (n : Nat) (e : Int) : State :=
  if s.edgesPer k ≤ n + 1 then (s.modClk k (fun x => { x with edges := some 0 })).takeEdge k e
  else s.modClk k (fun x => { x with edges := some (n + 1) })

/-- The latest edge before the first comparison boundary is nearer to it than the first one after (R199); of two equally
near the spec names none (log entry 14). -/
def nearerBefore (before bound after : Nat) : Bool :=
  decide (before ≤ bound) &&
    (decide (bound - before < after - bound) ||
      (decide (bound - before = after - bound) && Config.roundUp bound before))

/-- A reference edge, stamped to the whole bit time `at_`; `cut` steps are taken off for SYNC.COMP (R199, R208). The
first edge taken is the one nearest the first comparison boundary. -/
def State.refEdge (s : State) (k : ClkId) (at_ : Nat) (cut : Int) : State :=
  if s.clkSrc k = 0 then s
  else
    let c := s.clk k
    let off := match c.lastEdge with
      | none => false
      | some l => s.spacingOff k (at_ - l)
    let late := s.edgeLate k
    let s := s.modClk k (fun x => { x with
      edgePrev := some (s.now, s.edgeBefore k), lastEdge := some at_, badRun := if off then x.badRun + 1 else 0,
      badSeen := x.badSeen || late || (off && decide (3 ≤ x.badRun)) })
    let e : Int := 64 * at_ - cut
    match c.edges, c.boundAt, c.lastEdge with
    | some n, _, _ => s.countEdge k n e
    | none, none, _ => s
    | none, some b, some l =>
      if nearerBefore l b at_ then
        ((s.modClk k (fun x => { x with edges := some 0 })).takeEdge k (64 * l - cut)).countEdge k 0 e
      else (s.modClk k (fun x => { x with edges := some 0 })).takeEdge k e
    | none, some _, none => (s.modClk k (fun x => { x with edges := some 0 })).takeEdge k e

/-! ### Boundaries (R192, R193, R195, R205) -/

/-- A boundary of a loop that follows a source: the first one after an edge that its comparisons may be measured from
anchors them, REF's on FSYNC_IN at FRINDEX[2:0] = 0 (R208); a comparison boundary meets its edge, or waits for it (R197,
R199). -/
def State.boundPhase (s : State) (k : ClkId) : State :=
  let c := s.clk k
  let first := c.lastEdge.isSome && (k != .ref || s.clkSrc k != 6 || decide (c.frindex.toNat % 8 = 0))
  if s.clkSrc k = 0 then s
  else match c.anchor with
    | none => if first then s.modClk k (fun x => { x with anchor := some x.count, boundAt := some s.now }) else s
    | some a =>
      if ((c.count : Int) - a) % (s.ufPer k : Int) ≠ 0 then s
      else if c.skip then s.modClk k (fun x => { x with skip := false })
      else match c.edgeAt with
        | some e => (s.modClk k (fun x => { x with edgeAt := none })).compare k (e - 64 * s.now)
        | none => s.modClk k (fun x => { x with boundAt := some s.now })

/-- The trim of the microframe that begins, and the phase remainder left (R202, R205). In FREE a port's moves toward its
SOF_TRIM; REF has no such register, and its trim moves toward 0 (R206; DESIGN CHOICE, log entry 14). -/
def State.nextTrim (s : State) (k : ClkId) : Int × Int :=
  let c := s.clk k
  let slew := s.clkSlew k
  if c.ls = .free then
    let goal := match k with
      | .port p => clampTo (s.clkClamp k) (signed 12 (s.fld (at_ (portPage p) 0x208) 0 12))
      | .ref => 0
    (c.trim + clampTo slew (goal - c.trim), c.rem)
  else if c.ls = .acquire ∧ c.acq = .phase ∧ c.jump.isNone ∧ c.landing.isNone then
    let st := clampTo slew c.rem
    (c.preset + st, c.rem - st)
  else (c.trim, c.rem)

/-- The frame index at a boundary: it runs on, and a completed phase jump sets it (R192, R202, R206). -/
def State.nextIndex (s : State) (k : ClkId) : BitVec 14 :=
  let c := s.clk k
  match c.landing with
  | none => c.frindex + 1
  | some d =>
    match k with
    | .ref => c.frindex + 1 + BitVec.ofInt 14 d
    | .port _ =>
      if s.clkSrc k = 6 then s.refClk.frindex + (if s.now - s.refClk.lastBoundary < 30000 then 0 else 1)
      else c.frindex + 1

/-- A frame clock reaches a boundary. -/
def State.clkBoundary (s : State) (k : ClkId) : State :=
  let idx := s.nextIndex k
  let t := s.nextTrim k
  let s := s.setTrim k t.1
  let c := s.clk k
  let j := match c.jump with
    | some x => x.1
    | none => 0
  let total := 3840000 + c.trim + j + c.frac
  let s := s.modClk k (fun x => { x with
    frindex := idx, count := x.count + 1, lastBoundary := s.now
    frameStart := if idx.toNat % 8 = 0 then s.now else x.frameStart
    sofTime := s.dtime, len := total / 64,
    frac := total % 64, rem := t.2, jump := none, landing := x.jump.map (fun y => y.2) })
  let s := s.boundPhase k
  match k with
  | .port _ => s
  | .ref => s.modCtl (fun x => { x with
      fsyncOut := if s.role = 1 ∧ idx.toNat % 8 = 0 then (if idx.toNat / 8 = 0 then 300 else 100) else 0 })

/-- A port state in which a phase jump is permitted (R202). -/
def jumpState (st : PState) : Bool :=
  st = .powerOff || st = .disconnected || st = .disabledError || st = .suspended

/-- The boundaries are anchored anew by `n` whole microframes (R202): one that waits for its edge under the old anchor is
dropped. Where the anchor moves back by all the microframes of a comparison, the next edge is due at the boundary just
compared, and one that waits meets it now. -/
def State.anchorAnew (s : State) (k : ClkId) (n : Int) (ahead : Bool) : State :=
  if n = 0 then s
  else
    let c := s.clk k
    let s := s.modClk k (fun x => { x with anchor := x.anchor.map (fun a => a + n), boundAt := none, skip := ahead })
    if n + s.ufPer k ≠ 0 then s
    else match c.edgeAt with
      | some m => (s.modClk k (fun x => { x with edgeAt := none })).compare k (m - 64 * c.lastBoundary)
      | none => s.modClk k (fun x => { x with boundAt := some c.lastBoundary })

/-- The end of the frequency measurement: the preset, then a jump or a slew of the phase, and the comparison boundary
anchored anew by the whole microframes of e (R202). `e` is the latest comparison's. -/
def State.freqPreset (s : State) (k : ClkId) (e : Int) : State :=
  let c := s.clk k
  match c.firstE with
  | none => s
  | some e0 =>
    if c.ls ≠ .acquire ∨ c.acq ≠ .freq ∨ c.freqCount < s.freqLen k then s
    else
      let preset := clampTo (s.clkClamp k) (roundNear (e - e0) (c.freqCount * s.ufPer k))
      let n := wholeFrames e
      let er := e - 3840000 * n
      let jumps : Bool := match k with
        | .port p => jumpState s.ports[p].st
        | .ref => true
      -- the boundary that e_r brings onto the edge lies ahead of it: that edge has been compared
      let ahead : Bool := match c.anchor with
        | some a => decide (c.count < c.count - ((c.count : Int) - a) % (s.ufPer k : Int) + n)
        | none => false
      let shift : Int := match k with
        | .port _ => 0
        | .ref => if s.clkSrc k = 6 then -n else 0
      ((s.moveTrim k preset).modClk k (fun x => { x with
        acq := .phase, preset := preset, phaseStep := jumps, rem := if jumps then 0 else er,
        jump := if jumps then some (er, shift) else none })).anchorAnew k n ahead

/-- Step PHASE is over (R202). -/
def State.phaseDone (s : State) (k : ClkId) : State :=
  let c := s.clk k
  if c.ls ≠ .acquire ∨ c.acq ≠ .phase ∨ c.rem ≠ 0 ∨ c.jump.isSome ∨ c.landing.isSome then s
  else
    (s.setTrim k c.preset).modClk k (fun x => { x with acq := .track, integ := c.preset, hist := [], inWin := 0 })

/-- LOCKED (R201). -/
def State.lock (s : State) (k : ClkId) : State :=
  let c := s.clk k
  if c.ls = .acquire ∧ c.acq = .track ∧ s.lockCnt k ≤ c.inWin then
    (s.modClk k (fun x => { x with acq := .off, inWin := 0, outWin := 0 })).setLs k .locked
  else s

/-- A LOCKED loop that strays acquires again (R201). -/
def State.unlock (s : State) (k : ClkId) : State :=
  let c := s.clk k
  if c.ls = .locked ∧ c.refOk ∧ s.lockCnt k ≤ c.outWin then s.acquire k else s

/-- The reference is lost under one of its three conditions (R200, R201); a follower that no edge reached loses FSYNC_IN
too, its reference being valid until then or not: twice its spacing is 2 ms (R208). -/
def State.loseRef (s : State) (k : ClkId) : State :=
  let c := s.clk k
  if s.clkSrc k = 0 ∨ !s.refBad k then s
  else
    let enters := decide (c.ls = .acquire ∨ c.ls = .locked)
    let lost := decide (k = .ref ∧ s.role = 2) && s.edgeLate k && (c.refOk || s.ctl.fsyncOk)
    let s := if c.refOk then
        ((s.modClk k (fun x => { x with refOk := false, goodRun := 0 })).causeIf enters 5 2).holdover k
      else s
    if lost then ((s.modCtl (fun x => { x with fsyncOk := false })).cause 5 5).raise 5 3 0 0 else s

/-- A lost reference is valid again after 16 valid comparisons (R200, R201). -/
def State.regainRef (s : State) (k : ClkId) : State :=
  let c := s.clk k
  if s.clkSrc k = 0 ∨ c.refOk ∨ c.goodRun < 16 then s
  else
    let s := s.modClk k (fun x => { x with refOk := true })
    if c.ls = .holdover ∧ !s.clkHold k then s.acquire k else s

/-! ### Sync groups (R207, R208) -/

/-- The frame boundary of REF nearest to now takes frame number 0: so REF takes it in ACQUIRE, where its phase is still
to be moved onto the edge (R208; DEDUCED, log entry 14). -/
def State.numberZero (s : State) : State :=
  s.modClk .ref (fun x => { x with frindex := x.frindex - BitVec.ofNat 14 ((x.frindex.toNat + 4) / 8 * 8) })

/-- REF adopts frame number 0 at once: FRINDEX[13:3] becomes 0 (R208). -/
def State.frameZero (s : State) : State :=
  s.modClk .ref (fun x => { x with frindex := x.frindex &&& 7 })

/-- A follower's FSYNC_IN edge (R208), stamped `ago` bit times before this moment, at which the width of its pulse is
known; COMP is taken off, and one ns is 30.72 steps. A wide pulse is heeded in the cycle of entry to HOLDOVER too
(R215). FSYNC_OK sets at every edge of a follower, and clears with a loss by want of edges or another ROLE (R218 says no
more than what it shows; DESIGN CHOICE, log entry 14). -/
def State.fsyncEdge (s : State) (wide : Bool) (ago : Nat) : State :=
  if s.role ≠ 2 then s
  else
    let c := s.refClk
    let s := s.modCtl (fun x => { x with fsyncOk := true })
    let s := if !wide then s
      else if c.ls = .acquire ∧ !c.numbered then
        s.numberZero.modClk .ref (fun x => { x with numbered := true })
      else if (c.ls = .locked ∨ (c.ls = .holdover ∧ c.heldAt = some s.now)) ∧ c.frindex.toNat / 8 ≠ 0 then
        (s.frameZero.cause 5 6).raise 5 4 0 0
      else s
    s.refEdge .ref (s.now - ago) (roundFree (s.fld (at_ 5 0x15C) 8 6 * 3072) 100)

/-! ### Register writes -/

/-- SOF_SRC, SOF_RATIO, REF_SRC or REF_RATIO: a write that would leave an invalid combination is refused whole
(R198, R207). While TIME is not ON the loop keeps what SOF_STATUS shows, and follows the setting at its return
(spec/12_power_domains.md R330, R214). -/
def State.discWrite (s : State) (k : ClkId) (ratio : Bool) (v : Word) : State :=
  let old := s.clkSrc k
  let o := (if ratio then clkRatioAt k else clkSrcAt k) % 4096
  let t := s.plainWrite (clkPage k) o (2 ^ 32 - 1) v
  if t.discOk k && (decide (k ≠ .ref) || t.syncOk) then (if t.domOn domTIME then t.loopWrite k old else t)
  else s.cause (clkPage k) (cfgBadBit (clkPage k))

/-- SOF_TRIM (R205): 12-bit two's complement within ±1,920. -/
def State.sofTrim (s : State) (p : PortId) (v : Word) : State :=
  let t := bits v.toNat 0 12
  if (signed 12 t).natAbs ≤ 1920 then s.setFld (at_ (portPage p) 0x208) 0 12 t
  else s.cause (portPage p) (cfgBadBit (portPage p))

/-- SOF_CLAMP or REF_CLAMP: TRIM_NOW never exceeds the clamp (R196); while TIME is not ON it keeps its value, for the
next boundary to clamp (spec/12_power_domains.md R330). -/
def State.sofClamp (s : State) (k : ClkId) (v : Word) : State :=
  let s := s.plainWrite (clkPage k) (clkClampAt k % 4096) (2 ^ 32 - 1) v
  if s.domOn domTIME then s.setTrim k (s.clk k).trim else s

/-- TIME.SYNC (R207). -/
def State.syncSet (s : State) (v : Word) : State :=
  let t := s.plainWrite 5 0x15C (2 ^ 32 - 1) v
  if t.syncOk then
    t.modCtl (fun x => { x with fsyncOk := x.fsyncOk && decide (t.role = 2),
                                fsyncOut := if t.role = 1 then x.fsyncOut else 0 })
  else s.cause 5 0

/-- TIME.DTIME_SET_HI loads DTIME; the counter window in progress is abandoned (R211). -/
def State.dtimeLoad (s : State) (v : Word) : State :=
  let s := s.setReg (at_ 5 0x10C) v
  let s := { s with dtime := BitVec.ofNat 64 (s.reg64 (at_ 5 0x108)) }
  let s := (s.setFld (at_ 5 0x018) 0 1 0).setReg (at_ 5 0x110) 0
  s.modCtl (fun x => { x with windowOff := true })

/-- EST_CLR (R218). -/
def State.estClr (s : State) : State := (s.setFld (at_ 5 0x018) 0 1 0).setReg (at_ 5 0x110) 0

/-! ### Device time -/

/-- TIME_IN edge (R212). -/
def State.pps (s : State) : State :=
  ((s.setReg (at_ 5 0x120) (s.dtime.setWidth 32)).setReg (at_ 5 0x124) ((s.dtime >>> 32).setWidth 32)).cause 5 4

/-- A whole second of DTIME: the frequencies measured on the word-clock pins, in mHz and 0 for an absent clock, show in
AWCLK_FREQ (R212, log entry 68), and the scheduler's window ends (R126), unless it was abandoned (R211). -/
def State.second (s : State) : State :=
  let s := s.forAll (allFin 4) (fun t k => t.setReg (at_ 5 (0x130 + 4 * k.val)) t.ctl.awclk[k])
  if s.ctl.windowOff then
    { (s.modCtl (fun x => { x with windowOff := false })) with
      engs := s.engs.map (fun (x : EngStat) => { x with busy := 0, occ := 0 }) }
  else if s.rootOn domSCHED then s.windowEnd
  else s

/-- ⌈(2 × T + tol × ticks × T) ÷ 1,000⌉ µs with T = 30,517.578125 ns, as an exact quotient (R213):
T = 1,953,125 ÷ 64 ns, tol 250 or 50 in a million. -/
def sleepUncert (ticks : Nat) (rc : Bool) : Nat :=
  let num := 1953125 * (2000000 + ticks * (if rc then 250 else 50))
  let den := 64 * 1000000 * 1000
  (num + den - 1) / den

/-- Nanoseconds a sleep adds: ⌊ticks × 30,517.578125⌋ (R213). -/
def sleepNs (ticks : Nat) : Nat := ticks * 1953125 / 64

/-- The TIME domain returns to ON after a sleep (R213, R214). -/
def State.timeReturn (s : State) : State :=
  let ticks := s.ctl.sleepTicks
  let ns := sleepNs ticks
  let u := min (2 ^ 32 - 1) ((s.reg (at_ 5 0x110)).toNat + sleepUncert ticks s.ctl.rcUsed)
  let s := { s with dtime := s.dtime + BitVec.ofNat 64 ns }
  let s := ((s.setFld (at_ 5 0x018) 0 1 1).setReg (at_ 5 0x110) (BitVec.ofNat 32 u))
  let s := (s.setReg (at_ 5 0x114) (BitVec.ofNat 32 ticks)).setReg (at_ 5 0x118) (BitVec.ofNat 32 (ticks / 2 ^ 32))
  let rc := s.ctl.rcUsed
  let back (t : State) (k : ClkId) : State :=
    let t := t.modClk k (fun x => { x with
      frindex := x.frindex + BitVec.ofNat 14 (ns / 125000), lastBoundary := t.now, frac := 0, len := 60000,
      jump := none, landing := none, rem := 0, frameStart := t.now, lastEdge := none, edgePrev := none, srcAt := t.now, badRun := 0, goodRun := 0,
      refOk := x.refOk || x.ls = .free })
    if t.clkSrc k = 0 then t.goFree k else t.acquire k
  let s := s.forAll (allFin 48) (fun t p => back t (.port p))
  let s := back s .ref
  let s := s.modCtl (fun x => { x with sleepTicks := 0, rcUsed := false })
  (s.cause 5 7).raise 5 2 (b2n rc) (min 65535 ((u + 999) / 1000))

/-! ### Meanings -/

/-- SOF_SRC_WRITE (R198). -/
def execSofSrcWrite (src : Source) (p : PortId) (v : Word) (s : State) : Result :=
  done (s.gate src (portPage p) 0x200 (fun t => t.discWrite (.port p) false v))

/-- SOF_RATIO_WRITE (R198). -/
def execSofRatioWrite (src : Source) (p : PortId) (v : Word) (s : State) : Result :=
  done (s.gate src (portPage p) 0x204 (fun t => t.discWrite (.port p) true v))

/-- SOF_TRIM_WRITE (R205). -/
def execSofTrimWrite (src : Source) (p : PortId) (v : Word) (s : State) : Result :=
  done (s.gate src (portPage p) 0x208 (fun t => t.sofTrim p v))

/-- REF_SRC_WRITE: REF_SRC, or REF_RATIO where `ratio` holds (R206, R207). -/
def execRefSrcWrite (src : Source) (ratio : Bool) (v : Word) (s : State) : Result :=
  done (s.gate src 5 (if ratio then 0x144 else 0x140) (fun t => t.discWrite .ref ratio v))

/-- SYNC_WRITE (R207). -/
def execSyncWrite (src : Source) (v : Word) (s : State) : Result :=
  done (s.gate src 5 0x15C (fun t => t.syncSet v))

/-- PHASE_COMPARISON: an edge of the clock's reference, stamped `ago` bit times before this moment, or REF's latest
boundary for a port on SRC 6; one that the detector takes is compared (R197, R199, log entry 14). FSYNC_IN's edges come
by FSYNC_IN_EDGE. -/
def execPhaseComparison (k : ClkId) (ago : Nat) (s : State) : Result :=
  done (if !s.timeRuns then s
    else match k with
      | .port p => s.refEdge k (if s.clkSrc (.port p) = 6 then s.refClk.lastBoundary else s.now - ago) 0
      | .ref => if s.clkSrc .ref = 6 then s else s.refEdge k (s.now - ago) 0)

/-- FREQ_PRESET (R202). -/
def execFreqPreset (k : ClkId) (s : State) : Result :=
  done (if s.timeRuns then s.freqPreset k (s.clk k).lastE else s)

/-- PHASE_SLEW_DONE (R202). -/
def execPhaseSlewDone (k : ClkId) (s : State) : Result := done (if s.timeRuns then s.phaseDone k else s)

/-- LOCK_ACQUIRED (R201). -/
def execLockAcquired (k : ClkId) (s : State) : Result := done (if s.timeRuns then s.lock k else s)

/-- LOCK_LOST (R201). -/
def execLockLost (k : ClkId) (s : State) : Result := done (if s.timeRuns then s.unlock k else s)

/-- REF_LOST (R200). -/
def execRefLost (k : ClkId) (s : State) : Result := done (if s.timeRuns then s.loseRef k else s)

/-- REF_RECOVERED (R200). -/
def execRefRecovered (k : ClkId) (s : State) : Result := done (if s.timeRuns then s.regainRef k else s)

/-- PPS_EDGE (R212). -/
def execPpsEdge (s : State) : Result := done (if s.timeRuns then s.pps else s)

/-- FSYNC_IN_EDGE (R208). -/
def execFsyncInEdge (wide : Bool) (ago : Nat) (s : State) : Result :=
  done (if s.timeRuns then s.fsyncEdge wide ago else s)

/-- DTIME_SET (R211). -/
def execDtimeSet (src : Source) (v : Word) (s : State) : Result := done (s.gate src 5 0x10C (fun t => t.dtimeLoad v))

/-- EST_CLR (R218). -/
def execEstClr (src : Source) (s : State) : Result := done (s.gate src 5 0x014 State.estClr)

/-- COUNTER_WINDOW_END (R126, R212). -/
def execCounterWindowEnd (s : State) : Result := done (if s.timeRuns then s.second else s)

end Sys2Proof.Machine
end

