-- ==== Sys2Proof/Machine/Port.lean ====
section
/-!
DEFINITION. Root ports (spec/05_root_ports.md): link states, attach, reset, suspend, resume, babble, disable,
charging roles, test modes, and the frame-clock boundary at a port.
-/

namespace Sys2Proof.Machine

open Sys2Proof

/-! ### Small queries -/

/-- The port state code (R163). -/
def pstateCode : PState → Nat
  | .powerOff => 0
  | .disconnected => 1
  | .resetting => 2
  | .enabled => 3
  | .suspended => 4
  | .resuming => 5
  | .disabledError => 6
  | .test => 7

/-- The port opcode of a port in SERVICE that has begun. -/
def State.portItem (s : State) (p : PortId) (o : Op) : Option Item :=
  s.wis.find? (fun it => it.port == p.val && it.op == o && it.inService && it.x.running)

/-- Ends the running port opcode of a port, if there is one. -/
def State.endPortOp (s : State) (p : PortId) (o : Op) (status detail : Nat) : State :=
  match s.portItem p o with
  | some it => s.complete it status detail 0
  | none => s

/-- Ends every item of a port but one, and but a PORT_POWER_REQ in SERVICE, whose end spec/07_husk_power_path.md R224
gives. -/
def State.endPort (s : State) (p : PortId) (keep : Option Nat) (status : Nat) (detail : Item → Nat) : State :=
  let sel (it : Item) : Bool :=
    it.port == p.val && !it.op.noFlow && some it.id != keep && !(it.op == .portPowerReq && it.inService)
  ((s.wis.filter sel).foldl (fun t it => t.endItem it status (detail it) false) s).requeue

/-- Counts in a byte of LINK_COUNTS: 0 CONNECT, 1 BABBLE, 2 CHIRP, 3 WAKE_IGN (R191). -/
def State.linkCount (s : State) (p : PortId) (i : Nat) : State := s.satF (at_ (portPage p) 0x11C) (8 * i) 8 1

/-- The fields a link operation leaves clear when the port changes state. -/
def Port.quiet (x : Port) : Port :=
  { x with recovering := false, suspPend := false, suspIdle := false, resetWait := false, chirp := .none,
           resetEnded := false, resumeEnded := false, remote := false, wakeSeen := false, cdpDrive := false,
           envCount := 0, discDet := false, kAt := none, kQual := false }

/-- The port sends SOFs (R194). -/
def Port.sends (x : Port) : Bool := x.st == .enabled && !x.suspIdle

/-! ### Power and attach (R164, R167-R169, R343) -/

/-- POWER_OFF is left at the later of power-good and the Pod ON (R164, spec/12_power_domains.md R343). -/
def State.portPower (s : State) (p : PortId) : State :=
  if s.ports[p].st = .powerOff ∧ s.ports[p].pgood ∧ s.domOn (podDom (podOf p)) then
    s.modPort p (fun x => { x.quiet with st := .disconnected, conn := false })
  else s

/-- Power-good of a port sets. -/
def State.portGood (s : State) (p : PortId) : State :=
  (s.modPort p (fun x => { x with pgood := true })).portPower p

/-- Ends the PORT_RESET of a port that is in SERVICE, begun or not. -/
def State.endReset (s : State) (p : PortId) (detail : Nat) : State :=
  match s.wis.find? (fun it => it.port == p.val && it.op == .portReset && it.inService) with
  | some it => s.complete it 0x0B detail 0
  | none => s

/-- An item of a port that is left for a reason other than reset ends (R173, R190); in RESETTING, DISCONNECTED and
DISABLED_ERROR the PORT_RESET in SERVICE does (R173, R178). -/
def State.leaveItems (s : State) (p : PortId) (detail : Nat) : State :=
  match s.ports[p].st with
  | .enabled => s.endPort p none 0x0B (fun _ => detail)
  | .suspended => s.endPort p none 0x0B (fun _ => detail)
  | .resuming => s.endPort p none 0x0B (fun _ => detail)
  | .resetting => s.endReset p detail
  | .disconnected => s.endReset p detail
  | .disabledError => s.endReset p detail
  | .powerOff => s
  | .test => s

/-- The port loses its device: contexts close, items end, DISCONNECT commits from CONN 1 (R164, R168, R173). -/
def State.portLose (s : State) (p : PortId) (power : Bool) : State :=
  let conn := s.ports[p].conn
  let s := (s.portCut p).closePort p
  let s := s.leaveItems p (if power then 0x02 else 0x01)
  let s := if s.ports[p].st = .test then s.setReg (at_ (portPage p) 0x110) 0 else s
  let s := s.modPort p (fun x =>
    { x.quiet with st := if power then .powerOff else .disconnected, conn := false })
  if conn then s.raise (portPage p) 2 (b2n power) 0 else s

/-- Power-good clears: OVERCURRENT first where a trip caused it (R164, R165). -/
def State.portDark (s : State) (p : PortId) (trip : Option Nat) : State :=
  let s := match trip with
    | some r => s.raise (portPage p) 5 0 r
    | none => s
  let s := s.modPort p (fun x => { x with pgood := false })
  if s.ports[p].st = .powerOff then s else s.portLose p true

/-- An attach is qualified (R167). -/
def State.attach (s : State) (p : PortId) : State :=
  let x := s.ports[p]
  if x.st ≠ .disconnected ∨ x.conn ∨ s.isDcp p then s
  else
    match x.line with
    | .j => ((s.modPort p (fun y => { y with conn := true, lowPull := false })).linkCount p 0).raise (portPage p) 1 0 1
    | .k => ((s.modPort p (fun y => { y with conn := true, lowPull := true })).linkCount p 0).raise (portPage p) 1 0 2
    | .se0 => s
    | .se1 => s

/-- The detector of R168 applies in the port's state. -/
def Port.detects (x : Port) : Bool :=
  match x.st with
  | .enabled => x.speed != 0 || x.suspIdle || decide (2 ≤ x.envCount)
  | .suspended => true
  | .disabledError => true
  | .disconnected => x.conn
  | .resetting => x.resetEnded && x.speed != 0
  | .resuming => x.resumeEnded
  | .powerOff => false
  | .test => false

/-- A detach is detected (R168). -/
def State.detach (s : State) (p : PortId) : State := if s.ports[p].detects then s.portLose p false else s

/-! ### Reset (R170-R173) -/

/-- The reset start point (R170, R179). -/
def State.resetBegin (s : State) (p : PortId) : State :=
  match s.portItem p .portReset with
  | none => s
  | some it =>
    let s := s.modPort p (fun x => { x.quiet with st := .resetting, wire := none, wireCtx := none })
    let s := s.endPort p (some it.id) 0x0F (fun x => if x.inService then x.detail 0 else 0)
    s.closePort p

/-- A port opcode starts at its Port Sequencer, if the port's state still accepts it (R164, R166): otherwise it ends
as the table says, or has not begun. -/
def State.atPort (s : State) (it : Item) (act : PortId → State → State) : State :=
  match portId? it.port with
  | none => s
  | some p =>
    match s.verdict p it.op.column with
    | .run => act p s
    | .ends st d => s.complete it st d 0
    | .wait => s.modX it.id (fun x => { x with running := false })

/-- PORT_RESET begins: the start point is the next boundary, or at once when no SOF is sent (R170). -/
def State.resetOp (s : State) (it : Item) : State :=
  s.atPort it (fun p s =>
    if s.ports[p].sends then s.modPort p (fun x => { x with resetWait := true }) else s.resetBegin p)

/-- The reset ends and the speed is decided (R171). -/
def State.resetDecide (s : State) (p : PortId) : State :=
  let x := s.ports[p]
  if x.st ≠ .resetting ∨ x.resetEnded then s
  else
    let slow := if x.lowPull then 2 else 1
    let failed := decide (x.chirp ≠ .none ∧ x.chirp ≠ .good)
    let s := s.modPort p (fun y => { y with
      resetEnded := true, speed := if x.chirp = .good then 0 else slow, chirp := if failed then .failed else y.chirp })
    if failed then (s.linkCount p 2).cause (portPage p) 4 else s

/-- The first SOF after a reset or a resume falls on a microframe boundary at high speed, else on a frame boundary. -/
def State.firstSof (s : State) (p : PortId) : Bool :=
  s.ports[p].speed == 0 || s.clks[p].frindex.toNat % 8 == 0

/-- The first SOF after a reset: ENABLED, RESET_DONE, and the PORT_RESET record (R171, R189). -/
def State.resetDone (s : State) (p : PortId) : State :=
  let x := s.ports[p]
  let s := s.modPort p (fun y => { y.quiet with st := .enabled, recovering := true })
  let s := s.raise (portPage p) 3 (if x.chirp = .failed then 1 else 0) x.speed
  s.endPortOp p .portReset 0 x.speed

/-! ### Suspend and resume (R174-R176) -/

/-- PORT_SUSPEND begins (R166, R174). -/
def State.suspendOp (s : State) (it : Item) : State :=
  s.atPort it (fun p s =>
    if s.ports[p].st = .suspended then s.complete it 0 0 0
    else
      let s := s.modPort p (fun x => { x with suspPend := true })
      s.endItems (fun x => x.port == p.val && x.op.isPeriodic && x.inService) 0x06 0x04 false)

/-- The drain is over: no item of the port but PORT_SUSPEND is in SERVICE (R174). -/
def State.drainDone (s : State) (p : PortId) : State :=
  if s.ports[p].suspPend && !s.wis.any (fun it => it.port == p.val && it.inService && !it.op.noFlow
      && it.op != .portSuspend) then
    s.modPort p (fun x => { x with suspIdle := true })
  else s

/-- 3.0 ms of idle bus: SUSPENDED (R174). -/
def State.suspended (s : State) (p : PortId) : State :=
  if s.ports[p].st = .enabled ∧ s.ports[p].suspPend ∧ s.ports[p].suspIdle then
    let s := s.modPort p (fun x => { x.quiet with st := .suspended })
    (s.raise (portPage p) 6 0 0).endPortOp p .portSuspend 0 0
  else s

/-- The drain has not finished in time (R174). -/
def State.suspendLate (s : State) (p : PortId) : State :=
  if s.ports[p].suspPend ∧ !s.ports[p].suspIdle then
    (s.modPort p (fun x => { x with suspPend := false })).endPortOp p .portSuspend 0x0E 0x04
  else s

/-- The port starts to drive resume K (R175). -/
def State.resumeStart (s : State) (p : PortId) (remote seen : Bool) : State :=
  s.modPort p (fun x => { x.quiet with st := .resuming, remote := remote, wakeSeen := seen })

/-- PORT_RESUME begins (R166, R175, R178): device K within the last 1 ms that had not qualified shows in WAKE_SEEN. -/
def State.resumeOp (s : State) (it : Item) : State :=
  s.atPort it (fun p s =>
    let x := s.ports[p]
    if x.st = .enabled then s.complete it 0 0 0
    else
      let seen := (x.line == .k && !x.kQual) || (match x.kAt with
        | some t => decide (s.now - t ≤ 1000 * usTicks)
        | none => false)
      s.resumeStart p false seen)

/-- The first SOF after a resume (R175). -/
def State.resumeDone (s : State) (p : PortId) : State :=
  let x := s.ports[p]
  let d := b2n x.wakeSeen + 2 * b2n x.remote
  let s := s.modPort p (fun y => { y.quiet with st := .enabled, recovering := true })
  (s.raise (portPage p) 7 d 0).endPortOp p .portResume 0 d

/-- Device K held for 100 µs (R176, R178). -/
def State.remoteWake (s : State) (p : PortId) : State :=
  let x := s.ports[p]
  match x.st with
  | .suspended =>
    if s.flag (at_ (portPage p) 0x14) 1 then (s.raise (portPage p) 8 0 0).resumeStart p true false
    else ((s.modPort p (fun y => { y with kQual := true })).linkCount p 3).cause (portPage p) 5
  | .resuming =>
    if !x.remote ∧ !x.resumeEnded then s.modPort p (fun y => { y with wakeSeen := true }) else s
  | _ => s

/-! ### Babble, disable, roles, tests (R180, R182, R186, R187) -/

/-- The babble cut-off; a reset that starts in this microframe wins (R178, R180). -/
def State.babble (s : State) (p : PortId) : State :=
  let x := s.ports[p]
  if x.st ≠ .enabled ∨ x.resetWait then s
  else
    let s := (s.portCut p).modPort p (fun y => { y.quiet with wire := none, wireCtx := none })
    let s := match x.wire with
      | some id => (match s.item? id with
        | some it => s.complete it 0x04 (it.detail 0x03) it.xferLen
        | none => s)
      | none => s
    let s := s.endPort p none 0x0B (fun _ => 0x03)
    let s := s.modPort p (fun y => { y with st := .disabledError })
    ((s.raise (portPage p) 9 0 s.clks[p].frindex.toNat).cause (portPage p) 3).linkCount p 1

/-- CTRL.DISABLE (R182). -/
def State.disable (s : State) (p : PortId) : State :=
  match s.ports[p].st with
  | .enabled =>
    let s := s.leaveItems p 0x03
    (s.modPort p (fun x => { x.quiet with st := .disconnected, conn := true })).raise (portPage p) 4 0 1
  | .suspended =>
    let s := s.leaveItems p 0x03
    (s.modPort p (fun x => { x.quiet with st := .disconnected, conn := true })).raise (portPage p) 4 0 1
  | .resuming =>
    let s := s.leaveItems p 0x03
    (s.modPort p (fun x => { x.quiet with st := .disconnected, conn := true })).raise (portPage p) 4 0 1
  | _ => s

/-- A port in POWER_OFF, or in DISCONNECTED with CONN 0. -/
def Port.vacant (x : Port) : Bool := x.st == .powerOff || (x.st == .disconnected && !x.conn)

/-- The Pod of a port is ENTERING: its blocks have accepted, and a write that would set a refusing condition is dropped
(spec/12_power_domains.md R347). -/
def State.podEntering (s : State) (p : PortId) : Bool := s.doms[podDom (podOf p)].st == .entering

/-- CHG.ROLE (R186). -/
def State.chgRole (s : State) (p : PortId) (v : Word) : State :=
  let r := bits v.toNat 0 2
  if !s.ports[p].vacant then s.busyWrite (portPage p) 0x10C 2 v
  else if r = 3 then s.cause (portPage p) 1
  else if s.podEntering p ∧ r = 1 ∧ s.ports[p].pgood then s
  else (s.setFld (at_ (portPage p) 0x10C) 0 2 r).modPort p (fun x => { x with cdpDrive := x.cdpDrive && r == 1 })

/-- TEST.MODE (R187). A test mode is not entered while the Pod is not ON: the write is dropped (spec/12_power_domains.md
R333, R347; DEDUCED, log entry 62). -/
def State.testMode (s : State) (p : PortId) (v : Word) : State :=
  let m := bits v.toNat 0 3
  let o := at_ (portPage p) 0x110
  let x := s.ports[p]
  let accepted := decide (x.st = .test) || (decide (x.st = .disconnected) && !s.isDcp p) || decide (x.st = .suspended)
  if 5 < m then (s.cause (portPage p) 1).causeIf (!accepted) (portPage p) 2
  else if m = 0 then
    if x.st = .test then
      (s.setFld o 0 3 0).modPort p (fun y => { y.quiet with st := .disconnected, conn := false })
    else s
  else if x.st = .test then
    (s.setFld o 0 3 m).modPort p (fun y => { y with speed := if m = 5 then 0 else y.speed, discDet := false })
  else if accepted then
    if !s.portOn p || !s.domOn domTIME then s else
    let s := s.setFld o 0 3 m
    let s := (s.endPort p none 0x0B (fun _ => 0x04)).closePort p
    (s.modPort p (fun y => { y.quiet with st := .test, speed := if m = 5 then 0 else y.speed })).raise
      (portPage p) 4 0 2
  else s.cause (portPage p) 2

/-- CNT_CLR of a PORT page (R191). -/
def State.portCntClr (s : State) (p : PortId) : State :=
  s.clearRegs [at_ (portPage p) 0x118, at_ (portPage p) 0x11C]

/-- The line of a port changes (R167, R178). -/
def State.lineChange (s : State) (p : PortId) (l : Line) : State :=
  s.modPort p (fun x => { x with
    line := l, kQual := x.kQual && (l == .k && x.line == .k || l != .k)
    kAt := if x.st = .suspended ∧ x.line = .k ∧ l ≠ .k ∧ !x.kQual then some s.now else x.kAt })

/-- How an LED_N pin stands: floating while its Pod is not powered (spec/01_device_organisation.md R55,
spec/12_power_domains.md R345), else released or asserted. -/
inductive LedPin where
  | floating
  | released
  | asserted
  deriving DecidableEq, Repr

/-- LED_Nn (R191, R345). A Pod that is ENTERING or EXITING drives no pin (DEDUCED, log entry 62). -/
def State.ledPin (s : State) (p : PortId) : LedPin :=
  let lit : Bool := match s.fld (at_ (portPage p) 0x14) 2 2 with
    | 0 => false
    | 1 => true
    | 2 => s.ports[p].st == .enabled
    | _ => s.ports[p].ledPulse
  if !s.domOn (podDom (podOf p)) then .floating else if lit then .asserted else .released

/-- LED_Nn asserted (R191). -/
def State.ledOn (s : State) (p : PortId) : Bool := s.ledPin p == .asserted

/-- How DPn and DMn stand (spec/01_device_organisation.md R55, spec/12_power_domains.md R345, R186): floating with the
Pod OFF, joined in the DCP role, held by the pull-downs in RET, and otherwise the PHY's. -/
inductive DataPins where
  | floating
  | joined
  | pullDowns
  | phy
  deriving DecidableEq, Repr

/-- DPn and DMn. -/
def State.dataPins (s : State) (p : PortId) : DataPins :=
  let d := s.doms[podDom (podOf p)]
  let kept := d.st = .on ∨ d.st = .ret ∨ d.st = .entering ∨ d.st = .exiting ∧ d.held
  if !kept then .floating
  else if s.isDcp p then .joined
  else if d.st = .on then .phy
  else .pullDowns

/-! ### The boundary of a port's frame clock (R192, R194) -/

/-- What the port sends at a boundary (R194). -/
def State.sofAt (s : State) (p : PortId) : SofOut :=
  let x := s.ports[p]
  let f := s.clks[p].frindex.toNat
  if x.sends then
    if x.speed = 0 then .sof (f / 8)
    else if f % 8 ≠ 0 then .none
    else if x.speed = 1 then .sof (f / 8)
    else .keepAlive
  else if x.st = .test ∧ s.fld (at_ (portPage p) 0x110) 0 3 = 5 then .sof (f / 8)
  else .none

/-- The envelope sample of the SOF just sent (R168, R187). -/
def State.envelope (s : State) (p : PortId) (high : Bool) : State :=
  s.modPort p (fun x =>
    match x.sofOut with
    | .sof _ =>
      if x.speed = 0 then
        { x with discDet := high, envCount := if x.st = .enabled ∧ high then x.envCount + 1 else 0 }
      else x
    | _ => x)

/-- A port meets a boundary of its frame clock. -/
def State.portBoundary (s : State) (p : PortId) (envelope : Bool) : State :=
  let s := s.modPort p (fun x => { x with cutPassed := false })
  let s := if s.ports[p].resetWait then s.resetBegin p else s
  let x := s.ports[p]
  let s := if x.st = .resetting ∧ x.resetEnded ∧ s.firstSof p then s.resetDone p
    else if x.st = .resuming ∧ x.resumeEnded ∧ s.firstSof p then s.resumeDone p
    else s
  let s := s.modPort p (fun y => { y with sofOut := s.sofAt p })
  (s.envelope p envelope).serviceBoundary p

/-- A boundary satisfies the Data Mover channels that wait for it (spec/10_data_mover.md R303). -/
def State.frameWaits (s : State) (p : PortId) : State :=
  let f := s.clks[p].frindex.toNat
  let hit (x : Dmch) : Bool :=
    match x.wait with
    | some (.frame q k) => x.st == .waiting && q == p && f % 2 ^ k == 0
    | _ => false
  { s with dmchs := s.dmchs.map (fun (x : Dmch) => { x with satisfied := x.satisfied || hit x }) }

/-- A boundary of any frame clock. -/
def State.boundaryAt (s : State) (k : ClkId) (envelope : Bool) : State :=
  let s := s.clkBoundary k
  match k with
  | .ref => s
  | .port p => (s.portBoundary p envelope).frameWaits p

/-! ### Meanings -/

/-- PORT_RESET (R170). -/
def execPortReset (id : Nat) (s : State) : Result := done (s.startOp id .portReset (fun it t => t.resetOp it))

/-- PORT_SUSPEND (R174). -/
def execPortSuspend (id : Nat) (s : State) : Result := done (s.startOp id .portSuspend (fun it t => t.suspendOp it))

/-- PORT_RESUME (R175). -/
def execPortResume (id : Nat) (s : State) : Result := done (s.startOp id .portResume (fun it t => t.resumeOp it))

/-- ATTACH_QUALIFIED (R167). -/
def execAttachQualified (p : PortId) (s : State) : Result := done (if !s.portLive p then s else s.attach p)

/-- DETACH_DETECTED (R168). -/
def execDetachDetected (p : PortId) (s : State) : Result := done (if !s.portLive p then s else s.detach p)

/-- RESET_START (R170). -/
def execResetStart (p : PortId) (s : State) : Result :=
  done (if !s.portLive p ∨ !s.ports[p].resetWait then s else s.resetBegin p)

/-- CHIRP_K_QUALIFIED (R171). -/
def execChirpKQualified (p : PortId) (s : State) : Result :=
  done (if !s.portLive p then s else s.modPort p (fun x =>
    if x.st = .resetting ∧ !x.resetEnded ∧ x.chirp = .none then { x with chirp := .seen } else x))

/-- CHIRP_K_END (R171). -/
def execChirpKEnd (p : PortId) (before7ms : Bool) (s : State) : Result :=
  done (if !s.portLive p then s else s.modPort p (fun x =>
    if x.st = .resetting ∧ !x.resetEnded ∧ x.chirp = .seen then
      { x with chirp := if before7ms then .pairs else .failed }
    else x))

/-- CHIRP_SEQUENCE_END (R171): at least three K-J pairs. -/
def execChirpSequenceEnd (p : PortId) (pairs : Nat) (s : State) : Result :=
  done (if !s.portLive p then s else s.modPort p (fun x =>
    if x.st = .resetting ∧ !x.resetEnded ∧ x.chirp = .pairs then
      { x with chirp := if 3 ≤ pairs then .good else .failed }
    else x))

/-- RESET_END (R171). -/
def execResetEnd (p : PortId) (s : State) : Result := done (if !s.portLive p then s else s.resetDecide p)

/-- RECOVERY_END (R172). -/
def execRecoveryEnd (p : PortId) (s : State) : Result :=
  done (if !s.portLive p then s else s.modPort p (fun x => { x with recovering := false }))

/-- SUSPEND_DRAIN_DONE (R174). -/
def execSuspendDrainDone (p : PortId) (s : State) : Result := done (if !s.portLive p then s else s.drainDone p)

/-- SUSPEND_IDLE_END (R174). -/
def execSuspendIdleEnd (p : PortId) (s : State) : Result := done (if !s.portLive p then s else s.suspended p)

/-- SUSPEND_TIMEOUT (R174). -/
def execSuspendTimeout (p : PortId) (s : State) : Result := done (if !s.portLive p then s else s.suspendLate p)

/-- RESUME_K_END (R175). -/
def execResumeKEnd (p : PortId) (s : State) : Result :=
  done (if !s.portLive p then s else s.modPort p (fun x => if x.st = .resuming then { x with resumeEnded := true } else x))

/-- REMOTE_WAKE (R176). -/
def execRemoteWake (p : PortId) (s : State) : Result := done (if !s.portLive p then s else s.remoteWake p)

/-- BABBLE_CUTOFF (R180). -/
def execBabbleCutoff (p : PortId) (s : State) : Result := done (if !s.portLive p then s else s.babble p)

/-- PORT_DISABLE (R182). -/
def execPortDisable (src : Source) (p : PortId) (s : State) : Result :=
  done (s.gate src (portPage p) 0x014 (fun t => t.disable p))

/-- PORT_CNT_CLR (R191). -/
def execPortCntClr (src : Source) (p : PortId) (s : State) : Result :=
  done (s.gate src (portPage p) 0x014 (fun t => t.portCntClr p))

/-- LED_PULSE_END (R191). -/
def execLedPulseEnd (p : PortId) (s : State) : Result :=
  done (if s.held then s else s.modPort p (fun x => { x with ledPulse := false }))

/-- CHG_ROLE_WRITE (R186). -/
def execChgRoleWrite (src : Source) (p : PortId) (v : Word) (s : State) : Result :=
  done (s.gate src (portPage p) 0x10C (fun t => t.chgRole p v))

/-- CDP_DPLUS_HIGH (R186): watched in DISCONNECTED with VBUS good. -/
def execCdpDplusHigh (p : PortId) (s : State) : Result :=
  done (if !s.portLive p then s else s.modPort p (fun x =>
    if x.st = .disconnected ∧ s.fld (at_ (portPage p) 0x10C) 0 2 = 1 then { x with cdpDrive := true } else x))

/-- CDP_DPLUS_LOW (R186). -/
def execCdpDplusLow (p : PortId) (s : State) : Result :=
  done (if s.held then s else s.modPort p (fun x => { x with cdpDrive := false }))

/-- TEST_MODE_WRITE (R187). -/
def execTestModeWrite (src : Source) (p : PortId) (v : Word) (s : State) : Result :=
  done (s.gate src (portPage p) 0x110 (fun t => t.testMode p v))

/-- LINE_STATE_CHANGE (R167). -/
def execLineStateChange (p : PortId) (l : Line) (s : State) : Result :=
  done (if s.held then s else s.lineChange p l)

/-- MICROFRAME_BOUNDARY (R192). -/
def execMicroframeBoundary (k : ClkId) (envelope : Bool) (s : State) : Result :=
  done (if s.timeRuns then s.boundaryAt k envelope else s)

end Sys2Proof.Machine
end

