-- ==== Sys2Proof/Machine/Domain.lean ====
section
/-!
DEFINITION. Power domains (spec/12_power_domains.md): requests, the entry handshake, wakes and the root PLL. The
return to ON is in Reset.lean.
-/

namespace Sys2Proof.Machine

open Sys2Proof

/-! ### Dependencies (R330, R332) -/

/-- The domains that must be ON while one is ON. -/
def needs (d : DomId) : List DomId :=
  if d = domSCHED then [domHOST, domEBR, domTIME] else if d = domDM then [domHOST] else []

/-- The lowest domain that needs this one and is ON or EXITING. -/
def State.depOn (s : State) (d : DomId) : Option DomId :=
  (allFin 20).find? (fun x => (needs x).contains d && (s.doms[x].st == .on || s.doms[x].st == .exiting))

/-- The Pod of a Pod domain. -/
def podOfDom (d : DomId) : Option PodId := if h : d.val - 8 < 12 then (if 8 ≤ d.val then some ⟨d.val - 8, h⟩ else none)
  else none

/-! ### The answers of the blocks (R334, R335) -/

/-- The answer to an ask. -/
inductive Ask where
  | accept
  | refuse (reason block : Nat)
  | delay (reason block : Nat)
  deriving DecidableEq, Repr

/-- A port is RESETTING, ENABLED, RESUMING or TEST. -/
def Port.active (x : Port) : Bool := x.st == .resetting || x.st == .enabled || x.st == .resuming || x.st == .test

/-- Refuses with a reason at the first unit of a list that meets a condition. -/
def firstOf {α : Type} (reason : Nat) (l : List α) (c : α → Bool) (page : α → Nat) : Option (Nat × Nat) :=
  match l.find? c with
  | some x => some (reason, page x)
  | none => none

/-- The first refusal of a domain's blocks in table order. -/
def State.refusal (s : State) (d : DomId) (off : Bool) (declines : Bool) : Option (Nat × Nat) :=
  match s.depOn d with
  | some x => some (0x02, 0x210 + x.val)
  | none =>
    if d = domHOST then
      if off then (if s.pci.inL2 then none else some (0x03, 0x200))
      else (if s.pci.d3hot && s.pci.inL1 then none else some (0x03, 0x200))
    else if d = domSCHED then
      (firstOf 0x05 (allFin 64) s.qpEn qpPage).or
        ((if s.wis.isEmpty && s.park.isEmpty then none else some (0x06, 0x050)).or
          ((if s.ctxs.any (fun c => c.typ == 1 || c.typ == 3) then some (0x07, 0x060) else none).or
            (firstOf 0x08 (allFin 32) (fun i => s.slices[i].st == .resetting || s.slices[i].st == .removing
              || !s.slices[i].drained) slicePage)))
    else if d = domTIME then
      (if s.role ≠ 0 then some (0x0B, 0x005) else none).or
        (firstOf 0x0C (allFin 48) (fun p => s.ports[p].active) portPage)
    else if d = domMC then
      if s.fw.upd ≠ .idle ∨ (s.fw.mc = .running ∧ declines) then some (0x0F, 0x201) else none
    else if d = domDM then
      firstOf 0x11 (allFin 32) (fun c => s.dmchs[c].st == .pending || s.dmchs[c].st == .running
        || s.dmchs[c].st == .waiting) dmchPage
    else if d = domCAP then
      firstOf 0x12 (allFin 4) (fun k => s.cfs[k].en || !s.cfs[k].words.isEmpty) cfPage
    else
      match podOfDom d with
      | none => none
      | some k =>
        let ports := portsOfPod k
        (firstOf 0x0C ports (fun p => s.ports[p].active) portPage).or
          ((firstOf 0x0D ports (fun p => s.fld (at_ (portPage p) 0x10C) 0 2 == 1 && s.ports[p].pgood) portPage).or
            (if off then firstOf 0x0E ports (fun p => s.husks[p].st != .off) portPage else none))

/-- A delay of a domain's blocks (R334). -/
def State.delaying (s : State) (d : DomId) : Option (Nat × Nat) :=
  if d = domHOST then
    (if s.posted.isEmpty && s.att.msgs.isEmpty then none else some (0x04, 0x200))
  else if d = domSCHED then
    (if s.ctxs.any (fun c => c.dirty && c.cached) then some (0x09, 0x060) else none)
  else if d = domEBR then (if s.ctl.scrubWb then some (0x0A, 0x070) else none)
  else if d = domMC then (if s.ctl.sclHeld || s.ctl.smbTxn then some (0x10, 0x201) else none)
  else none

/-- What the blocks of a domain answer. -/
def State.answer (s : State) (d : DomId) (off declines : Bool) : Ask :=
  match s.refusal d off declines with
  | some r => .refuse r.1 r.2
  | none =>
    match s.delaying d with
    | some r => .delay r.1 r.2
    | none => .accept

/-! ### Entries (R331-R333, R346, R347) -/

/-- Accounts an entry that failed (R346). A Pod that is ON again lets its ports with power-good leave POWER_OFF
(R343). -/
def State.failEntry (s : State) (d : DomId) (reason block : Nat) : State :=
  let back := decide (s.doms[d].st = .entering) && !s.doms[d].fromRet
  let s := s.modDom d (fun x => { x with
    phase := .none, st := if x.st = .entering then (if x.fromRet then .ret else .on) else x.st, thenOn := false,
    delay := none, fails := min 65535 (x.fails + 1), lastReason := reason, lastBlock := block })
  match podOfDom d with
  | some k => if back then s.forAll (portsOfPod k) State.portPower else s
  | none => s

/-- One ask of every block (R333). The ask of SCHED starts the write-back of dirty contexts (R334). Whether the
Imyon image declines is a free value (log entry 13). -/
def State.ask (s : State) (d : DomId) : State :=
  let f := s.fresh
  let s := if d = domMC then f.2 else s
  match s.answer d (s.doms[d].target == 2) (f.1.getLsbD 0) with
  | .refuse r b => (s.failEntry d r b).cause 3 1
  | .delay r b =>
    let s := s.modDom d (fun x => { x with phase := .ask, delay := some (r, b) })
    if d = domSCHED then { s with flushing := true } else s
  | .accept => s.modDom d (fun x =>
      { x with st := .entering, phase := .save, delay := none, fromRet := x.st == .ret, toOff := x.target == 2 })

/-- An entry in Ask or Save is aborted (R347). -/
def State.abortEntry (s : State) (d : DomId) (reason : Nat) : State := (s.failEntry d reason 0x202).cause 3 2

/-! ### The root PLL (R341) -/

/-- MC's clock is CLK_MC (spec/15_register_map.md R405). -/
def State.mcOnPll (s : State) : Bool := s.flag (at_ 2 0x014) 1

/-- MC runs on CLK_MC: while it is ON, and in an entry from ON until it is gated. -/
def State.mcRunsOnPll (s : State) : Bool :=
  let x := s.doms[domMC]
  s.mcOnPll && (x.st == .on || (x.st == .entering && !x.fromRet))

/-- A condition of R341 holds, or an on request waits for a link. -/
def State.pllNeeded (s : State) : Bool :=
  (allFin 48).any (fun n => s.husks[n].wait.any (fun w => w.1)) || (allFin 20).any (fun d => d != domAON && d != domMC &&
    (s.doms[d].st == .on || s.doms[d].st == .entering || s.doms[d].st == .exiting)) ||
  s.mcRunsOnPll || (allFin 48).any (fun n => s.husks[n].claim)

/-- ILIM of a channel in 10 mA. -/
def State.ilim (s : State) (n : PortId) : Nat := s.fld (at_ (huskPage n) 0x100) 0 8

/-- The claim a channel holds, in 10 mA (spec/07_husk_power_path.md R223). -/
def State.claimOf (s : State) (n : PortId) : Nat := if s.husks[n].claim then s.ilim n else 0

/-- The claim sum of a list of channels. -/
def State.claimSum (s : State) (l : List PortId) : Nat := (l.map s.claimOf).sum

/-- PWR_PRIO of a port (spec/05_root_ports.md R191). -/
def State.pwrPrio (s : State) (n : PortId) : Nat := s.fld (at_ (portPage n) 0x114) 0 2

/-- Frames to a power die stop: it keeps its copies of PWR_PRIO and PKG.SHED (spec/08_regions_feeds_budgets.md
R262), and the control die the region's claims as last reported (R252). -/
def State.framesStop (s : State) (m : RegId) : State :=
  if s.regions[m].linkUp then
    s.modRegion m (fun x => { x with
      linkUp := false, prio := (portsOfRegion m).map s.pwrPrio, shedTime := some (s.fld (at_ 6 0x110) 0 10),
      shedGap := some (s.fld (at_ 6 0x110) 16 7),
      pkgClaim := s.claimSum (portsOfRegion m) })
  else s

/-- A park frame reaches a power die: one that runs and whose link is not lost (R341). -/
def State.parkRegion (s : State) (m : RegId) : State :=
  if !s.regions[m].running || s.regions[m].lost then s
  else (s.framesStop m).modRegion m (fun x => { x with parked := true })

/-- The PLL stops where nothing needs it, after a park frame to each power die; it starts where something does. -/
def State.pllCheck (s : State) : State :=
  if s.held then s
  else if s.pllNeeded then
    if s.ctl.pllStopped then s.modCtl (fun x => { x with pllStopped := false, pllWaits := true }) else s
  else if s.ctl.pllStopped then s
  else
    (s.modCtl (fun x => { x with pllStopped := true, pllLock := false, pllWaits := false })).forAll (allFin 4) State.parkRegion

/-! ### Bringing a domain ON (R332, R338, R347) -/

/-- One domain is asked ON; an entry in Ask or Save is aborted for the reason given. -/
def State.upOne (s : State) (d : DomId) (reason : Nat) : State :=
  let s := match s.doms[d].phase with
    | .ask => s.abortEntry d reason
    | .save => s.abortEntry d reason
    | .gate => s.modDom d (fun x => { x with thenOn := true })
    | .none => s
  s.modDom d (fun x =>
    match x.st with
    | .ret => { x with target := 0, st := .exiting, held := true }
    | .off => { x with target := 0, st := .exiting, held := false }
    | _ => { x with target := 0 })

/-- A domain, and every domain it needs, is asked ON. -/
def State.bringUp (s : State) (d : DomId) (reason : Nat) : State :=
  (((needs d).foldl (fun t x => t.upOne x reason) s).upOne d reason).pllCheck

/-- A Husk on request asks its Pod ON (R343). -/
def State.podUp (s : State) (k : PodId) : State :=
  if s.domOn (podDom k) ∧ s.doms[podDom k].phase = .none then s else s.bringUp (podDom k) 0x15

/-- PWRDOM.REQ[d] (R331, R332, R347). -/
def State.domReq (s : State) (d : DomId) (v : Word) : State :=
  let t := bits v.toNat 0 2
  let x := s.doms[d]
  if t = 3 then s.cause 3 0
  else if d = domAON then
    if t = 0 then s
    else (s.modDom d (fun y => { y with lastReason := 0x01, lastBlock := 0x203 })).cause 3 6
  else if t = 0 then
    if x.st = .exiting ∨ (x.st = .on ∧ x.phase = .none) then s.modDom d (fun y => { y with target := 0 })
    else s.bringUp d 0x15
  else
    match x.st, t with
    | .on, _ => (s.modDom d (fun y => { y with target := t })).ask d
    | .ret, 1 => if x.phase = .none then s.modDom d (fun y => { y with target := 1 }) else s
    | .ret, _ => (s.modDom d (fun y => { y with target := 2 })).ask d
    | .off, 2 => s
    | .off, _ => s.cause 3 6
    | .entering, _ => s.cause 3 6
    | .exiting, _ => s.cause 3 6

/-- The blocks that delay are asked again (R333). -/
def State.reask (s : State) (d : DomId) : State := if s.doms[d].phase = .ask then s.ask d else s

/-- A delay lasted 1 ms (R333). -/
def State.delayExpired (s : State) (d : DomId) : State :=
  match s.doms[d].phase, s.doms[d].delay with
  | .ask, some r => (s.failEntry d 0x13 r.2).cause 3 1
  | _, _ => s

/-- The save is complete (R333). -/
def State.saveDone (s : State) (d : DomId) : State :=
  if s.doms[d].phase = .save then s.modDom d (fun x => { x with phase := .gate, hasSaved := true }) else s

/-- Gating is complete (R333, R347). -/
def State.gateDone (s : State) (d : DomId) : State :=
  let x := s.doms[d]
  if x.phase ≠ .gate then s
  else
    let s := s.modDom d (fun y => { y with
      phase := .none, st := if x.toOff then .off else .ret, entries := (y.entries + 1) % 65536, thenOn := false })
    if x.thenOn then s.bringUp d 0x15 else s.pllCheck

/-! ### Wakes (R339, R340, R347) -/

/-- A wake event of a domain: what it does, and whether it woke the domain rather than aborted an entry. -/
def State.wakeDom (s : State) (d : DomId) : State × Bool :=
  let x := s.doms[d]
  match x.phase with
  | .ask => if x.st = .ret then (s.bringUp d 0x14, true) else ((s.abortEntry d 0x14).pllCheck, false)
  | .save => if x.fromRet then (s.bringUp d 0x14, true) else ((s.abortEntry d 0x14).pllCheck, false)
  | .gate => (s.bringUp d 0x14, true)
  | .none => if x.st = .ret ∨ x.st = .off then (s.bringUp d 0x14, true) else (s, false)

/-- Records a wake (R348, WAKE_LAST). -/
def State.wakeLast (s : State) (kind : Nat) (d : DomId) (port : Nat) : State :=
  s.setReg (at_ 3 0x284) (BitVec.ofNat 32 (kind + d.val * 2 ^ 8 + port * 2 ^ 16))

/-- A match of the SMBus address begins a transaction (R334). The matcher acts while MC is not ON, EXITING included:
it holds SCL and asks MC and the domains of WAKE_SET ON; a match in Ask or Save aborts the entry (R339, R347). -/
def State.smbWake (s : State) : State :=
  let exits := s.doms[domMC].st == .exiting
  let s := s.modCtl (fun x => { x with smbTxn := true })
  let r := s.wakeDom domMC
  if !r.2 && !exits then r.1
  else
    let set := (s.reg (at_ 3 0x280)).toNat
    let s := ((allFin 20).filter (fun d => bitAt set d.val)).foldl (fun t d => t.bringUp d 0x15) r.1
    ((s.modCtl (fun x => { x with sclHeld := true })).wakeLast 1 domMC 0).cause 3 4

/-- The line of a port stands as one that wakes its Pod: a SUSPENDED port's has left J; a DISCONNECTED one's has left
SE0 with CONN 0, or shows SE0 with CONN 1 (R340). -/
def Port.wakes (x : Port) : Bool :=
  match x.st with
  | .suspended => x.line != .j
  | .disconnected => if x.conn then x.line == .se0 else x.line != .se0
  | _ => false

/-- A line change of 2.5 us on a watched port of a Pod in RET (R340). -/
def State.podWake (s : State) (p : PortId) : State :=
  let d := podDom (podOf p)
  if !s.ports[p].wakes ∨ s.doms[d].st = .off ∨ s.doms[d].st = .exiting then s
  else
    let r := s.wakeDom d
    if !r.2 then r.1 else ((r.1.bringUp domTIME 0x15).wakeLast 2 d p.val).cause 3 3

/-- The link leaves L1 (R340). -/
def State.l1Exit (s : State) : State :=
  let s := s.modPci (fun x => { x with inL1 := false })
  if s.doms[domHOST].st = .off ∨ s.doms[domHOST].st = .exiting then s
  else
    let r := s.wakeDom domHOST
    if !r.2 then r.1 else (r.1.wakeLast 3 domHOST 0).cause 3 3

/-- CNT_CLR of PWRDOM (R348). -/
def State.pwrdomCntClr (s : State) : State :=
  { s with doms := s.doms.map (fun (x : Dom) => { x with fails := 0, entries := 0 }) }

/-! ### Meanings -/

/-- DOMAIN_REQUEST (R331). -/
def execDomainRequest (src : Source) (d : DomId) (v : Word) (s : State) : Result :=
  done (s.gate src 3 (0x100 + 4 * d.val) (fun t => t.domReq d v))

/-- DOMAIN_REASK (R333). -/
def execDomainReask (d : DomId) (s : State) : Result := done (if s.held then s else s.reask d)

/-- DOMAIN_DELAY_EXPIRED (R333). -/
def execDomainDelayExpired (d : DomId) (s : State) : Result := done (if s.held then s else s.delayExpired d)

/-- DOMAIN_SAVE_DONE (R333). -/
def execDomainSaveDone (d : DomId) (s : State) : Result := done (if s.held then s else s.saveDone d)

/-- DOMAIN_GATE_DONE (R333). -/
def execDomainGateDone (d : DomId) (s : State) : Result := done (if s.held then s else s.gateDone d)

/-- SMBUS_WAKE (R339). -/
def execSmbusWake (s : State) : Result := done (if s.held then s else s.smbWake)

/-- POD_SELF_WAKE (R340). -/
def execPodSelfWake (p : PortId) (s : State) : Result := done (if s.held then s else s.podWake p)

/-- HOST_L1_EXIT (R340). -/
def execHostL1Exit (s : State) : Result := done (if s.held then s else s.l1Exit)

/-- PWRDOM_CNT_CLR (R348). -/
def execPwrdomCntClr (src : Source) (s : State) : Result := done (s.gate src 3 0x014 State.pwrdomCntClr)

end Sys2Proof.Machine
end

