-- ==== Sys2Proof/Machine/Power.lean ====
section
/-!
DEFINITION. What the control die knows of the power dies: region links and reports (spec/01_device_organisation.md
R20, R21), claims, budgets and admission (spec/08_regions_feeds_budgets.md R256-R259).
-/

namespace Sys2Proof.Machine

open Sys2Proof

/-! ### Claims and admission (R256, R257) -/

/-- Offset of a Pod's registers (R267). -/
def podAt (k : PodId) (o : Nat) : Nat := at_ (podPage k) (0x100 + 0x80 * (k.val % 2) + o)

/-- The budget of a level in 10 mA. -/
def State.budget (s : State) : Level → Nat
  | .pod k => s.fld (podAt k 0) 0 10
  | .region m => s.fld (at_ (regionPage m) 0x104) 0 11
  | .package => s.fld (at_ 6 0x100) 0 13
  | .system => s.fld (at_ 6 0x104) 0 13

/-- Frames run between the control die and the power die of a region. -/
def State.framesRun (s : State) (m : RegId) : Bool := s.regions[m].linkUp && !s.regions[m].lost && !s.held

/-- PKG.CLAIM: the claims as the power dies report them, a region's last share while its frames are stopped (R252); 0
until the sum is rebuilt after a hot reset (R259). -/
def State.pkgClaim (s : State) : Nat :=
  if s.ctl.rebuild then 0
  else ((allFin 4).map (fun (m : RegId) =>
    if s.framesRun m then s.claimSum (portsOfRegion m) else s.regions[m].pkgClaim)).sum

/-- The claim sum of a level (R256). -/
def State.levelClaim (s : State) : Level → Nat
  | .pod k => s.claimSum (portsOfPod k)
  | .region m => s.claimSum (portsOfRegion m)
  | .package => s.pkgClaim
  | .system => s.pkgClaim

/-- The first level, 1 to 4, that a claim of a channel would exceed; 0 where it fits (R257). While PKG.CLAIM is
rebuilt every request fails at level 3 (R259). -/
def State.admitLevel (s : State) (n : PortId) (new : Nat) : Nat :=
  let isOver (l : Level) : Bool :=
    decide (s.budget l < s.levelClaim l - s.claimOf n + new)
  if s.ctl.rebuild then 3
  else if isOver (.pod (podOf n)) then 1
  else if isOver (.region (regionOf n)) then 2
  else if isOver .package then 3
  else if isOver .system then 4
  else 0

/-- Records a refused admission (R257). -/
def State.admitRefused (s : State) (n : PortId) (level new : Nat) : State :=
  ((s.setReg (at_ 6 0x11C) (BitVec.ofNat 32 (n.val + level * 2 ^ 8 + new % 2 ^ 12 * 2 ^ 16))).cause 6 1).cause
    (huskPage n) 2

/-! ### Region links -/

/-- The region is handled as while its link is lost: no frames, or a write-back to come (R21, R252). From the release of a
hot reset to the first frame it is so too: setting writes and APPLY are refused with LINK_DOWN before the link is declared
lost (spec/07_husk_power_path.md R247; DESIGN CHOICE, log entry 72). -/
def State.linkDown (s : State) (m : RegId) : Bool :=
  !s.regions[m].linkUp || s.regions[m].lost || s.regions[m].writeBack || !s.regions[m].running

/-- Ends the on requests that PORT_POWER_REQ items have made of a port's power die (spec/07_husk_power_path.md
R224); one that still waits for the link goes on waiting (R21). -/
def State.endPowerOn (s : State) (n : PortId) (status detail : Nat) : State :=
  let sel (it : Item) : Bool :=
    it.port == n.val && it.op == .portPowerReq && it.inService && it.x.running && bitAt (eLength it.entry) 0
      && !s.husks[n].wait.any (fun e => e.2 == some it.id)
  (s.wis.filter sel).foldl (fun t it => t.complete it status detail 0) s

/-- The control die acts on one report of a power die (spec/07_husk_power_path.md R236, R239-R246, R265). TRIP_DTIME takes
DTIME at this moment, of a report held back too (DESIGN CHOICE, log entry 70). -/
def State.applyReport (s : State) (m : RegId) (r : Report) : State :=
  match r with
  | .trip n reason latched =>
    let h := huskPage n
    let s := (s.setReg (at_ h 0x150) (s.dtime.setWidth 32)).setReg (at_ h 0x154) ((s.dtime >>> 32).setWidth 32)
    let s := (s.satF (at_ h 0x14C) 0 16 1).cause h 4
    let s := (s.portDark n (some reason)).endPowerOn n 0x0B 0x02
    if latched then ((s.satF (at_ h 0x14C) 24 8 1).raise h 2 0 reason).cause h 6 else s
  | .pgood n => (s.portGood n).endPowerOn n 0 0
  | .powerLost n => (s.portDark n none).endPowerOn n 0x0B 0x02
  | .replug n old new =>
    ((s.satF (at_ (huskPage n) 0x14C) 16 8 1).raise (huskPage n) 3 0 (new + 4 * old)).cause (huskPage n) 7
  | .tempWarn n model t => (s.raise (huskPage n) 1 (b2n model) (toField 16 t)).cause (huskPage n) 5
  | .dieHot n => (s.raise (huskPage n) 4 0 0).cause (huskPage n) 10
  | .feedSwitch b d =>
    ((s.satF (at_ (regionPage m) 0x118) 0 8 1).raise (regionPage m) 1 d (b2n b)).cause (regionPage m) 2
  | .feedBad b d => (s.raise (regionPage m) 2 d (b2n b)).cause (regionPage m) 3
  | .feedLost => (s.raise (regionPage m) 3 0 0).cause (regionPage m) 4
  | .shed n d =>
    let s := ((s.satF (at_ (regionPage m) 0x118) 8 8 1).raise (regionPage m) 4 d n.val).cause (regionPage m) 5
    let odd := (podOf n).val % 2
    if d = 1 then s.cause (podPage (podOf n)) (1 + odd)
    else if d = 4 ∨ d = 5 then s.cause 6 2
    else s
  | .podTherm k => s.cause (podPage k) (3 + k.val % 2)
  | .noWriteBack => s.cause (regionPage m) 4

/-- A power die tells the control die: at once over a working link, else when frames resume (R21). -/
def State.tell (s : State) (m : RegId) (r : Report) : State :=
  if s.regions[m].linkUp && !s.regions[m].lost && !s.held && s.ctl.pllLock then s.applyReport m r
  else s.modRegion m (fun x => { x with reports := x.reports ++ [r] })

/-- Trips and feed changes, which REGION_LINK counts (R21, R265). -/
def Report.counted (r : Report) : Bool :=
  match r with
  | .trip _ _ _ => true
  | .feedSwitch _ _ => true
  | .feedBad _ _ => true
  | .feedLost => true
  | _ => false

end Sys2Proof.Machine
end

