-- ==== Sys2Proof/Machine/Husk.lean ====
section
/-!
DEFINITION. Husk channels (spec/07_husk_power_path.md): requests, the ramp, power-good, the breaker, trips, retries
and the replug probe.
-/

namespace Sys2Proof.Machine

open Sys2Proof

/-! ### Small queries -/

/-- The channel state code (R220). -/
def hstateCode : HState → Nat
  | .off => 0
  | .ramp => 1
  | .settle => 2
  | .on => 3
  | .retryWait => 4
  | .latched => 5

/-- RETRY.COUNT and UNLIMITED (R238). -/
def State.retryCount (s : State) (n : PortId) : Nat := s.fld (at_ (huskPage n) 0x114) 8 4
def State.unlimited (s : State) (n : PortId) : Bool := s.flag (at_ (huskPage n) 0x114) 12

/-- FAST in mA. -/
def State.fastMA (s : State) (n : PortId) : Nat := 100 * s.fld (at_ (huskPage n) 0x104) 0 7

/-- PLIM in mW. -/
def State.plimMW (s : State) (n : PortId) : Nat := 100 * s.fld (at_ (huskPage n) 0x108) 0 6

/-- The current in mA to which a channel in RAMP regulates, at a V_DS in mV: min(PLIM ÷ V_DS, 0.8 × FAST); the ceiling
alone while the gate rises (R225, R227). -/
def State.rampLimit (s : State) (n : PortId) (vds : Nat) : Nat :=
  let ceiling := 8 * s.fastMA n / 10
  if s.husks[n].v95 || s.husks[n].released || vds == 0 then ceiling else min (1000 * s.plimMW n / vds) ceiling

/-- The temperature of the thermal model in nanokelvin above 0 °C: T_die and both poles (R235). -/
def State.modelTemp (s : State) (n : PortId) : Int :=
  10 ^ 9 * s.regions[regionOf n].junction + ((s.husks[n].pole1 + s.husks[n].pole2 : Nat) : Int)

/-- The diode, or the model, stands at or above a temperature in °C. -/
def State.tempAt (s : State) (n : PortId) (model : Bool) (limit : Int) : Bool :=
  if model then decide (10 ^ 9 * limit ≤ s.modelTemp n) else decide (limit ≤ s.husks[n].diode)

/-- TWARN and TTRIP in °C. -/
def State.twarn (s : State) (n : PortId) : Int := (s.fld (at_ (huskPage n) 0x118) 0 8 : Nat)
def State.ttrip (s : State) (n : PortId) : Int := (s.fld (at_ (huskPage n) 0x11C) 0 8 : Nat)

/-- The power die does not run, or handles its channels as while the link is lost: lost or parked, or before the
write-back (spec/01_device_organisation.md R21, spec/08_regions_feeds_budgets.md R252, spec/12_power_domains.md R341). -/
def State.linkGone (s : State) (m : RegId) : Bool :=
  s.regions[m].lost || s.regions[m].parked || s.regions[m].writeBack || !s.regions[m].running

/-- A condition of R237 holds an attempt. -/
def State.attemptHeld (s : State) (n : PortId) : Bool :=
  s.tempAt n false (s.twarn n) || s.tempAt n true (s.twarn n) || s.linkGone (regionOf n) || s.regions[regionOf n].hot

/-- In RAMP, SETTLE or ON. -/
def Husk.driven (x : Husk) : Bool := x.st == .ramp || x.st == .settle || x.st == .on

/-- In RETRY_WAIT or LATCHED. -/
def Husk.waiting (x : Husk) : Bool := x.st == .retryWait || x.st == .latched

/-- The internal path discharges the output: in OFF, and in RETRY_WAIT and LATCHED until the probe source is connected
(R240). -/
def Husk.discharges (x : Husk) : Bool := x.st == .off || (x.waiting && !x.probeOn)

/-! ### The curve (R231, R232) -/

/-- Neighbours rise in threshold and fall in time. -/
def curveFalls : List CurvePt → Bool
  | a :: b :: t => decide (a.thresh < b.thresh) && decide (b.time < a.time) && curveFalls (b :: t)
  | _ => true

/-- The validity condition of R232; ILIM in 10 mA, FAST in mA. -/
def curveOk (ilim fast : Nat) (c : List CurvePt) : Bool :=
  curveFalls c &&
    (match c.head? with
     | some a => decide (ilim < a.thresh)
     | none => true) &&
    (match c.getLast? with
     | some z => decide (10 * z.thresh < fast)
     | none => true)

/-- The pending curve (R232). -/
def State.pendingCurve (s : State) (n : PortId) : List CurvePt :=
  (List.range 8).map (fun k =>
    let o := at_ (huskPage n) (0x120 + 4 * k)
    ⟨s.fld o 0 10, s.fld o 16 8⟩)

/-- An accumulator has reached 10^(code ÷ 16) µs; accumulators count eighths of a microsecond. -/
def reached (acc code : Nat) : Bool := decide (8 ^ 16 * 10 ^ code ≤ acc ^ 16)

/-- The reason of a breaker trip: the highest curve point that has reached its time, then LONG (R231, R236). -/
def breakerReason (x : Husk) : Option Nat :=
  let pts := (List.range x.curve.length).filter (fun k =>
    reached (x.acc.getD (k + 1) 0) (x.curve.getD k ⟨0, 0⟩).time)
  match pts.getLast? with
  | some k => some (0x10 + k)
  | none => if 80000000 ≤ x.acc.getD 0 0 then some 0x05 else none

/-- One 1 µs sample of every accumulator (R231). -/
def sampleAcc (ilim mA : Nat) (x : Husk) : List Nat :=
  let step (acc thresh : Nat) : Nat := if 10 * thresh < mA then acc + 8 else acc - 1
  step (x.acc.getD 0 0) ilim ::
    (List.range x.curve.length).map (fun k => step (x.acc.getD (k + 1) 0) (x.curve.getD k ⟨0, 0⟩).thresh)

/-! ### Attempts (R237) -/

/-- The ramp starts; a retry takes one from RETRIES_LEFT (R238). -/
def State.startRamp (s : State) (n : PortId) (retry : Bool) : State :=
  let u := s.unlimited n
  s.modHusk n (fun x => { x with
    st := .ramp, pendOwn := false, pendItem := false, pendRetry := false, isRetry := retry, rampAt := s.now, v95 := false,
    released := false, full := false, probeOn := false, mA := 0, vds := 0,
    retriesLeft := if retry && !u then x.retriesLeft - 1 else x.retriesLeft })

/-- What begins an attempt: the register page or a replug, a PORT_POWER_REQ, or the end of an off time (R237). -/
inductive AttemptBy where
  | own
  | item
  | retry
  deriving DecidableEq, Repr

/-- An attempt begins, or is held with PEND_ON (R237). -/
def State.attempt (s : State) (n : PortId) (k : AttemptBy) : State :=
  if s.attemptHeld n then
    s.modHusk n (fun x => match k with
      | .own => { x with pendOwn := true }
      | .item => { x with pendItem := true }
      | .retry => { x with pendRetry := true })
  else s.startRamp n (k = .retry)

/-- A held attempt starts once every condition has cleared; it is a retry where nothing but an off time began it. -/
def State.startHeld (s : State) (n : PortId) : State :=
  let x := s.husks[n]
  if x.pendOn && !s.attemptHeld n then s.startRamp n (!x.pendOwn && !x.pendItem) else s

/-- RETRIES_LEFT is restored (R238). -/
def State.restore (s : State) (n : PortId) : State :=
  let c := s.retryCount n
  s.modHusk n (fun x => { x with retriesLeft := c })

/-! ### Off (R240, R241) -/

/-- A channel goes OFF: the claim is released, which may stop the root PLL (spec/12_power_domains.md R341), and a port
it powered goes dark. -/
def State.huskDark (s : State) (n : PortId) (reason : Nat) : State :=
  let s := s.modHusk n (fun x => { x with
    st := .off, claim := false, pendOwn := false, pendItem := false, pendRetry := false, offReason := reason, pgn := false,
    full := false, v95 := false, released := false, probeOn := false, isRetry := false })
  (s.tell (regionOf n) (.powerLost n)).pllCheck

/-- An off request. In OFF it withdraws an attempt that is held, and changes nothing else. -/
def State.offReq (s : State) (n : PortId) : State :=
  if s.husks[n].st ≠ .off then s.huskDark n 0
  else if s.husks[n].pendOn then
    let s := s.modHusk n (fun x => { x with pendOwn := false, pendItem := false, pendRetry := false, claim := false })
    (s.endPowerOn n 0x0B 0x02).pllCheck
  else s

/-! ### On (R222) -/

/-- Ends the item of a request, if it has one. -/
def State.answerItem (s : State) (it : Option Item) (status detail : Nat) : State :=
  match it with
  | some x => s.complete x status detail 0
  | none => s

/-- An on request in the order of R222. The Pod is asked ON with an admitted request (spec/12_power_domains.md
R343). -/
def State.onReq (s : State) (n : PortId) (it : Option Item) : State :=
  let k : AttemptBy := if it.isSome then .item else .own
  if s.ilim n = 0 then (s.cause (huskPage n) 3).answerItem it 0x0B 0x02
  else
    match s.husks[n].st with
    | .ramp => s
    | .settle => s
    | .on => s.answerItem it 0 0
    | .retryWait => (s.restore n).attempt n k
    | .latched => (s.restore n).attempt n k
    | .off =>
      let lv := s.admitLevel n (s.ilim n)
      if lv ≠ 0 then (s.admitRefused n lv (s.ilim n)).answerItem it 0x0B 0x02
      else
        let s := (s.modHusk n (fun x => { x with claim := true })).restore n
        (s.podUp (podOf n)).pllCheck.attempt n k

/-- An on request of the register page or of an item: refused in ACORN_ONLY (spec/13_firmware_and_settings.md R355);
waits while the link is lost (R21). -/
def State.askOn (s : State) (n : PortId) (it : Option Item) : State :=
  if s.acorn then (s.cause 4 4).answerItem it 0x0B 0x02
  else if s.linkDown (regionOf n) then
    (s.modHusk n (fun x => { x with wait := x.wait ++ [(true, it.map (fun y => y.id))] })).pllCheck
  else s.onReq n it

/-- An off request of the register page or of an item. -/
def State.askOff (s : State) (n : PortId) (it : Option Item) : State :=
  if s.linkDown (regionOf n) then
    s.modHusk n (fun x => { x with wait := x.wait ++ [(false, it.map (fun y => y.id))] })
  else (s.offReq n).answerItem it 0 0

/-- One waiting request is taken up; a request whose item has gone is dropped. -/
def State.takeWait (s : State) (n : PortId) (w : Bool × Option Nat) : State :=
  match w.2 with
  | none => if w.1 then s.askOn n none else s.askOff n none
  | some id =>
    match s.item? id with
    | some it => if w.1 then s.askOn n (some it) else s.askOff n (some it)
    | none => s

/-- The link of a region is back: waiting requests run, held attempts start; a PLL that only a refused request had
needed stops (spec/12_power_domains.md R341). -/
def State.linkBack (s : State) (m : RegId) : State :=
  if s.linkDown m then s
  else
    (s.forAll (portsOfRegion m) (fun t n =>
      let w := t.husks[n].wait
      let t := t.modHusk n (fun x => { x with wait := [] })
      (w.foldl (fun u e => u.takeWait n e) t).startHeld n)).pllCheck

/-! ### Trips (R236-R238) -/

/-- A trip: FET off, RETRY_WAIT or LATCHED, reported. t_off is in bit times. -/
def State.trip (s : State) (n : PortId) (reason : Nat) : State :=
  let x := s.husks[n]
  if !x.driven then s
  else
    let latched := decide (x.retriesLeft = 0) && !s.unlimited n
    let delay := s.fld (at_ (huskPage n) 0x114) 0 7 * 100000 * usTicks
    let off := if x.isRetry then max delay (49 * (s.now - x.rampAt)) else delay
    let s := s.modHusk n (fun y => { y with
      st := if latched then .latched else .retryWait, lastTrip := reason, pgn := false, full := false, v95 := false,
      released := false, probeOn := false, lastClass := 0, baseline := false, tOff := off, mA := 0, vds := 0,
      tripAt := some s.now })
    s.tell (regionOf n) (.trip n reason latched)

/-- SETTLE is entered: PG_DLY starts (R227, R230). -/
def State.enterSettle (s : State) (n : PortId) : State :=
  s.modHusk n (fun x => { x with st := .settle, settleAt := s.now })

/-- V_OUT reaches 95 % in RAMP (R227). -/
def State.vout95 (s : State) (n : PortId) : State :=
  if s.husks[n].st ≠ .ramp then s
  else
    let s := s.modHusk n (fun x => { x with v95 := true })
    if s.husks[n].full then s.enterSettle n else s

/-- The gate is fully enhanced: the accumulators start from 0 (R226, R227). -/
def State.enhanced (s : State) (n : PortId) : State :=
  let x := s.husks[n]
  if x.st ≠ .ramp ∨ x.full ∨ (!x.v95 ∧ !x.released) then s
  else
    let s := s.modHusk n (fun y => { y with full := true, acc := [0, 0, 0, 0, 0, 0, 0, 0, 0] })
    if x.v95 then s.enterSettle n else s

/-- TRAMP is over (R226). -/
def State.tramp (s : State) (n : PortId) (v : VoutClass) : State :=
  if s.husks[n].st ≠ .ramp then s
  else
    match v with
    | .below90 => s.trip n 0x02
    | .from90to95 => s.modHusk n (fun x => { x with released := true })
    | .above95 => s

/-- 1 ms after TRAMP a released channel is still below 95 % (R226). -/
def State.rampRelease (s : State) (n : PortId) : State :=
  if s.husks[n].st = .ramp ∧ s.husks[n].released ∧ !s.husks[n].v95 then s.trip n 0x02 else s

/-- PG_DLY is over: ON, PG_N and PGOOD (R230). -/
def State.powerUp (s : State) (n : PortId) : State :=
  if s.husks[n].st ≠ .settle then s
  else (s.modHusk n (fun x => { x with st := .on, pgn := true })).tell (regionOf n) (.pgood n)

/-- The breaker is judged: it runs while the gate is fully enhanced (R231). -/
def State.judge (s : State) (n : PortId) : State :=
  if !(s.husks[n].driven && s.husks[n].full) then s
  else
    match breakerReason s.husks[n] with
    | some r => s.trip n r
    | none => s

/-- One sample of 1 us of a channel: the mean current its load would take, and V_DS. In RAMP the fold-back limits the
current, and the breaker is not evaluated (R225, R227); with the gate fully enhanced the breaker judges it (R231,
R233). The thermal model runs on both (R235). -/
def State.sample (s : State) (n : PortId) (mA vds : Nat) : State :=
  if !s.husks[n].driven then s
  else if !s.husks[n].full then
    let lim := s.rampLimit n vds
    s.modHusk n (fun x => { x with mA := min mA lim, vds := vds })
  else
    let i := s.ilim n
    (s.modHusk n (fun x => { x with acc := sampleAcc i mA x, mA := mA, vds := vds })).judge n

/-- A temperature of the diode is sampled; the model's is computed (R235). -/
def State.tempSample (s : State) (n : PortId) (model : Bool) (t : Int) : State :=
  if model then s else s.modHusk n (fun x => { x with diode := t })

/-- The warning of R235: the diode, or the model, has reached TWARN. -/
def State.warn (s : State) (n : PortId) (model : Bool) (t : Int) : State :=
  let s := s.tempSample n model t
  let shown := if model then s.modelTemp n / 10 ^ 9 else t
  if !s.tempAt n model (s.twarn n) then s
  else (s.modHusk n (fun x => { x with hot := true })).tell (regionOf n) (.tempWarn n model shown)

/-- The warning clears when both temperatures are 10 °C or more below TWARN (R235). -/
def State.warnClear (s : State) (n : PortId) : State :=
  let t := s.twarn n - 10
  if decide (s.husks[n].diode ≤ t) && decide (s.modelTemp n ≤ 10 ^ 9 * t) then
    (s.modHusk n (fun x => { x with hot := false })).startHeld n
  else s

/-- The diode, or the model, reaches TTRIP (R235). -/
def State.tempTrip (s : State) (n : PortId) (model : Bool) (t : Int) : State :=
  let s := s.tempSample n model t
  if s.tempAt n model (s.ttrip n) then s.trip n (if model then 0x04 else 0x03) else s

/-! ### The replug probe (R239) -/

/-- The class of a settled reading: 1 OPEN, 2 LOAD, 3 SHORT; none for a reading that is not settled. -/
def probeClass (r : ProbeReading) : Option Nat :=
  if !(decide (r.change < 20) || r.high) then none
  else if r.mV < 500 then some 3
  else if r.mV < 3000 ∨ 100 ≤ r.uA ∨ r.step then some 2
  else some 1

/-- A confirmed change of class is a replug. -/
def isReplug (old new : Nat) : Bool := (old == 3 && new == 1) || (old == 1 && new == 2) || (old == 3 && new == 2)

/-- A class is confirmed. -/
def State.confirm (s : State) (n : PortId) (c : Nat) : State :=
  let x := s.husks[n]
  let s := s.modHusk n (fun y => { y with baseline := true, probe := c })
  if x.baseline && isReplug x.probe c then
    (((s.restore n).tell (regionOf n) (.replug n x.probe c)).modHusk n (fun y => { y with pendRetry := false })).attempt
      n .own
  else s

/-- A probe interval ends. -/
def State.probe (s : State) (n : PortId) (r : ProbeReading) : State :=
  let x := s.husks[n]
  if !(x.waiting && x.probeOn) then s
  else
    match probeClass r with
    | none => s
    | some c =>
      let s := s.modHusk n (fun y => { y with lastClass := c })
      if x.lastClass = c ∨ (c = 2 ∧ r.step) then s.confirm n c else s

/-! ### Settings (R223, R232, R247) -/

/-- A setting write: refused while the link is lost or before the write-back. -/
def State.setting (s : State) (n : PortId) (act : State → State) : State :=
  if s.linkDown (regionOf n) then s.cause (huskPage n) 8 else act s

/-- HUSK[n].ILIM. -/
def State.setIlim (s : State) (n : PortId) (v : Word) : State :=
  let i := bits v.toNat 0 8
  let x := s.husks[n]
  if 210 < i then s.cause (huskPage n) 0
  else if x.claim ∧ i = 0 then s.cause (huskPage n) 9
  else if !curveOk i (s.fastMA n) x.curve then s.cause (huskPage n) 1
  else
    let lv := if x.claim ∧ s.ilim n < i then s.admitLevel n i else 0
    if lv ≠ 0 then s.admitRefused n lv i else s.setFld (at_ (huskPage n) 0x100) 0 8 i

/-- HUSK[n].FAST. -/
def State.setFast (s : State) (n : PortId) (v : Word) : State :=
  let f := bits v.toNat 0 7
  if f < 30 ∨ 80 < f then s.cause (huskPage n) 0
  else if !curveOk (s.ilim n) (100 * f) s.husks[n].curve then s.cause (huskPage n) 1
  else s.setFld (at_ (huskPage n) 0x104) 0 7 f

/-- TWARN (0x118) or TTRIP (0x11C): TWARN stays at most TTRIP − 5 °C (R235). -/
def State.setTemp (s : State) (n : PortId) (o : Nat) (v : Word) : State :=
  let t := s.plainWrite (huskPage n) o (2 ^ 32 - 1) v
  if t.fld (at_ (huskPage n) 0x118) 0 8 + 5 ≤ t.fld (at_ (huskPage n) 0x11C) 0 8 then t else s.cause (huskPage n) 0

/-- CTRL.APPLY (R232). -/
def State.applyCurve (s : State) (n : PortId) : State :=
  let c := s.pendingCurve n
  if curveOk (s.ilim n) (s.fastMA n) c then s.modHusk n (fun x => { x with curve := c, curvePend := false })
  else s.cause (huskPage n) 1

/-- A CURVEk write changes the pending copy only, where a field of it is accepted (spec/00_scope.md R13). -/
def State.setCurve (s : State) (n : PortId) (o : Nat) (v : Word) : State :=
  let taken := (fieldsAt (huskPage n) o).any (fun f =>
    decide (f.min ≤ bits v.toNat f.lo f.len) && decide (bits v.toNat f.lo f.len ≤ f.max))
  (s.plainWrite (huskPage n) o (2 ^ 32 - 1) v).modHusk n (fun x => { x with curvePend := x.curvePend || taken })

/-- CNT_CLR of a HUSK page (R247). -/
def State.huskCntClr (s : State) (n : PortId) : State :=
  (s.clearRegs [at_ (huskPage n) 0x14C]).setFld (at_ (huskPage n) 0x140) 16 16 0

/-! ### PORT_POWER_REQ (R224, spec/09_slices.md R275) -/

/-- PORT_POWER_REQ begins. -/
def State.powerOp (s : State) (it : Item) : State :=
  match portId? it.port with
  | none => s
  | some n =>
    let on := bitAt (eLength it.entry) 0
    if !it.x.powerOk then s.complete it 0x0A 0x01 0
    else if on then s.askOn n (some it)
    else s.askOff n (some it)

/-- Another PORT_POWER_REQ that asks for power waits for a port's held attempt. -/
def State.otherAsks (s : State) (n : PortId) (id : Nat) : Bool :=
  s.wis.any (fun it => it.id != id && it.port == n.val && it.op == .portPowerReq && it.inService && it.x.running
    && bitAt (eLength it.entry) 0 && !s.husks[n].wait.any (fun e => e.2 == some it.id))

/-- A request that has not started is withdrawn: its waiting entry, or its share in the held attempt; what else asked
for the attempt goes on asking (R224, R245). -/
def State.withdraw (s : State) (n : PortId) (id : Nat) : State :=
  let x := s.husks[n]
  let w := x.wait.filter (fun e => e.2 != some id)
  if w.length ≠ x.wait.length then (s.modHusk n (fun y => { y with wait := w })).pllCheck
  else if x.pendItem && !s.otherAsks n id then
    (s.modHusk n (fun y => { y with pendItem := false, claim := y.claim && (y.st != .off || y.pendOwn) })).pllCheck
  else s

/-- The request of a PORT_POWER_REQ in SERVICE has not started (R224). -/
def State.notStarted (s : State) (n : PortId) (it : Item) : Bool :=
  it.op == .portPowerReq && it.inService && it.x.running &&
    ((s.husks[n].pendItem && bitAt (eLength it.entry) 0) || s.husks[n].wait.any (fun e => e.2 == some it.id))

/-- A request that did not start within its second (R224). -/
def State.powerLate (s : State) (id : Nat) : State :=
  match s.item? id with
  | none => s
  | some it =>
    match portId? it.port with
    | none => s
    | some n => if s.notStarted n it then (s.withdraw n id).complete it 0x0E 0x05 0 else s

/-- The requests of a slice's PORT_POWER_REQ items that have not started are withdrawn with them (R245). -/
def State.withdrawOf (s : State) (i : SliceId) : State :=
  (s.wis.filter (fun it => it.owner == some i)).foldl (fun t it =>
    match portId? it.port with
    | none => t
    | some n => if t.notStarted n it then t.withdraw n it.id else t) s

/-! ### Meanings -/

/-- PORT_POWER_REQ (R224). -/
def execPortPowerReq (id : Nat) (s : State) : Result := done (s.startOp id .portPowerReq (fun it t => t.powerOp it))

/-- POWER_REQ_TIMEOUT (R224). -/
def execPowerReqTimeout (id : Nat) (s : State) : Result := done (if s.held then s else s.powerLate id)

/-- HUSK_ON (R222). -/
def execHuskOn (src : Source) (n : PortId) (s : State) : Result :=
  done (s.gate src (huskPage n) 0x014 (fun t => t.askOn n none))

/-- HUSK_OFF (R240). -/
def execHuskOff (src : Source) (n : PortId) (s : State) : Result :=
  done (s.gate src (huskPage n) 0x014 (fun t => t.askOff n none))

/-- HUSK_APPLY (R232). -/
def execHuskApply (src : Source) (n : PortId) (s : State) : Result :=
  done (s.gate src (huskPage n) 0x014 (fun t => t.setting n (fun u => u.applyCurve n)))

/-- HUSK_CNT_CLR (R247). -/
def execHuskCntClr (src : Source) (n : PortId) (s : State) : Result :=
  done (s.gate src (huskPage n) 0x014 (fun t => t.huskCntClr n))

/-- ILIM_WRITE (R223). -/
def execIlimWrite (src : Source) (n : PortId) (v : Word) (s : State) : Result :=
  done (s.gate src (huskPage n) 0x100 (fun t => t.setting n (fun u => u.setIlim n v)))

/-- FAST_WRITE (R232). -/
def execFastWrite (src : Source) (n : PortId) (v : Word) (s : State) : Result :=
  done (s.gate src (huskPage n) 0x104 (fun t => t.setting n (fun u => u.setFast n v)))

/-- ATTEMPT_START (R237). -/
def execAttemptStart (n : PortId) (s : State) : Result := done (s.startHeld n)

/-- RAMP_VOUT_95 (R227). -/
def execRampVout95 (n : PortId) (s : State) : Result := done (s.vout95 n)

/-- GATE_ENHANCED (R227). -/
def execGateEnhanced (n : PortId) (s : State) : Result := done (s.enhanced n)

/-- TRAMP_EXPIRY (R226). -/
def execTrampExpiry (n : PortId) (vout : VoutClass) (s : State) : Result := done (s.tramp n vout)

/-- RAMP_RELEASE_EXPIRY (R226). -/
def execRampReleaseExpiry (n : PortId) (s : State) : Result := done (s.rampRelease n)

/-- SETTLE_DIP: PG_DLY restarts (R221). -/
def execSettleDip (n : PortId) (s : State) : Result :=
  done (if s.husks[n].st = .settle then s.enterSettle n else s)

/-- PG_DLY_EXPIRY (R230). -/
def execPgDlyExpiry (n : PortId) (s : State) : Result := done (s.powerUp n)

/-- PG_TIMEOUT (R230). -/
def execPgTimeout (n : PortId) (s : State) : Result :=
  done (if s.husks[n].st = .settle then s.trip n 0x06 else s)

/-- BREAKER_TRIP (R231). -/
def execBreakerTrip (n : PortId) (s : State) : Result := done (s.judge n)

/-- BREAKER_SAMPLE (R231). -/
def execBreakerSample (n : PortId) (r : FetSample) (s : State) : Result := done (s.sample n r.mA r.vds)

/-- FAST_TRIP (R234). -/
def execFastTrip (n : PortId) (s : State) : Result := done (s.trip n 0x01)

/-- TEMP_TRIP (R235). -/
def execTempTrip (n : PortId) (r : TempSample) (s : State) : Result := done (s.tempTrip n r.model r.temp)

/-- TEMP_WARN (R235). -/
def execTempWarn (n : PortId) (model : Bool) (temp : Int) (s : State) : Result := done (s.warn n model temp)

/-- TEMP_WARN_CLEAR (R235). -/
def execTempWarnClear (n : PortId) (s : State) : Result := done (s.warnClear n)

/-- RETRY_OFF_END (R237). -/
def execRetryOffEnd (n : PortId) (s : State) : Result :=
  done (if s.husks[n].st = .retryWait then s.attempt n .retry else s)

/-- ON_HOLD_10S (R238). -/
def execOnHold10s (n : PortId) (s : State) : Result :=
  done (if s.husks[n].st = .on then (s.restore n).modHusk n (fun x => { x with isRetry := false }) else s)

/-- PROBE_CONNECT (R239). -/
def execProbeConnect (n : PortId) (s : State) : Result :=
  done (s.modHusk n (fun x => if x.waiting then { x with probeOn := true } else x))

/-- PROBE_READING (R239). -/
def execProbeReading (n : PortId) (r : ProbeReading) (s : State) : Result := done (s.probe n r)

/-- PROBE_ATTACH_STEP (R239). -/
def execProbeAttachStep (n : PortId) (s : State) : Result :=
  done (if s.husks[n].waiting && s.husks[n].probeOn then
    (s.modHusk n (fun x => { x with lastClass := 2 })).confirm n 2 else s)

end Sys2Proof.Machine
end

