-- ==== Sys2Proof/Machine/Region.lean ====
section
/-!
DEFINITION. Regions (spec/08_regions_feeds_budgets.md): feeds and the selector, the loss and return of a power die
and of its link, budgets, measurements and shedding.
-/

namespace Sys2Proof.Machine

open Sys2Proof

/-! ### The feed selector (R249-R253) -/

/-- A feed is good. -/
def Region.good (x : Region) (f : Bool) : Bool := if f then x.bGood else x.aGood

/-- Records whether a feed is good; a good one is not below 4.00 V. -/
def Region.setGood (x : Region) (f g : Bool) : Region :=
  if f then { x with bGood := g, bLow := x.bLow && !g } else { x with aGood := g, aLow := x.aLow && !g }

/-- A feed is below 4.00 V (R264). -/
def Region.low (x : Region) (f : Bool) : Bool := if f then x.bLow else x.aLow

/-- A feed stops being good (R249). -/
def Region.feedFalls (x : Region) (f : FeedFall) : Region :=
  let x := x.setGood f.feed false
  if f.feed then { x with bLow := f.below4 } else { x with aLow := f.below4 }

/-- Opens the path and starts the dead time of a switch (R251). -/
def Region.startSwitch (x : Region) (f : Bool) (detail : Nat) : Region :=
  { x with closed := false, switching := some (f, detail), plan := none, planRs := x.planRs && detail == 4 }

/-- The feed selector closes the path of a feed: the first connection after a restart is no switch (R441). -/
def State.closeFeed (s : State) (m : RegId) (f : Bool) (detail : Nat) : State :=
  let first := !s.regions[m].everConnected
  let s := s.modRegion m (fun x => { x with
    sel := f, closed := true, everConnected := true, switching := none, fault := none, planRs := false,
    lastSwitch := if first then x.lastSwitch else some s.now })
  if first then s else s.tell m (.feedSwitch f detail)

/-- FEED.UV of a region in mV. -/
def State.feedUv (s : State) (m : RegId) : Nat := 10 * s.fld (at_ (regionPage m) 0x100) 16 9

/-- A feed becomes good (R249, R251, R441). A connected feed in undervoltage is switched away from only while it is
still below FEED.UV; `connMv` is its voltage. -/
def State.feedIsGood (s : State) (m : RegId) (f : Bool) (connMv : Nat) : State :=
  if !s.regions[m].running then s
  else
    let s := s.modRegion m (fun x => x.setGood f true)
    let x := s.regions[m]
    if x.switching.isSome then s
    else if !x.closed then s.closeFeed m f (x.fault.getD 1)
    else if f = x.sel then s.modRegion m (fun y => { y with fault := none })
    else
      match x.fault with
      | some d =>
        if connMv < s.feedUv m then s.modRegion m (fun y => y.startSwitch f d)
        else s.modRegion m (fun y => { y with fault := none })
      | none => s

/-- The DETAIL of a fault (R250). -/
def faultDetail : FeedFault → Nat
  | .under => 1
  | .reverse => 2
  | .over => 3

/-- The connected feed is faulted (R251). -/
def State.feedFaulted (s : State) (m : RegId) (k : FeedFault) : State :=
  if !s.regions[m].running ∨ !s.regions[m].closed then s
  else
    let x := s.regions[m].setGood s.regions[m].sel false
    let d := faultDetail k
    if x.good (!x.sel) then s.modRegion m (fun _ => x.startSwitch (!x.sel) d)
    else
      (s.modRegion m (fun _ => { x with closed := x.closed && k == .under, fault := some d })).tell m (.feedBad x.sel d)

/-- The dead time is over: the switch completes if the other feed is good, or still above 4.00 V (R251, R264). Otherwise
the path of the old feed closes again if that one is good, and else the region runs on hold-up capacitance as R251 lays
down for want of a good feed (DESIGN CHOICE, log entry 24). -/
def State.deadTimeOver (s : State) (m : RegId) : State :=
  match s.regions[m].switching with
  | some (f, d) =>
    if !s.regions[m].low f then s.closeFeed m f d
    else if s.regions[m].good (!f) then s.closeFeed m (!f) d
    else s.modRegion m (fun x => { x with switching := none, fault := some d, planRs := false })
  | none => s

/-- Bit times in 10 ms. -/
def tenMs : Nat := 10000 * usTicks

/-- No planned switch or revert starts: a switch runs, or one ended less than 10 ms ago (R253). -/
def State.feedBusy (s : State) (m : RegId) : Bool :=
  let x := s.regions[m]
  x.switching.isSome ||
    (match x.lastSwitch with
     | some t => decide (s.now < t + tenMs)
     | none => false)

/-- A planned switch starts, or is refused (R253). -/
def State.startPlanned (s : State) (m : RegId) (f : Bool) : State :=
  let x := s.regions[m]
  if x.closed ∧ x.sel = f then s.modRegion m (fun y => { y with plan := none, planRs := false })
  else if x.good f ∧ x.closed then s.modRegion m (fun y => y.startSwitch f 4)
  else (s.modRegion m (fun y => { y with plan := none, planRs := false })).cause (regionPage m) 1

/-- A planned switch is asked for; within 10 ms of a switch it waits (R253, R264, log entry 24). -/
def State.askPlanned (s : State) (m : RegId) (f : Bool) : State :=
  if s.regions[m].good f && s.feedBusy m then s.modRegion m (fun x => { x with plan := some f })
  else s.startPlanned m f

/-- CTRL.SWITCH: a planned switch to the feed that is not connected; the field reads 1 until it is over (R253,
spec/00_scope.md R11). During a dead time, with no feed connected, it asks for the one that the running switch goes to
(DESIGN CHOICE, log entry 72). -/
def State.askSwitch (s : State) (m : RegId) : State :=
  (s.modRegion m (fun x => { x with planRs := true })).askPlanned m (!s.regions[m].sel)

/-- A waiting planned switch starts once it may. -/
def State.planDue (s : State) (m : RegId) : State :=
  match s.regions[m].plan with
  | some f => if s.feedBusy m then s else s.startPlanned m f
  | none => s

/-- PRIMARY has been good for 1 s (R253). -/
def State.revert (s : State) (m : RegId) : State :=
  let x := s.regions[m]
  let primary := s.flag (at_ (regionPage m) 0x100) 0
  if x.running && x.closed && s.flag (at_ (regionPage m) 0x100) 1 && x.sel != primary && x.good primary
      && !s.feedBusy m then
    s.modRegion m (fun y => y.startSwitch primary 5)
  else s

/-- A setting of a REGION page: refused while the link is lost or before the write-back (R266). -/
def State.regionSetting (s : State) (m : RegId) (act : State → State) : State :=
  if s.linkDown m then s.cause (regionPage m) 8 else act s

/-- REGION[m].FEED (R253). -/
def State.setFeed (s : State) (m : RegId) (v : Word) : State :=
  let o := at_ (regionPage m) 0x100
  let old := s.flag o 0
  let s := s.plainWrite (regionPage m) 0x100 (2 ^ 32 - 1) v
  let new := s.flag o 0
  if new = old ∨ (s.regions[m].closed ∧ s.regions[m].sel = new) then s else s.askPlanned m new

/-- CNT_CLR of a REGION page (R266). -/
def State.regionClr (s : State) (m : RegId) : State :=
  (s.clearRegs [at_ (regionPage m) 0x118]).setFld (at_ (regionPage m) 0x10C) 16 16 0

/-! ### The settings of a power die (R252) -/

/-- The registers a power die holds for its region: Husk settings, FEED, budgets and TLIMIT. -/
def dieSettings (m : RegId) : List Nat :=
  (portsOfRegion m).flatMap (fun n =>
      [0x100, 0x104, 0x108, 0x10C, 0x110, 0x114, 0x118, 0x11C].map (fun o => at_ (huskPage n) o)) ++
    [at_ (regionPage m) 0x100, at_ (regionPage m) 0x104] ++
    ((allFin 12).filter (fun k => k.val / 3 = m.val)).flatMap (fun k => [podAt k 0, podAt k 4])

/-- Every setting the die holds takes its Reset value. -/
def State.resetDie (s : State) (m : RegId) : State :=
  let l := dieSettings m
  (s.resetRegs (fun o => l.contains o)).forAll (portsOfRegion m) (fun t n =>
    t.modHusk n (fun x => { x with curve := resetCurve }))

/-- The levels a power die judges are forgotten with it. -/
def State.dropSheds (s : State) (m : RegId) : State :=
  { s with gaps := s.gaps.filter (fun g => shedRegion g.1 != some m),
           overRuns := s.overRuns.filter (fun g => shedRegion g.1 != some m) }

/-- Both feeds are lost: FEED_LOST, then the power die resets (R251, R252). A control die whose copy of the settings a
reset of its own has taken, and no frame has brought back (R54), has none: the region comes back at their Reset values, and
the die reports that it had no write-back. LAST_TRIP, RETRIES_LEFT, PROBE, HOT, the counts and times of trips and the
thermal poles stay as they are (R241, R252; DESIGN CHOICE, log entry 72). -/
def State.loseFeeds (s : State) (m : RegId) : State :=
  if !s.regions[m].running ∨ !s.regions[m].everConnected then s
  else
    let s := s.tell m .feedLost
    let l := dieSettings m
    let back := s.regions[m].copied
    let s := if !back then s.modRegion m (fun x =>
        { x with reports := if x.reports.contains .noWriteBack then x.reports else x.reports ++ [.noWriteBack] })
      else if s.regions[m].writeBack then s else s.modRegion m (fun x =>
      { x with copy := l.map (fun o => (o, s.reg o)), copyCurve := (portsOfRegion m).map (fun n => s.husks[n].curve) })
    let s := s.forAll (portsOfRegion m) (fun t n => t.huskDark n 3)
    let s := ((s.framesStop m).resetDie m).dropSheds m
    s.modRegion m (fun x => { x with
      running := false, sel := false, closed := false, aGood := false, bGood := false, switching := none,
      fault := none, plan := none, planRs := false, everConnected := false, prio := [], shedTime := none,
      shedGap := none, writeBack := back, noWriteBack := true })

/-- The power die runs again (R441). -/
def State.dieRestart (s : State) (m : RegId) : State :=
  s.modRegion m (fun x => if x.running then x else { x with running := true })

/-- The control die's copy is written back (R252). -/
def State.wroteBack (s : State) (m : RegId) : State :=
  let x := s.regions[m]
  if !(x.writeBack && x.running && x.linkUp) || s.held then s
  else
    let s := x.copy.foldl (fun t c => t.setReg c.1 c.2) s
    let s := s.forAll ((portsOfRegion m).zip x.copyCurve) (fun t c => t.modHusk c.1 (fun y => { y with curve := c.2 }))
    let s := s.modRegion m (fun y => { y with writeBack := false, noWriteBack := false, copy := [], copyCurve := [] })
    s.linkBack m

/-- The reset frame after power-on reset (spec/01_device_organisation.md R439): every channel OFF, every setting at
its Reset value, no copies of PWR_PRIO and SHED; a selector that has feed B connected, or is switching to it, switches
to a good feed A. The FEED_SWITCH of that switch carries DETAIL 5: the rule names none (DESIGN CHOICE, log entry
44). -/
def State.resetFrame (s : State) (m : RegId) : State :=
  if !s.regions[m].running then s
  else
    let s := s.forAll (portsOfRegion m) (fun t n => if t.husks[n].st = .off then t else t.huskDark n 0)
    let s := s.forAll (portsOfRegion m) (fun t n => t.modHusk n (fun x => { Husk.init with
      hot := x.hot, pole1 := x.pole1, pole2 := x.pole2, heatSum := x.heatSum, heatCnt := x.heatCnt, diode := x.diode }))
    let s := (s.resetDie m).dropSheds m
    s.modRegion m (fun x =>
      let y : Region :=
        { x with writeBack := false, noWriteBack := false, copy := [], copyCurve := [], reports := [], plan := none,
                 planRs := false, prio := [], shedTime := none, shedGap := none }
      let toA := y.closed && !y.sel || (match y.switching with
        | some (f, _) => !f
        | none => false)
      if y.aGood && !toA then y.startSwitch false 5 else y)

/-! ### Region links (spec/01_device_organisation.md R20, R21) -/

/-- A frame is received. A bad one counts (spec/14_attention_and_errors.md R386); a good one brings the link back:
reports in order, REGION_LINK, then what waited. -/
def State.linkFrame (s : State) (m : RegId) (ok : Bool) : State :=
  let x := s.regions[m]
  if s.held ∨ !s.ctl.pllLock ∨ !x.running then s
  else if !ok then (s.satF (at_ 0 0x124) (8 * m.val) 8 1).cause 0 6
  else if x.linkUp then s
  else
    let count := (x.reports.filter Report.counted).length
    let s := s.modRegion m (fun y => { y with
      linkUp := true, lost := false, parked := false, reports := [], copied := true })
    let s := x.reports.foldl (fun t r => t.applyReport m r) s
    let s := if x.lost && !x.parked then (s.raise (regionPage m) 5 0 count).cause (regionPage m) 6 else s
    s.linkBack m

/-- The power die has had no valid frame for 100 µs (R21). -/
def State.linkLost (s : State) (m : RegId) : State :=
  if s.regions[m].lost ∨ !s.regions[m].running then s
  else
    let s := (s.framesStop m).modRegion m (fun x => { x with lost := true })
    if s.regions[m].parked then s else s.satF (at_ (regionPage m) 0x118) 16 8 1

/-! ### Die temperature (spec/01_device_organisation.md R26) -/

/-- A power die reaches 170 °C: its channels go OFF and DIE_HOT commits for each (spec/07_husk_power_path.md R241). One
that is OFF already keeps its OFF_REASON: R221 moves any but OFF (DESIGN CHOICE, log entry 70). -/
def State.dieIsHot (s : State) (m : RegId) : State :=
  (s.modRegion m (fun x => { x with hot := true })).forAll (portsOfRegion m) (fun t n =>
    let t := if t.husks[n].st = .off ∧ !t.husks[n].pendOn then t else t.huskDark n 2
    t.tell m (.dieHot n))

/-- A power die has cooled: held attempts start. -/
def State.dieCooled (s : State) (m : RegId) : State :=
  (s.modRegion m (fun x => { x with hot := false })).forAll (portsOfRegion m) (fun t n => t.startHeld n)

/-- THERM_WARN, once for each crossing (R263). -/
def State.dieWarn (s : State) (die : Fin 5) (t : Int) : State :=
  let limit : Int := (s.fld (at_ 6 0x114) 0 8 : Nat)
  let s' := (s.raise 6 6 die.val (toField 16 t)).cause 6 3
  if t < limit then s
  else if h : die.val = 0 then
    if s.ctl.warned then s else s'.modCtl (fun x => { x with warned := true })
  else
    let m : RegId := ⟨die.val - 1, by have := die.isLt; omega⟩
    if s.regions[m].warned ∨ s.linkDown m then s
    else (s'.modRegion m (fun x => { x with warned := true })).cause (regionPage m) 7

/-! ### Shedding (R260-R262) -/

/-- All levels, the narrowest first (R264). -/
def shedLevels : List ShedLevel :=
  (allFin 12).flatMap (fun k => [.pod k, .podT k]) ++ (allFin 4).map .region ++ [.package, .system, .therm]

/-- DETAIL of SHED (R265). -/
def shedDetail : ShedLevel → Nat
  | .pod _ => 1
  | .podT _ => 2
  | .region _ => 3
  | .package => 4
  | .system => 5
  | .therm => 6

/-- A thermal level. -/
def shedThermal : ShedLevel → Bool
  | .podT _ => true
  | .therm => true
  | _ => false

/-- The moment at which a level's gap started, while it waits to be judged again (R261). -/
def State.gapAt (s : State) (l : ShedLevel) : Option Nat := (s.gaps.find? (fun g => g.1 = l)).map (fun g => g.2)

/-- The level has shed, or was ready when another did, and is judged again at the gap. -/
def State.gap (s : State) (l : ShedLevel) : Bool := (s.gapAt l).isSome

/-- A level no longer waits for a gap. -/
def State.dropGap (s : State) (l : ShedLevel) : State := { s with gaps := s.gaps.filter (fun g => g.1 ≠ l) }

/-- A level waits for the gap that starts now. -/
def State.startGap (s : State) (l : ShedLevel) : State :=
  let s := s.dropGap l
  { s with gaps := s.gaps ++ [(l, s.now)] }

/-- The temperature of a thermal level, in °C. -/
def State.levelTemp (s : State) : ShedLevel → Int
  | .podT k => signed 9 (s.fld (podAt k 0xC) 16 9)
  | _ => signed 9 (s.fld (at_ 6 0x118) 16 9)

/-- The limit of a thermal level, in °C. -/
def State.levelLimit (s : State) : ShedLevel → Int
  | .podT k => (s.fld (podAt k 4) 0 8 : Nat)
  | _ => (s.fld (at_ 6 0x114) 8 8 : Nat)

/-- The level is over (R260). -/
def State.overLimit (s : State) (l : ShedLevel) : Bool :=
  match l with
  | .pod k => decide (10 * s.budget (.pod k) < s.fld (podAt k 0xC) 0 16)
  | .podT _ => decide (s.levelLimit l ≤ s.levelTemp l)
  | .region m => decide (10 * s.budget (.region m) < s.fld (at_ (regionPage m) 0x10C) 0 16)
  | .package => decide (10 * s.budget .package < s.fld (at_ 6 0x10C) 0 16)
  | .system => decide (10 * s.budget .system < s.fld (at_ 6 0x10C) 0 16)
  | .therm => decide (s.levelLimit l ≤ s.levelTemp l)

/-- A level that sheds goes on: it is over, and a thermal one until it is 5 °C or more below its limit (R261). -/
def State.goesOn (s : State) (l : ShedLevel) : Bool :=
  s.overLimit l || (shedThermal l && decide (s.levelLimit l - 5 < s.levelTemp l))

/-- Readings in a row for which a level has been over. -/
def State.overRun (s : State) (l : ShedLevel) : Nat := ((s.overRuns.find? (fun g => g.1 = l)).map (fun g => g.2)).getD 0

/-- A reading of every level that is measured counts for its over timer (R261). -/
def State.countOver (s : State) (measured : ShedLevel → Bool) : State :=
  { s with overRuns := shedLevels.filterMap (fun l =>
      if !measured l then (if s.overRun l = 0 then none else some (l, s.overRun l))
      else if s.overLimit l then some (l, s.overRun l + 1) else none) }

/-- PKG.SHED.GAP for a level in bit times: the power die's copy while no frames reach it (R261, R262). -/
def State.gapLen (s : State) (l : ShedLevel) : Nat :=
  let reg := s.fld (at_ 6 0x110) 16 7
  1000 * usTicks * (match shedRegion l with
    | none => reg
    | some m => if s.regions[m].linkUp then reg else s.regions[m].shedGap.getD reg)

/-- The moment at which the gap of a level ends. -/
def State.gapEnd (s : State) (l : ShedLevel) : Option Nat := (s.gapAt l).map (fun t => t + s.gapLen l)

/-- PKG.SHED.TIME for a level: the power die's copy while no frames reach it (R262). -/
def State.shedTime (s : State) (l : ShedLevel) : Nat :=
  let reg := s.fld (at_ 6 0x110) 0 10
  match shedRegion l with
  | none => reg
  | some m => if s.regions[m].linkUp then reg else s.regions[m].shedTime.getD reg

/-- A level may be judged: only while the die that judges it runs (R260). -/
def State.mayShed (s : State) (l : ShedLevel) : Bool :=
  match shedRegion l with
  | some m => s.regions[m].running
  | none => !s.held

/-- A level is ready to shed: a thermal one as soon as it is over, a current one after PKG.SHED.TIME of readings
(R261). -/
def State.shedDue (s : State) (l : ShedLevel) : Bool :=
  s.mayShed l && !s.gap l && s.overLimit l && (shedThermal l || decide (s.shedTime l ≤ s.overRun l))

/-- The channels a level may shed, with one that trips at this very moment (R260, R262, R264). -/
def State.shedPorts (s : State) (l : ShedLevel) : List PortId :=
  let all := match l with
    | .pod k => portsOfPod k
    | .podT k => portsOfPod k
    | .region m => portsOfRegion m
    | _ => (allFin 48).filter (fun n => !s.linkDown (regionOf n))
  all.filter (fun n => s.husks[n].driven || (s.husks[n].waiting && s.husks[n].tripAt == some s.now))

/-- The priority a shed goes by: the power die's copy while no frames reach it (R262). -/
def State.shedPrio (s : State) (n : PortId) : Nat :=
  let x := s.regions[regionOf n]
  if x.linkUp then s.pwrPrio n else x.prio.getD (n.val % 12) (s.pwrPrio n)

/-- Lowest priority first, then the highest port number (R261). -/
def State.shedChoice (s : State) (l : List PortId) : Option PortId :=
  l.foldl (fun best n =>
    match best with
    | none => some n
    | some b => if s.shedPrio n ≤ s.shedPrio b then some n else some b) none

/-- One channel of a level is shed; one that trips at this very moment leaves nothing to shed (R261, R264). -/
def State.shedOne (s : State) (l : ShedLevel) : State :=
  match s.shedChoice (s.shedPorts l) with
  | none => s
  | some n => if s.husks[n].driven then (s.huskDark n 1).tell (regionOf n) (.shed n (shedDetail l)) else s

/-- A thermal level has reached its limit (R267, R268). -/
def State.thermCause (s : State) (l : ShedLevel) : State :=
  match l with
  | .podT k => s.tell ⟨k.val / 3, by have := k.isLt; omega⟩ (.podTherm k)
  | .therm => s.cause 6 4
  | _ => s

/-- Levels shed in this cycle: those judged again after a gap that go on, and those that have become ready. Of all of
them the narrowest sheds one channel, and all of them wait for one gap; where a shed has already happened in this cycle
they only wait (R261, R264). Where the narrowest has no candidate, a hot Pod with every channel OFF, nothing is shed in this
cycle and every level waits (DESIGN CHOICE, log entry 72). -/
def State.shedLevelsNow (s : State) (again : List ShedLevel) : State :=
  let due := shedLevels.filter s.shedDue
  let ready := shedLevels.filter (fun l => due.contains l || again.contains l)
  let shedNow := s.gaps.any (fun g => g.2 == s.now)
  let s := ready.foldl State.startGap (due.foldl State.thermCause s)
  if shedNow then s
  else match ready.head? with
    | some r => s.shedOne r
    | none => s

/-- A level whose gap is over in this cycle goes on shedding (R261). -/
def State.gapOver (s : State) (l : ShedLevel) : Bool :=
  s.mayShed l && s.goesOn l && (match s.gapEnd l with
    | some t => decide (t ≤ s.now)
    | none => false)

/-- A level has become ready to shed. -/
def State.shedReady (s : State) (l : ShedLevel) : State :=
  if !s.shedDue l then s else s.shedLevelsNow (shedLevels.filter s.gapOver)

/-- The end of the gap that ends first, of the levels that may be judged (R261). -/
def State.gapDue (s : State) : Option Nat := ((shedLevels.filter s.mayShed).filterMap s.gapEnd).min?

/-- That gap is over, for every level whose gap ends then: levels that no longer go on stop and their over timers restart,
the others shed (R261, R264). -/
def State.shedGap (s : State) : State :=
  match s.gapDue with
  | none => s
  | some t0 =>
    let group := shedLevels.filter (fun x => s.gapEnd x == some t0 && s.mayShed x)
    let on := group.filter s.goesOn
    let off := group.filter (fun x => !s.goesOn x)
    let s := off.foldl State.dropGap s
    { s with overRuns := s.overRuns.filter (fun g => !off.contains g.1) }.shedLevelsNow on

/-- The level of a current budget. -/
def shedOf : Level → ShedLevel
  | .pod k => .pod k
  | .region m => .region m
  | .package => .package
  | .system => .system

/-! ### Budgets (R256, R258) -/

/-- A budget write. -/
def State.setBudget (s : State) (l : Level) (v : Word) : State :=
  match l with
  | .pod k =>
    if s.linkDown ⟨k.val / 3, by have := k.isLt; omega⟩ then s.cause (podPage k) 5
    else s.plainWrite (podPage k) (podAt k 0 % 4096) (2 ^ 32 - 1) v
  | .region m => s.regionSetting m (fun t => t.plainWrite (regionPage m) 0x104 (2 ^ 32 - 1) v)
  | .package => s.plainWrite 6 0x100 (2 ^ 32 - 1) v
  | .system => s.plainWrite 6 0x104 (2 ^ 32 - 1) v

/-- Page and offset of a budget register. -/
def budgetAt : Level → Nat × Nat
  | .pod k => (podPage k, podAt k 0 % 4096)
  | .region m => (regionPage m, 0x104)
  | .package => (6, 0x100)
  | .system => (6, 0x104)

/-! ### Measurements (R255, spec/07_husk_power_path.md R244) -/

/-- A 16-bit reading. -/
def rd16 (n : Nat) : Nat := min n 65535

/-- The mean of the model's temperature since the latest reading, in °C; the present one where it has made no step
(R244). -/
def State.modelMean (s : State) (n : PortId) : Int :=
  let x := s.husks[n]
  (if x.heatCnt = 0 then s.modelTemp n else x.heatSum / x.heatCnt) / 10 ^ 9

/-- The readings of one channel; the diode is also the protection's sample of 1 kHz (R235), whose current and V_DS
come by its own sense path (spec/07_husk_power_path.md R244). -/
def State.measureHusk (s : State) (r : Readings) (n : PortId) : State :=
  let h := huskPage n
  let m := regionOf n
  let cur := rd16 (r.cur.getD n.val 0)
  let out := rd16 (r.vout.getD n.val 0)
  let bus := rd16 (r.bus.getD m.val 0)
  let model := s.modelMean n
  let diode := r.diode.getD n.val 0
  let s := s.setFld (at_ h 0x140) 0 16 cur
  let s := s.setFld (at_ h 0x140) 16 16 (max (s.fld (at_ h 0x140) 16 16) (rd16 (r.peak.getD n.val 0)))
  let s := s.setReg (at_ h 0x144) (BitVec.ofNat 32 (out + bus * 2 ^ 16))
  let s := s.setReg (at_ h 0x148)
    (BitVec.ofNat 32 (toField 9 diode + toField 9 model * 2 ^ 16))
  s.modHusk n (fun y => { y with diode := diode, heatSum := 0, heatCnt := 0 })

/-- The readings of a Pod: the sum of its currents and the highest diode. -/
def State.measurePod (s : State) (r : Readings) (k : PodId) : State :=
  let ports := portsOfPod k
  let cur := rd16 (ports.map (fun n => rd16 (r.cur.getD n.val 0))).sum
  let ts := ports.map (fun n => r.diode.getD n.val 0)
  let tmax := ts.foldl max (ts.headD 0)
  s.setReg (podAt k 0xC) (BitVec.ofNat 32 (cur + toField 9 tmax * 2 ^ 16))

/-- The readings of a region. -/
def State.measureRegion (s : State) (r : Readings) (m : RegId) : State :=
  let p := regionPage m
  let cur := rd16 (r.regCur.getD m.val 0)
  let s := s.setFld (at_ p 0x10C) 0 16 cur
  let s := s.setFld (at_ p 0x10C) 16 16 (max (s.fld (at_ p 0x10C) 16 16) cur)
  let s := s.setReg (at_ p 0x110)
    (BitVec.ofNat 32 (rd16 (r.feedA.getD m.val 0) + rd16 (r.feedB.getD m.val 0) * 2 ^ 16))
  let t := r.die.getD m.val 0
  let s := (s.setReg (at_ p 0x114) (BitVec.ofNat 32 (toField 9 t))).modRegion m (fun x => { x with junction := t })
  if s.regions[m].linkUp then s.modRegion m (fun x => { x with pkgCur := cur, pkgTemp := t }) else s

/-- A die that has fallen 5 °C below WARN warns again at its next crossing (R263). -/
def State.rearm (s : State) (ctl : Int) : State :=
  let limit : Int := (s.fld (at_ 6 0x114) 0 8 : Nat) - 5
  let s := if ctl ≤ limit then s.modCtl (fun x => { x with warned := false }) else s
  { s with regions := s.regions.map (fun (x : Region) => { x with warned := x.warned && decide (limit < x.pkgTemp) }) }

/-- The readings of the package, on the control die. -/
def State.measurePkg (s : State) (r : Readings) : State :=
  if s.held then s
  else
    let cur := rd16 (((allFin 4).map (fun (m : RegId) => s.regions[m].pkgCur)).sum)
    let ts := (r.ctlDie, 0) :: (allFin 4).map (fun (m : RegId) => (s.regions[m].pkgTemp, m.val + 1))
    let hot := ts.foldl (fun b t => if b.1 < t.1 then t else b) (r.ctlDie, 0)
    let s := s.setReg (at_ 6 0x10C) (BitVec.ofNat 32 cur)
    let s := s.setReg (at_ 6 0x118)
      (BitVec.ofNat 32 (toField 9 r.ctlDie + toField 9 hot.1 * 2 ^ 16 + hot.2 * 2 ^ 25))
    s.rearm r.ctlDie

/-- The word-clock pins as the Frame Timer measures them (spec/06_frame_timing.md R212). -/
def State.measureClocks (s : State) (r : Readings) : State :=
  if s.held then s
  else s.modCtl (fun x => { x with awclk := Vector.ofFn (fun k => BitVec.ofNat 32 (min (r.awclk.getD k.val 0) (2 ^ 32 - 1))) })

/-- Every 1 ms the readings of the dies that run are updated. -/
def State.measure (s : State) (r : Readings) : State :=
  let s := s.forAll ((allFin 48).filter (fun n => s.regions[regionOf n].running)) (fun t n => t.measureHusk r n)
  let s := s.forAll ((allFin 12).filter (fun (k : PodId) => s.regions[k.val / 3].running)) (fun t k => t.measurePod r k)
  let s := s.forAll ((allFin 4).filter (fun m => s.regions[m].running)) (fun t m => t.measureRegion r m)
  ((s.measurePkg r).measureClocks r).countOver s.mayShed

/-! ### Meanings -/

/-- POWER_DIE_RESET_FRAME (R439). -/
def execPowerDieResetFrame (m : RegId) (s : State) : Result := done (s.resetFrame m)

/-- DIE_HOT (R26). -/
def execDieHot (m : RegId) (s : State) : Result := done (s.dieIsHot m)

/-- POWER_DIE_COOLED (R26). -/
def execPowerDieCooled (m : RegId) (s : State) : Result := done (s.dieCooled m)

/-- REGION_LINK_FRAME (R20). -/
def execRegionLinkFrame (m : RegId) (crcOk : Bool) (s : State) : Result := done (s.linkFrame m crcOk)

/-- REGION_LINK_LOST (R21). -/
def execRegionLinkLost (m : RegId) (s : State) : Result := done (s.linkLost m)

/-- WRITE_BACK_DONE (R252). -/
def execWriteBackDone (m : RegId) (s : State) : Result := done (s.wroteBack m)

/-- CLAIM_REBUILD (R259): the claims that the power dies report are summed again. -/
def execClaimRebuild (s : State) : Result :=
  done (if s.held then s else s.modCtl (fun x => { x with rebuild := false }))

/-- FEED_GOOD (R249). -/
def execFeedGood (m : RegId) (f : FeedSense) (s : State) : Result := done (s.feedIsGood m f.feed f.connMv)

/-- FEED_NOT_GOOD (R249). -/
def execFeedNotGood (m : RegId) (f : FeedFall) (s : State) : Result := done (s.modRegion m (fun x => x.feedFalls f))

/-- FEED_FAULT (R250). -/
def execFeedFault (m : RegId) (kind : FeedFault) (s : State) : Result := done (s.feedFaulted m kind)

/-- DEAD_TIME_END (R251). -/
def execDeadTimeEnd (m : RegId) (s : State) : Result := done (s.deadTimeOver m)

/-- FEED_LOST (R251). -/
def execFeedLost (m : RegId) (s : State) : Result := done (s.loseFeeds m)

/-- POWER_DIE_RESTART (R441). -/
def execPowerDieRestart (m : RegId) (s : State) : Result := done (s.dieRestart m)

/-- FEED_REVERT (R253). -/
def execFeedRevert (m : RegId) (s : State) : Result := done (s.revert m)

/-- FEED_SWITCH_REQ (R253). -/
def execFeedSwitchReq (src : Source) (m : RegId) (s : State) : Result :=
  done (s.gate src (regionPage m) 0x014 (fun t => t.regionSetting m (fun u => u.askSwitch m)))

/-- FEED_WRITE (R253). -/
def execFeedWrite (src : Source) (m : RegId) (v : Word) (s : State) : Result :=
  done (s.gate src (regionPage m) 0x100 (fun t => t.regionSetting m (fun u => u.setFeed m v)))

/-- REGION_CNT_CLR (R266). -/
def execRegionCntClr (src : Source) (m : RegId) (s : State) : Result :=
  done (s.gate src (regionPage m) 0x014 (fun t => t.regionClr m))

/-- BUDGET_WRITE (R258). -/
def execBudgetWrite (src : Source) (level : Level) (v : Word) (s : State) : Result :=
  done (s.gate src (budgetAt level).1 (budgetAt level).2 (fun t => t.setBudget level v))

/-- SHED_TIMER_EXPIRY (R261). -/
def execShedTimerExpiry (level : Level) (s : State) : Result := done (s.shedReady (shedOf level))

/-- THERMAL_SHED (R261). -/
def execThermalShed (level : ThermLevel) (s : State) : Result :=
  done (match level with
    | .pod k => s.shedReady (.podT k)
    | .package => s.shedReady .therm)

/-- SHED_GAP_EXPIRY (R261). -/
def execShedGapExpiry (s : State) : Result := done s.shedGap

/-- THERM_WARN (R263). -/
def execThermWarn (die : Fin 5) (temp : Int) (s : State) : Result := done (if s.held then s else s.dieWarn die temp)

/-- MEASUREMENT_UPDATE (R255). -/
def execMeasurementUpdate (r : Readings) (s : State) : Result := done (s.measure r)

end Sys2Proof.Machine
end

