-- ==== Sys2Proof/Machine/Capture.lean ====
section
/-!
DEFINITION. Bus capture (spec/11_capture.md): filters, packets, the tail timeout, flush and the read side.
-/

namespace Sys2Proof.Machine

open Sys2Proof

/-! ### Packets (R316, R317) -/

/-- The PID check bits are valid. -/
def pidOk (pid : Byte) : Bool := pid >>> 4 == ~~~pid &&& 0xF

/-- The transaction address and endpoint a packet is tested by, and those later packets take (R317). -/
def tokenOf (latest : Option (Nat × Option Nat)) (pid : Byte) (body : BitVec 11) :
    Option (Nat × Option Nat) × Option (Nat × Option Nat) :=
  let own := some (body.toNat % 128, some (body.toNat / 128))
  match (pid &&& 0xF).toNat with
  | 1 => (own, own)
  | 9 => (own, own)
  | 13 => (own, own)
  | 4 => (own, own)
  | 8 => (some (body.toNat % 128, none), latest)
  | 5 => (none, latest)
  | _ => (latest, latest)

/-- A packet passes every test of R317. -/
def State.capPasses (s : State) (k : CfId) (pid : Byte) (fromDev : Bool) (t : Option (Nat × Option Nat)) : Bool :=
  let f := at_ (cfPage k) 0x024
  let dir := s.fld (at_ (cfPage k) 0x020) 8 2
  let dirOk := dir == 0 || (dir == 1 && !fromDev) || (dir == 2 && fromDev)
  let pidPass := if pidOk pid then s.flag f (pid &&& 0xF).toNat else s.flag f 29
  let addrPass := !s.flag f 23 || (match t with
    | some x => x.1 == s.fld f 16 7
    | none => false)
  let epPass := !s.flag f 28 || (match t with
    | some x => x.2 == some (s.fld f 24 4)
    | none => false)
  dirOk && pidPass && addrPass && epPass

/-- A packet starts on the source port; its PID is its first byte. One whose check bits are invalid is no token: it is
tested by the port's latest one, and leaves it as it is. -/
def State.packetStart (s : State) (k : CfId) (pid : Byte) (fromDev : Bool) (body : BitVec 11) : State :=
  match portId? (s.cfPort k) with
  | none => s
  | some p =>
    if !s.domOn (podDom (podOf p)) ∨ s.cfs[k].item.isSome then s
    else
      let t := tokenOf s.ports[p].token pid body
      let s := if pidOk pid then s.modPort p (fun x => { x with token := t.2 }) else s
      if !s.cfs[k].en then s
      else
        let s := s.modCf k (fun x =>
          { x with skipping := false, pktBytes := 1, tailCut := none, badPid := !pidOk pid })
        if s.capPasses k pid fromDev (if pidOk pid then t.1 else s.ports[p].token) then
          let i : COpen := { pid := pid, fromDev := fromDev, cont := false, dtime := s.dtime.setWidth 32, bytes := 1,
                             word := pid.setWidth 64, trunc := false }
          s.cfOpen k i
        else (s.modCf k (fun x => { x with skipping := true })).wrap (at_ (cfPage k) 0x03C) 1

/-- A byte of the packet: stored, beyond SNAP, or the first of a continuation item (R318, R322). -/
def State.packetByte (s : State) (k : CfId) (b : Byte) : State :=
  let x := s.cfs[k]
  let snap := s.fld (at_ (cfPage k) 0x028) 0 11
  let s := s.modCf k (fun y => { y with pktBytes := y.pktBytes + 1 })
  match x.item, x.tailCut with
  | some i, _ =>
    if snap ≤ x.pktBytes then s.modCf k (fun y => { y with item := some { i with trunc := true } }) else s.cfStore k i b
  | none, some fromDev =>
    if snap ≤ x.pktBytes then s
    else
      let i : COpen := { pid := 0, fromDev := fromDev, cont := true, dtime := s.dtime.setWidth 32, bytes := 1,
                         word := b.setWidth 64, trunc := false }
      s.cfOpen k i
  | none, none => s

/-- The packet ends (R321). -/
def State.packetEnd (s : State) (k : CfId) (eopOk crcOk : Bool) : State :=
  (s.cfClose k (!eopOk || !crcOk || s.cfs[k].badPid) false false).modCf k
    (fun x => { x with skipping := false, tailCut := none })

/-- The tail timer reaches TAIL_TO (R322). -/
def State.tailTimeout (s : State) (k : CfId) : State :=
  match s.cfs[k].item with
  | none => s
  | some i =>
    let s := s.cfClose k false false true
    (s.modCf k (fun x => { x with tailCut := if x.skipping then none else some i.fromDev })).cause (cfPage k) 4

/-! ### Flush, enable, disable (R324, R326) -/

/-- FLUSH (R324). -/
def State.cfFlush (s : State) (k : CfId) : State :=
  s.modCf k (fun x =>
    let headers := (x.words.filter (fun w => match w with
      | .header _ => true
      | .slot => true
      | _ => false)).length
    let y := { x with words := [], item := none, tailCut := none, fill := x.fill + x.readLeft, readLeft := 0,
                      skipping := x.skipping || x.item.isSome || x.tailCut.isSome }
    y.push [.marker (capMarker 2 (headers + b2n (decide (0 < x.readLeft))))])

/-- Clearing EN closes an open item with TRUNC, or drops it. -/
def State.cfOff (s : State) (k : CfId) : State :=
  (s.cfClose k false true false).modCf k (fun x => { x with en := false, tailCut := none, skipping := true })

/-- EN from 0 to 1: refused in ACORN_ONLY (spec/13_firmware_and_settings.md R355), and where the port has another
owner. -/
def State.cfOn (s : State) (k : CfId) : State :=
  if s.acorn then s.cause 4 4
  else
    match portId? (s.cfPort k) with
    | none => s.cause (cfPage k) 2
    | some p =>
      if s.ownerPort p = s.ownerCf k then s.modCf k (fun x => { x with en := true, skipping := true, tailCut := none })
      else s.cause (cfPage k) 2

/-- CNT_CLR: the peak becomes the present level (R329). -/
def State.cfClr (s : State) (k : CfId) : State :=
  (s.clearRegs [at_ (cfPage k) 0x034, at_ (cfPage k) 0x038, at_ (cfPage k) 0x03C]).modCf k
    (fun x => { x with peak := x.words.length })

/-- A write of CF[k].CTRL: flush before a disable (R328). -/
def State.cfCtrl (s : State) (k : CfId) (v : Word) : State :=
  let s := if bitAt v.toNat 1 then s.cfFlush k else s
  let s := if bitAt v.toNat 2 then s.cfClr k else s
  if bitAt v.toNat 0 then (if s.cfs[k].en then s else s.cfOn k)
  else if s.cfs[k].en then s.cfOff k else s

/-- A configuration write: SRC, FILT and SNAP only while EN is 0; TAIL_TO at any time (R326). -/
def State.cfConfig (s : State) (k : CfId) (o : Nat) (v : Word) : State :=
  if s.cfs[k].en ∧ o ≠ 0x02C then s.busyWrite (cfPage k) o 1 v else s.plainWrite (cfPage k) o (2 ^ 32 - 1) v

/-- Reset or fault of the owning slice: flushed, then disabled (R326). -/
def State.cfSliceReset (s : State) (k : CfId) : State := (s.cfFlush k).cfOff k

/-- Removal empties the FIFO without a marker (R326). -/
def State.cfEmpty (s : State) (k : CfId) : State :=
  s.modCf k (fun x => { Cf.init with peak := x.peak })

/-- Ports that have changed owner: FIFOs of another owner that watch them are disabled (R326). -/
def State.cfPortsMoved (s : State) : State :=
  s.forAll (allFin 4) (fun t k =>
    match portId? (t.cfPort k) with
    | none => t
    | some p => if t.cfs[k].en && t.ownerPort p != t.ownerCf k then (t.cfOff k).cause (cfPage k) 2 else t)

/-! ### Reading (R325) -/

/-- The next word a reader receives, if any is readable. -/
def Cf.next (x : Cf) : Option CWord :=
  if 0 < x.fill then some (.data 0)
  else
    match x.words with
    | .slot :: _ => none
    | w :: _ => some w
    | [] => none

/-- The reader takes one word. -/
def Cf.take (x : Cf) : Cf :=
  if 0 < x.fill then { x with fill := x.fill - 1 }
  else
    match x.words with
    | .header w :: t => { x with words := t, readLeft := itemWords (bits w.toNat 0 11) }
    | .data _ :: t => { x with words := t, readLeft := x.readLeft - 1 }
    | _ :: t => { x with words := t }
    | [] => x

/-- The bits of a capture word. -/
def CWord.value : CWord → BitVec 64
  | .slot => 0
  | .header w => w
  | .data w => w
  | .marker w => w

/-- A FLUSH marker. -/
def CWord.isFlush : CWord → Bool
  | .marker w => markerKind w == 2
  | _ => false

/-! ### Meanings -/

/-- CAPTURE_PACKET_START (R317). -/
def execCapturePacketStart (k : CfId) (pid : Byte) (fromDev : Bool) (body : BitVec 11) (s : State) : Result :=
  done (if s.capRuns then s.packetStart k pid fromDev body else s)

/-- CAPTURE_BYTE (R318). -/
def execCaptureByte (k : CfId) (b : Byte) (s : State) : Result := done (if s.capRuns then s.packetByte k b else s)

/-- CAPTURE_PACKET_END (R321). -/
def execCapturePacketEnd (k : CfId) (eopOk crcOk : Bool) (s : State) : Result :=
  done (if s.capRuns then s.packetEnd k eopOk crcOk else s)

/-- CAPTURE_TAIL_TIMEOUT (R322). -/
def execCaptureTailTimeout (k : CfId) (s : State) : Result := done (if s.capRuns then s.tailTimeout k else s)

/-- CF_FLUSH (R324). -/
def execCfFlush (src : Source) (k : CfId) (s : State) : Result :=
  done (s.gate src (cfPage k) 0x014 (fun t => t.cfFlush k))

/-- CF_ENABLE (R326): the whole CTRL value is written. -/
def execCfEnable (src : Source) (k : CfId) (v : Word) (s : State) : Result :=
  done (s.gate src (cfPage k) 0x014 (fun t => t.cfCtrl k v))

/-- CF_DISABLE (R326): the whole CTRL value is written. -/
def execCfDisable (src : Source) (k : CfId) (v : Word) (s : State) : Result :=
  done (s.gate src (cfPage k) 0x014 (fun t => t.cfCtrl k v))

/-- CF_CNT_CLR (R329). -/
def execCfCntClr (src : Source) (k : CfId) (s : State) : Result :=
  done (s.gate src (cfPage k) 0x014 (fun t => t.cfClr k))

end Sys2Proof.Machine
end

