-- ==== Sys2Proof/Machine/Mover.lean ====
section
/-!
DEFINITION. The Data Mover (spec/10_data_mover.md): channel runs, the five program instructions, register mode,
waits, and program RAM.
-/

namespace Sys2Proof.Machine

open Sys2Proof

/-! ### Settings of a channel (R315) -/

def State.dmMode (s : State) (c : ChId) : Bool := s.flag (at_ (dmchPage c) 0x034) 0
def State.dmInRam (s : State) (c : ChId) : Bool := s.flag (at_ (dmchPage c) 0x034) 1
def State.dmBase (s : State) (c : ChId) (dst : Bool) : Nat :=
  s.reg64 (at_ (dmchPage c) (if dst then 0x028 else 0x020))
def State.dmWrap (s : State) (c : ChId) (dst : Bool) : Nat := s.fld (at_ (dmchPage c) 0x034) (if dst then 16 else 8) 5
def State.dmProg (s : State) (c : ChId) : Nat := s.reg64 (at_ (dmchPage c) 0x038)
def State.dmCount (s : State) (c : ChId) : Nat := s.fld (at_ (dmchPage c) 0x030) 0 32
def State.dmRetry (s : State) (c : ChId) : Nat := s.fld (at_ (dmchPage c) 0x034) 24 3

/-- The engine of a channel (R290). -/
def dmOf (c : ChId) : DmId := ⟨c.val / 8, by have := c.isLt; omega⟩

/-- The channels of an engine. -/
def chsOf (e : DmId) : List ChId := (allFin 32).filter (fun c => dmOf c = e)

/-- The Data Mover runs: DM is ON with the root PLL locked, and FATAL has not stopped it
(spec/14_attention_and_errors.md R387). -/
def State.dmRuns (s : State) : Bool := s.rootOn domDM && !s.held && !s.fatal

/-- PENDING, RUNNING or WAITING. -/
def Dmch.active (x : Dmch) : Bool := x.st == .pending || x.st == .running || x.st == .waiting

/-- RUNNING or WAITING: it holds its engine. -/
def Dmch.holds (x : Dmch) : Bool := x.st == .running || x.st == .waiting

/-- Channels of the engine have more than one owner (R295). -/
def State.dmShared (s : State) (e : DmId) : Bool :=
  match chsOf e with
  | c :: t => t.any (fun d => s.ownerCh d != s.ownerCh c)
  | [] => false

/-- The program RAM indices the channel may fetch. -/
def State.inPramWin (s : State) (c : ChId) (i : Nat) : Bool :=
  decide (s.fld (at_ (dmchPage c) 0x100) 0 9 ≤ i) && decide (i ≤ s.fld (at_ (dmchPage c) 0x100) 16 9)

/-! ### Ends of a run (R292, R307) -/

/-- The channel halts. -/
def State.dmHalt (s : State) (c : ChId) (result detail : Nat) : State :=
  (s.modCh c (fun x => { x with
    st := .halted, result := result, detail := detail, instr := none, move := none, wait := none, satisfied := false,
    stop := false, limit := false, abort := false, tries := 0 })).cause (dmchPage c) 3

/-- The channel ends with DONE. -/
def State.dmDone (s : State) (c : ChId) : State :=
  (s.modCh c (fun x => { x with
    st := .idle, result := 1, detail := 0, instr := none, move := none, wait := none, satisfied := false,
    stop := false, limit := false, abort := false, tries := 0 })).cause (dmchPage c) 2

/-- Halts that wait for an instruction boundary take effect (R284 step 7, R310, R295). -/
def State.dmBoundary (s : State) (c : ChId) : State :=
  let x := s.dmchs[c]
  if x.abort then s.dmHalt c 7 1
  else if x.stop then s.dmHalt c 5 0
  else if x.limit then (s.dmHalt c 4 4).cause (dmPage (dmOf c)) 3
  else s

/-- The next instruction: PC moves, and the boundary is passed. -/
def State.dmNext (s : State) (c : ChId) (pc : Nat) : State :=
  (s.modCh c (fun x => { x with pc := pc, instr := none, move := none, tries := 0 })).dmBoundary c

/-! ### GO and the engine (R293-R295) -/

/-- The checks of GO: RESULT and DETAIL of the first that fails (R293). -/
def State.goCheck (s : State) (c : ChId) : Option (Nat × Nat) :=
  let prog := s.dmMode c
  let used (dst : Bool) : Bool := prog || s.fld (at_ (dmchPage c) 0x034) (if dst then 4 else 2) 2 == 0
  let bases := [false, true].filter used
  if bases.any (fun d => s.dmBase c d % 8 != 0) then some (2, 1)
  else if bases.any (fun d => s.dmWrap c d != 0 && s.dmBase c d % 2 ^ s.dmWrap c d != 0) then some (2, 2)
  else if prog then
    if s.dmProg c % 16 ≠ 0 then some (2, 5)
    else if s.dmInRam c && !s.inPramWin c (s.dmProg c % 8192 / 16) then some (6, 7)
    else none
  else
    let sp := s.fld (at_ (dmchPage c) 0x034) 2 2
    let dp := s.fld (at_ (dmchPage c) 0x034) 4 2
    if s.dmCount c % 8 ≠ 0 then some (2, 4)
    else if s.dmCount c = 0 then some (6, 3)
    else if !((sp == 0 || sp == 1) && (dp == 0 || dp == 3)) then some (6, 5)
    else none

/-- CTRL.GO (R293; refused in ACORN_ONLY, spec/13_firmware_and_settings.md R355). -/
def State.dmStart (s : State) (c : ChId) : State :=
  if s.acorn then s.cause 4 4
  else if s.dmchs[c].active then s.cause (dmchPage c) 1
  else
    match s.goCheck c with
    | some r => s.dmHalt c r.1 r.2
    | none => s.modCh c (fun _ => { Dmch.init with st := .pending, goAt := s.now, gen := s.genOf (s.ownerCh c) })

/-- A PENDING channel has starved (R294). -/
def State.starved (s : State) (c : ChId) : Bool :=
  decide (s.fld (at_ (dmPage (dmOf c)) 0x10C) 0 10 * 1000 * usTicks < s.now - s.dmchs[c].goAt)

/-- The order of choice of R294: one channel goes before another. -/
def State.dmBefore (s : State) (a b : ChId) : Bool :=
  let prio (c : ChId) : Nat := s.fld (at_ (dmchPage c) 0x034) 6 2
  let key (c : ChId) : Nat × Nat := if s.starved c then (0, 0) else (1, prio c)
  let ka := key a
  let kb := key b
  if ka.1 ≠ kb.1 then decide (ka.1 < kb.1)
  else if ka.2 ≠ kb.2 then decide (ka.2 < kb.2)
  else decide (s.dmchs[a].goAt < s.dmchs[b].goAt) || (s.dmchs[a].goAt == s.dmchs[b].goAt && decide (a.val < b.val))

/-- An idle engine chooses a PENDING channel (R294). -/
def State.dmChoose (s : State) (e : DmId) : State :=
  if (chsOf e).any (fun c => s.dmchs[c].holds) then s
  else
    let best := ((chsOf e).filter (fun c => s.dmchs[c].st == .pending)).foldl (fun b c =>
      match b with
      | none => some c
      | some d => if s.dmBefore c d then some c else some d) none
    match best with
    | none => s
    | some c =>
      let s := if s.starved c then (s.wrap (at_ (dmPage e) 0x11C) 1).cause (dmPage e) 2 else s
      (s.modCh c (fun x => { x with st := .running })).wrap (at_ (dmPage e) 0x118) 1

/-! ### Instructions (R300) -/

/-- A field of an instruction, bits [lo + len - 1 : lo] of a dword. -/
def df (w : BitVec 128) (dw lo len : Nat) : Nat := bits w.toNat (32 * dw + lo) len

/-- The opcode. -/
def dmOp (w : BitVec 128) : Nat := df w 0 0 4

/-- The operands of a MOVE. -/
def dmSrc (w : BitVec 128) : DOperand := ⟨df w 0 6 2, df w 0 4 1 == 1, df w 0 5 1 == 1, df w 1 0 32⟩
def dmDst (w : BitVec 128) : DOperand := ⟨df w 0 10 2, df w 0 8 1 == 1, df w 0 9 1 == 1, df w 2 0 32⟩

/-- Reserved bits of an operand that are set (R300). -/
def DOperand.reserved (o : DOperand) : Bool :=
  match o.sp with
  | 0 => o.cont && o.ofs != 0
  | 1 => o.base || o.cont || o.ofs / 4 != 0
  | 3 => o.base || o.cont || o.ofs != 0
  | _ => false

/-- A running pointer (R299). -/
def Dmch.ptr (x : Dmch) (dst : Bool) : Nat := if dst then x.ptrD else x.ptrS

/-- The offset an operand starts at. -/
def Dmch.start (x : Dmch) (o : DOperand) : Nat := if o.cont then x.ptr o.base else o.ofs

/-- Offset + LEN passes 2^32 without wrap (R299). -/
def State.tooFar (s : State) (c : ChId) (o : DOperand) (len : Nat) : Bool :=
  o.sp == 0 && s.dmWrap c o.base == 0 && decide (2 ^ 32 < s.dmchs[c].start o + len)

/-- A capture FIFO by number. -/
def cfOf (n : Nat) : CfId := ⟨n % 4, by omega⟩

/-- The checks of a MOVE, in table order (R306, R307). -/
def State.moveCheck (s : State) (c : ChId) (w : BitVec 128) : Option (Nat × Nat) :=
  let a := dmSrc w
  let b := dmDst w
  let len := df w 3 0 32
  if [a, b].any (fun o => o.sp == 0 && !o.cont && o.ofs % 8 != 0) then some (2, 3)
  else if len % 8 ≠ 0 then some (2, 4)
  else if df w 0 12 20 ≠ 0 ∨ a.reserved ∨ b.reserved then some (6, 2)
  else if len = 0 then some (6, 3)
  else if !((a.sp == 0 || a.sp == 1) && (b.sp == 0 || b.sp == 3)) then some (6, 5)
  else if a.sp = 1 ∧ s.ownerCf (cfOf a.ofs) ≠ s.ownerCh c then some (6, 6)
  else if s.tooFar c a len ∨ s.tooFar c b len then some (6, 9)
  else none

/-- The copy of register mode: both offsets start at 0; a CF source is named by SRC[1:0] (R312, log entry 25). -/
def State.regMove (s : State) (c : ChId) : Move :=
  let sp := s.fld (at_ (dmchPage c) 0x034) 2 2
  { src := ⟨sp, false, false, if sp = 1 then s.dmBase c false % 4 else 0⟩,
    dst := ⟨s.fld (at_ (dmchPage c) 0x034) 4 2, true, false, 0⟩, len := s.dmCount c, done := 0 }

/-- A MOVE, or the copy of register mode, is reached: checked, then in progress. -/
def State.beginMove (s : State) (c : ChId) : State :=
  let x := s.dmchs[c]
  if x.st ≠ .running ∨ x.move.isSome then s
  else if !s.dmMode c then
    let m := s.regMove c
    if m.src.sp = 1 ∧ s.ownerCf (cfOf m.src.ofs) ≠ s.ownerCh c then s.dmHalt c 6 6
    else s.modCh c (fun y => { y with move := some m, doneBytes := 0 })
  else
    match x.instr with
    | none => s
    | some w =>
      if dmOp w ≠ 1 then s
      else
        match s.moveCheck c w with
        | some r => s.dmHalt c r.1 r.2
        | none =>
          let m : Move :=
            { src := { dmSrc w with ofs := if dmSrc w |>.cont then x.start (dmSrc w) else (dmSrc w).ofs },
              dst := { dmDst w with ofs := if dmDst w |>.cont then x.start (dmDst w) else (dmDst w).ofs },
              len := df w 3 0 32, done := 0 }
          s.modCh c (fun y => { y with move := some m, doneBytes := 0 })

/-! ### The copy (R299, R301) -/

/-- The host address of an offset of a base. -/
def State.dmAddr (s : State) (c : ChId) (dst : Bool) (o : Nat) : BitVec 64 :=
  let k := s.dmWrap c dst
  BitVec.ofNat 64 (s.dmBase c dst + (if k = 0 then o else o % 2 ^ k))

/-- The offsets a run of bytes takes, as at most two intervals under wrap: start and length. -/
def spans (k o len : Nat) : List (Nat × Nat) :=
  if k = 0 then [(o, len)]
  else
    let w := 2 ^ k
    if w ≤ len then [(0, w)]
    else if o % w + len ≤ w then [(o % w, len)]
    else [(o % w, w - o % w), (0, o % w + len - w)]

/-- The bytes a MOVE reads and those it writes overlap. -/
def State.overlaps (s : State) (c : ChId) (m : Move) : Bool :=
  let at' (o : DOperand) : List (Nat × Nat) :=
    (spans (s.dmWrap c o.base) o.ofs m.len).map (fun r => (s.dmBase c o.base + r.1, r.2))
  m.src.sp == 0 && m.dst.sp == 0 &&
    (at' m.src).any (fun a => (at' m.dst).any (fun b => decide (a.1 < b.1 + b.2) && decide (b.1 < a.1 + a.2)))

/-- Groups words into write requests: none crosses a 4 KiB or wrap boundary or carries more than 256 bytes
(R301). -/
def requests : List (BitVec 64 × BitVec 64) → List (BitVec 64 × List (BitVec 64))
  | [] => []
  | (a, w) :: t =>
    match requests t with
    | (b, ws) :: r =>
      if b = a + 8 ∧ b.toNat % 4096 ≠ 0 ∧ ws.length < 32 then (a, w :: ws) :: r else (a, [w]) :: (b, ws) :: r
    | [] => [(a, [w])]

/-- Bytes written by the engine count in KiB (R314). -/
def State.dmBytes (s : State) (c : ChId) (n : Nat) : State :=
  let p := s.dms[dmOf c].part + n
  (s.modDm (dmOf c) (fun x => { x with part := p % 1024 })).wrap (at_ (dmPage (dmOf c)) 0x114) (p / 1024)

/-- Words of the MOVE reach the destination. Where source and destination overlap each is a free value (R301, log
entry 13). DONE_BYTES counts bytes whose writes have left; a NULL destination writes none. -/
def State.dmPut (s : State) (c : ChId) (m : Move) (ws : List (BitVec 64)) : State :=
  let n := 8 * ws.length
  let s := s.modCh c (fun x => { x with move := some { m with done := m.done + n }, tries := 0 })
  if m.dst.sp = 3 then s
  else
    let lapped := s.overlaps c m
    let vals := if lapped then (List.range ws.length).map (fun i => Config.freeValue (s.free + i)) else ws
    let s := if lapped then { s with free := s.free + ws.length } else s
    let cells := (vals.zip (List.range ws.length)).map (fun v =>
      (s.dmAddr c m.dst.base (m.dst.ofs + m.done + 8 * v.2), v.1))
    let g := s.dmchs[c].gen
    let o := s.ownerCh c
    let s := (requests cells).foldl (fun t r => t.post o g false (.mover c r.1 r.2)) s
    (s.modCh c (fun x => { x with doneBytes := m.done + n })).dmBytes c n

/-- The write requests that carry bytes to an offset and on: none crosses a 4 KiB or wrap boundary or carries more
than 256 bytes (R301). -/
def State.fillCuts (s : State) (c : ChId) (dst : Bool) : Nat → Nat → Nat → List (BitVec 64 × Nat)
  | 0, _, _ => []
  | fuel + 1, o, len =>
    let a := s.dmAddr c dst o
    let k := s.dmWrap c dst
    let room := if k = 0 then len else 2 ^ k - o % 2 ^ k
    let n := min (min len room) (min 256 (4096 - a.toNat % 4096))
    if n = 0 then [] else (a, n) :: s.fillCuts c dst fuel (o + n) (len - n)

/-- The rest of a MOVE that took a FLUSH marker is written as fill words (spec/11_capture.md R325). -/
def State.dmFill (s : State) (c : ChId) : State :=
  match s.dmchs[c].move with
  | none => s
  | some m =>
    let rest := m.len - m.done
    let s := s.modCh c (fun x => { x with move := some { m with done := m.len } })
    if m.dst.sp = 3 ∨ rest = 0 then s
    else
      let g := s.dmchs[c].gen
      let o := s.ownerCh c
      let s := (s.fillCuts c m.dst.base rest (m.dst.ofs + m.done) rest).foldl (fun t r =>
        t.post o g false (.moverFill c r.1 r.2)) s
      (s.modCh c (fun x => { x with doneBytes := m.len })).dmBytes c rest

/-- A halt is asked for at the next boundary. -/
def Dmch.asked (x : Dmch) : Bool := x.stop || x.limit || x.abort

/-- A register-mode copy stands at the end of a 256-byte request: a halt that was asked for takes effect (R312). -/
def State.dmEdge (s : State) (c : ChId) : State :=
  match s.dmchs[c].move with
  | none => s
  | some m => if !s.dmMode c && s.dmchs[c].asked && m.done % 256 == 0 then s.dmBoundary c else s

/-- Words of a capture FIFO move until the MOVE is full, a FLUSH marker is taken, or none is readable (R325). A
channel whose owner's reset found it running halts where the FIFO is empty (R292). -/
def State.dmDrain (s : State) (c : ChId) (k : CfId) : Nat → State
  | 0 => s
  | fuel + 1 =>
    match s.dmchs[c].move with
    | none => s
    | some m =>
      if m.len ≤ m.done then s
      else
        match s.cfs[k].next with
        | none =>
          if s.dmchs[c].abort then s.dmHalt c 7 1
          else s.modCh c (fun x => { x with st := .waiting, wait := some (.fifo k), satisfied := false })
        | some w =>
          let s := (s.modCf k Cf.take).dmPut c m [w.value]
          if w.isFlush then s.dmFill c else (s.dmEdge c).dmDrain c k fuel

/-- The reads that bring words of a MOVE from host memory, cut as its writes are (R301). -/
def State.askSource (s : State) (c : ChId) (m : Move) (n : Nat) : State :=
  let o := s.ownerCh c
  (s.fillCuts c m.src.base (8 * n) (m.src.ofs + m.done) (8 * n)).foldl (fun t r =>
    t.askRead o false (.mover c r.1 r.2)) s

/-- The bytes of a MOVE: data read from host memory, or words of a capture FIFO (R301). -/
def State.dmCopy (s : State) (c : ChId) (data : List (BitVec 64)) : State :=
  let s := s.beginMove c
  match s.dmchs[c].move with
  | none => s
  | some m =>
    if s.dmchs[c].st ≠ .running then s
    else if m.src.sp = 1 then
      let k := cfOf m.src.ofs
      s.dmDrain c k (s.cfs[k].words.length + s.cfs[k].fill + 1)
    else
      let room := (m.len - m.done) / 8
      let n := if !s.dmMode c && s.dmchs[c].asked then min room ((256 - m.done % 256) / 8) else room
      let ws := data.take n
      ((s.askSource c m ws.length).dmPut c m ws).dmEdge c

/-- A running pointer after a MOVE (R299). It has the 32 bits of OFS: after an unwrapped MOVE that ends at 2^32 it is 0
(DESIGN CHOICE, log entry 73). -/
def State.dmPtr (s : State) (c : ChId) (o : DOperand) (len : Nat) : State :=
  if o.sp ≠ 0 then s
  else
    let k := s.dmWrap c o.base
    let v := (o.ofs + len) % 2 ^ (if k = 0 then 32 else k)
    s.modCh c (fun x => if o.base then { x with ptrD := v } else { x with ptrS := v })

/-- A MOVE has completed (R309); a capture MOVE still WAITING has not. -/
def State.dmMoved (s : State) (c : ChId) : State :=
  let x := s.dmchs[c]
  match x.move with
  | none => s
  | some m =>
    if !s.dmMode c ∨ x.st ≠ .running ∨ m.done < m.len then s
    else ((s.dmPtr c m.src m.len).dmPtr c m.dst m.len).dmNext c (x.pc + 1)

/-- A register-mode copy has reached its count (R312). -/
def State.dmCounted (s : State) (c : ChId) : State :=
  let x := s.dmchs[c]
  match x.move with
  | none => s
  | some m =>
    if s.dmMode c ∨ x.st ≠ .running ∨ m.done < m.len then s
    else if x.abort ∨ x.stop ∨ x.limit then s.dmBoundary c
    else s.dmDone c

/-! ### Fetch (R305, R308) -/

/-- A read failed: reissued up to CFG.RETRY times, then BUS_ERR (R308). -/
def State.dmReadFail (s : State) (c : ChId) (detail : Nat) : State :=
  if s.dmchs[c].tries < s.dmRetry c then
    (s.modCh c (fun x => { x with tries := x.tries + 1 })).sat (at_ (dmchPage c) 0x058)
  else s.dmHalt c 3 detail

/-- The instruction at PC is there; an undefined opcode halts (R307). -/
def State.dmFetched (s : State) (c : ChId) (w : BitVec 128) : State :=
  if 4 < dmOp w then s.dmHalt c 6 1 else s.modCh c (fun x => { x with instr := some w, tries := 0 })

/-- A program RAM word has an uncorrectable error: ECC_LAST and ECC_UNCORR_COUNT (spec/15_register_map.md R402), and the
channel halts (R307). -/
def State.pramError (s : State) (c : ChId) : State :=
  ((s.setReg (at_ 0 0x11C) (BitVec.ofNat 32 (0x08 + 256 + c.val * 2 ^ 16))).sat (at_ 0 0x118)).dmHalt c 6 8

/-- The instruction at PC is fetched, from host memory or from program RAM (R305). No value from program RAM is an
uncorrectable error there (R307). -/
def State.dmFetch (s : State) (c : ChId) (res : Option (BitVec 128)) : State :=
  let x := s.dmchs[c]
  if x.st ≠ .running ∨ !s.dmMode c ∨ x.instr.isSome then s
  else if 65535 < x.pc then s.dmHalt c 6 7
  else if s.dmInRam c then
    let i := s.dmProg c % 8192 / 16 + x.pc
    if !s.inPramWin c i then s.dmHalt c 6 7
    else
      match res with
      | none => s.pramError c
      | some _ => s.dmFetched c (BitVec.ofNat 128 (memRead s.dms[dmOf c].ram (16 * i) 16))
  else
    let s := s.askRead (s.ownerCh c) false (.program c (BitVec.ofNat 64 (s.dmProg c + 16 * x.pc)))
    match res with
    | none => s.dmReadFail c 2
    | some w => s.dmFetched c w

/-- A data read came back (R308). -/
def State.dmRead (s : State) (c : ChId) (ok : Bool) : State :=
  let s := s.beginMove c
  match s.dmchs[c].move with
  | none => s
  | some m =>
    if m.src.sp ≠ 0 ∨ m.len ≤ m.done ∨ s.dmchs[c].st ≠ .running then s
    else if ok then s.modCh c (fun x => { x with tries := 0 })
    else (s.askSource c m (min ((m.len - m.done) / 8) 1)).dmReadFail c 1

/-! ### LOOP, WAIT, SIGNAL, END (R302-R305) -/

/-- Runs an instruction of one opcode at PC once its reserved bits read 0. -/
def State.dmRun (s : State) (c : ChId) (op : Nat) (reserved : BitVec 128 → Bool) (act : BitVec 128 → State → State) :
    State :=
  if s.dmchs[c].st ≠ .running then s
  else
    match s.dmchs[c].instr with
    | none => s
    | some w => if dmOp w ≠ op then s else if reserved w then s.dmHalt c 6 2 else act w s

/-- LOOP (R302). -/
def State.dmLoopOp (s : State) (c : ChId) : State :=
  s.dmRun c 2 (fun w => df w 0 5 27 != 0 || df w 1 16 16 != 0 || df w 2 16 16 != 0 || df w 3 0 32 != 0) (fun w t =>
    let x := t.dmchs[c]
    let target := df w 1 0 16
    let count := df w 2 0 16
    let one := df w 0 4 1 = 1
    if x.pc < target then t.dmHalt c 6 4
    else if count = 0 then t.dmNext c target
    else
      let old := if one then x.lc1 else x.lc0
      let new := (if old = 0 then count else old) - 1
      let t := t.modCh c (fun y => if one then { y with lc1 := new } else { y with lc0 := new })
      t.dmNext c (if new ≠ 0 then target else x.pc + 1))

/-- WAIT arms (R303). -/
def State.dmWaitOp (s : State) (c : ChId) : State :=
  s.dmRun c 3 (fun w =>
      df w 0 5 27 != 0 || df w 2 0 32 != 0 || df w 3 0 32 != 0 ||
        (if df w 0 4 1 = 0 then df w 1 6 26 != 0
         else df w 1 6 2 != 0 || df w 1 12 20 != 0 || decide (13 < df w 1 8 4))) (fun w t =>
    let arm (k : DWait) : State := t.modCh c (fun x => { x with st := .waiting, wait := some k, satisfied := false })
    if df w 0 4 1 = 0 then arm (.line (df w 1 0 6))
    else
      match portId? (df w 1 0 6) with
      | none => t.dmHalt c 6 6
      | some p => if t.ownerPort p ≠ t.ownerCh c then t.dmHalt c 6 6 else arm (.frame p (df w 1 8 4)))

/-- What the channel waits for is there: a FIFO with a readable word, or the pulse or boundary that came. -/
def State.dmReady (s : State) (c : ChId) : Bool :=
  match s.dmchs[c].wait with
  | some (.fifo k) => s.cfs[k].next.isSome
  | some _ => s.dmchs[c].satisfied
  | none => false

/-- The wait is satisfied: the channel runs again (R292, R303, spec/11_capture.md R325). -/
def State.dmWake (s : State) (c : ChId) : State :=
  let x := s.dmchs[c]
  if x.st ≠ .waiting ∨ !s.dmReady c then s
  else
    let s := s.modCh c (fun y => { y with st := .running, wait := none, satisfied := false })
    match x.wait with
    | some (.fifo _) => s
    | _ => s.dmNext c (x.pc + 1)

/-- An event line is pulsed: every entry armed on it and every channel that waits for it (spec/01_device_organisation.md
R42, R43). -/
def State.pulse (s : State) (line : Nat) : State :=
  let hit (x : Dmch) : Bool := x.st == .waiting && x.wait == some (.line line)
  let armed (it : Item) : Bool := eEvwait it.entry && eEvent it.entry == line
  let wis := s.wis.map (fun (it : Item) => { it with evOk := it.evOk || armed it })
  let chs := s.dmchs.map (fun (x : Dmch) => { x with satisfied := x.satisfied || hit x })
  { s with wis := wis, dmchs := chs }.requeue

/-- SIGNAL (R304, spec/09_slices.md R276). -/
def State.dmSignalOp (s : State) (c : ChId) : State :=
  s.dmRun c 4 (fun w => df w 0 4 28 != 0 || df w 1 6 26 != 0 || df w 2 0 32 != 0 || df w 3 0 32 != 0) (fun w t =>
    let line := df w 1 0 6
    let t := match t.ownerCh c with
      | none => t.pulse line
      | some i =>
        if t.flag (at_ (slicePage i) (0x128 + 4 * (line / 32))) (line % 32) then t.pulse line
        else t.cause (slicePage i) 10
    t.dmNext c (t.dmchs[c].pc + 1))

/-- END (R305). -/
def State.dmEndOp (s : State) (c : ChId) : State :=
  s.dmRun c 0 (fun w => df w 0 4 28 != 0 || df w 1 0 32 != 0 || df w 2 0 32 != 0 || df w 3 0 32 != 0)
    (fun _ t => t.dmDone c)

/-! ### STOP, limits, aborts (R295, R310, R311) -/

/-- The channel is inside a MOVE: its instruction boundary is ahead. A register-mode copy is inside a 256-byte
request, or waits for the words of one (R312). -/
def State.dmInside (s : State) (c : ChId) : Bool :=
  let x := s.dmchs[c]
  match x.wait with
  | some (.fifo _) => true
  | some _ => false
  | none =>
    match x.move with
    | some m => s.dmMode c || m.done % 256 != 0
    | none => false

/-- CTRL.STOP (R310). A channel in WAIT has passed that instruction. -/
def State.dmStopAt (s : State) (c : ChId) : State :=
  let x := s.dmchs[c]
  if !x.active then s
  else if x.st ≠ .pending ∧ s.dmInside c then s.modCh c (fun y => { y with stop := true })
  else (s.modCh c (fun y => { y with pc := if x.wait.isSome then y.pc + 1 else y.pc })).dmHalt c 5 0

/-- The run limit is over (R295). -/
def State.dmLimit (s : State) (c : ChId) : State :=
  let bound := s.fld (at_ (dmPage (dmOf c)) 0x108) 0 16 ≠ 0 ∨ s.dmShared (dmOf c)
  if !s.dmchs[c].holds ∨ ¬bound then s
  else if s.dmInside c then s.modCh c (fun y => { y with limit := true })
  else (s.dmHalt c 4 4).cause (dmPage (dmOf c)) 3

/-- CH.TIMEOUT is over (R311): the wait wins where it is satisfied (R313). -/
def State.dmTimeout (s : State) (c : ChId) : State :=
  let x := s.dmchs[c]
  if x.st ≠ .waiting ∨ s.dmReady c ∨ s.fld (at_ (dmchPage c) 0x040) 0 16 = 0 then s
  else
    match x.wait with
    | some (.line _) => s.dmHalt c 4 1
    | some (.frame _ _) => s.dmHalt c 4 2
    | _ => s.dmHalt c 4 3

/-- Reset, removal or fault of the owner (R292, R313, spec/11_capture.md R328). -/
def State.dmAbort (s : State) (c : ChId) : State :=
  let x := s.dmchs[c]
  if !x.active then s
  else if x.st = .running ∧ s.dmInside c then s.modCh c (fun y => { y with abort := true })
  else s.dmHalt c 7 1

/-! ### Registers (R314, R315) -/

/-- A configuration write of a channel: refused while it is active (R293). Reserved space and wrap codes are refused
(R298, R299). -/
def State.dmConfig (s : State) (c : ChId) (o : Nat) (v : Word) : State :=
  if s.dmchs[c].active then s.busyWrite (dmchPage c) o 1 v
  else if o = 0x034 then
    let badSp (lo : Nat) : Bool := bits v.toNat lo 2 == 2
    let badWrap (lo : Nat) : Bool := (decide (1 ≤ bits v.toNat lo 5) && decide (bits v.toNat lo 5 ≤ 5))
      || bits v.toNat lo 5 == 31
    let old := s.reg (at_ (dmchPage c) o)
    let keep (b : Bool) (lo len : Nat) (w : Word) : Word := if b then putBits w lo len (bits old.toNat lo len) else w
    let w := keep (badSp 2) 2 2 (keep (badSp 4) 4 2 (keep (badWrap 8) 8 5 (keep (badWrap 16) 16 5 v)))
    (s.plainWrite (dmchPage c) o (2 ^ 32 - 1) w).causeIf (badSp 2 || badSp 4 || badWrap 8 || badWrap 16) (dmchPage c) 0
  else s.plainWrite (dmchPage c) o (2 ^ 32 - 1) v

/-- CNT_CLR of a channel. -/
def State.dmchClr (s : State) (c : ChId) : State := s.clearRegs [at_ (dmchPage c) 0x058]

/-- A write of DMCH[c].CTRL: STOP wins over GO (R313). -/
def State.dmchCtrl (s : State) (c : ChId) (v : Word) : State :=
  let s := if bitAt v.toNat 2 then s.dmchClr c else s
  if bitAt v.toNat 1 then s.dmStopAt c else if bitAt v.toNat 0 then s.dmStart c else s

/-- CNT_CLR of an engine. -/
def State.dmClr (s : State) (e : DmId) : State :=
  (s.clearRegs [at_ (dmPage e) 0x114, at_ (dmPage e) 0x118, at_ (dmPage e) 0x11C]).modDm e (fun x => { x with part := 0 })

/-- PRAM_ADDR, in dwords. -/
def State.pramAddr (s : State) (e : DmId) : Nat := s.fld (at_ (dmPage e) 0x100) 2 11

/-- A dword is in the window of an active channel that uses program RAM (R313). -/
def State.pramBusy (s : State) (e : DmId) (dw : Nat) : Bool :=
  (chsOf e).any (fun c => s.dmchs[c].active && s.dmMode c && s.dmInRam c && s.inPramWin c (dw / 4))

/-- An access of PRAM_DATA advances PRAM_ADDR (R314). -/
def State.pramStep (s : State) (e : DmId) : State := s.setFld (at_ (dmPage e) 0x100) 2 11 ((s.pramAddr e + 1) % 2048)

/-- A write of PRAM_DATA. -/
def State.pramWrite (s : State) (e : DmId) (v : Word) : State :=
  let a := s.pramAddr e
  (if s.pramBusy e a then s.cause (dmPage e) 1
   else s.modDm e (fun x => { x with ram := memWrite x.ram (4 * a) 4 v.toNat })).pramStep e

/-- A read of PRAM_DATA. -/
def State.pramRead (s : State) (e : DmId) : State :=
  let v := BitVec.ofNat 32 (memRead s.dms[e].ram (4 * s.pramAddr e) 4)
  { s.pramStep e with rd := .words [v] }

/-! ### Meanings -/

/-- What a happening of the Data Mover does while it runs. -/
def State.ifDm (s : State) (act : State → State) : State := if s.dmRuns then act s else s

/-- DM_GO (R293). -/
def execDmGo (src : Source) (c : ChId) (s : State) : Result :=
  done (s.gate src (dmchPage c) 0x014 (fun t => t.dmStart c))

/-- DM_STOP (R310). -/
def execDmStop (src : Source) (c : ChId) (s : State) : Result :=
  done (s.gate src (dmchPage c) 0x014 (fun t => t.dmStopAt c))

/-- DMCH_CNT_CLR (R315). -/
def execDmchCntClr (src : Source) (c : ChId) (s : State) : Result :=
  done (s.gate src (dmchPage c) 0x014 (fun t => t.dmchClr c))

/-- DM_CHANNEL_CHOSEN (R294). -/
def execDmChannelChosen (e : DmId) (s : State) : Result := done (s.ifDm (fun t => t.dmChoose e))

/-- DM_COUNT_DONE (R312). -/
def execDmCountDone (c : ChId) (s : State) : Result := done (s.ifDm (fun t => t.dmCounted c))

/-- DM_INSTRUCTION_FETCH (R305). -/
def execDmInstructionFetch (c : ChId) (res : Option (BitVec 128)) (s : State) : Result :=
  done (s.ifDm (fun t => t.dmFetch c res))

/-- DM_MOVE (R301). -/
def execDmMove (c : ChId) (data : List (BitVec 64)) (s : State) : Result := done (s.ifDm (fun t => t.dmCopy c data))

/-- DM_MOVE_DONE (R309). -/
def execDmMoveDone (c : ChId) (s : State) : Result := done (s.ifDm (fun t => t.dmMoved c))

/-- DM_LOOP (R302). -/
def execDmLoop (c : ChId) (s : State) : Result := done (s.ifDm (fun t => t.dmLoopOp c))

/-- DM_WAIT (R303). -/
def execDmWait (c : ChId) (s : State) : Result := done (s.ifDm (fun t => t.dmWaitOp c))

/-- DM_WAIT_SATISFIED (R303). -/
def execDmWaitSatisfied (c : ChId) (s : State) : Result := done (s.ifDm (fun t => t.dmWake c))

/-- DM_SIGNAL (R304). -/
def execDmSignal (c : ChId) (s : State) : Result := done (s.ifDm (fun t => t.dmSignalOp c))

/-- DM_END (R305). -/
def execDmEnd (c : ChId) (s : State) : Result := done (s.ifDm (fun t => t.dmEndOp c))

/-- DM_WAIT_TIMEOUT (R311). -/
def execDmWaitTimeout (c : ChId) (s : State) : Result := done (s.ifDm (fun t => t.dmTimeout c))

/-- DM_RUN_LIMIT (R295). -/
def execDmRunLimit (c : ChId) (s : State) : Result := done (s.ifDm (fun t => t.dmLimit c))

/-- DM_READ_COMPLETION (R308). -/
def execDmReadCompletion (c : ChId) (ok : Bool) (s : State) : Result := done (s.ifDm (fun t => t.dmRead c ok))

/-- PRAM_DATA_ACCESS (R314): a write of the value, or a read. No slice window shows the page. -/
def execPramDataAccess (src : Source) (e : DmId) (v : Option Word) (s : State) : Result :=
  done (match v with
    | some w => s.gate src (dmPage e) 0x104 (fun t => t.pramWrite e w)
    | none => s.pageRead src (dmPage e) (fun t => t.pramRead e))

/-- DM_CNT_CLR (R314). -/
def execDmCntClr (src : Source) (e : DmId) (s : State) : Result :=
  done (s.gate src (dmPage e) 0x014 (fun t => t.dmClr e))

end Sys2Proof.Machine
end

