-- ==== Sys2Proof/Machine/Slice.lean ====
section
/-!
DEFINITION. Slices (spec/09_slices.md): creation, quotas, reset, removal, faults and draining.
-/

namespace Sys2Proof.Machine

open Sys2Proof

/-! ### The masks of the SLICE page (R273, R289) -/

def State.maskQp (s : State) (i : SliceId) : BitVec 64 := BitVec.ofNat 64 (s.reg64 (at_ (slicePage i) 0x108))
def State.maskPort (s : State) (i : SliceId) : BitVec 48 := BitVec.ofNat 48 (s.reg64 (at_ (slicePage i) 0x110))
def State.maskPwr (s : State) (i : SliceId) : BitVec 48 := BitVec.ofNat 48 (s.reg64 (at_ (slicePage i) 0x118))
def State.maskCh (s : State) (i : SliceId) : BitVec 32 := s.reg (at_ (slicePage i) 0x120)
def State.maskCf (s : State) (i : SliceId) : BitVec 4 := (s.reg (at_ (slicePage i) 0x124)).setWidth 4

/-- Slices that exist. -/
def State.live (s : State) : List SliceId := (allFin 32).filter (fun i => s.slices[i].st != .none)

/-- GRAN_QUOTA of the physical function and of every slice that exists, one slice's replaced (R273 check 7). -/
def State.granFits (s : State) (i : SliceId) (q : Nat) : Bool :=
  let others := (s.live.filter (fun j => j != i)).foldl (fun n j => n + s.granQuota (some j)) 0
  decide (s.granQuota none + others + q ≤ 6144 - s.fld (at_ 0x070 0x100) 0 13)

/-- WIS_QUOTA likewise (spec/03_dispatch_scheduler.md R118). -/
def State.wisFits (s : State) (i : SliceId) (q : Nat) : Bool :=
  let others := (s.live.filter (fun j => j != i)).foldl (fun n j => n + s.wisQuota (some j)) 0
  decide (s.wisQuota none + others + q ≤ 4096)

/-! ### Creation (R273) -/

/-- Check 2: every masked resource is the physical function's, and PWR_MASK lies within PORT_MASK. -/
def State.masksFree (s : State) (i : SliceId) : Bool :=
  (allFin 32).all (fun (j : SliceId) =>
      s.slices[j].qps &&& s.maskQp i == 0 && s.slices[j].ports &&& s.maskPort i == 0
        && s.slices[j].chs &&& s.maskCh i == 0 && s.slices[j].cfs &&& s.maskCf i == 0)
    && s.maskPwr i &&& ~~~s.maskPort i == 0

/-- Checks 3 to 5: every masked resource is at rest. -/
def State.masksIdle (s : State) (i : SliceId) : Bool :=
  (allFin 64).all (fun q => !(s.maskQp i).getLsbD q.val || (!s.qpEn q && s.qpIdle q))
    && (allFin 48).all (fun (p : PortId) => !(s.maskPort i).getLsbD p.val
      || (s.husks[p].st == .off && s.ports[p].st != .test && !s.ctxs.any (fun c => c.port == p)
        && !s.wis.any (fun it => !it.op.noFlow && it.port == p.val)))
    && (allFin 32).all (fun (c : ChId) => !(s.maskCh i).getLsbD c.val || !s.dmchs[c].active)
    && (allFin 4).all (fun (k : CfId) => !(s.maskCf i).getLsbD k.val || !s.cfs[k].en)

/-- CTRL.CREATE. -/
def State.create (s : State) (i : SliceId) : State :=
  let p := slicePage i
  if s.acorn then s.cause 4 4
  else if s.slices[i].st ≠ .none then s.cause p 1
  else if s.live.any (fun j => s.pasid j == s.pasid i) then s.cause p 2
  else if !s.masksFree i ∨ !s.masksIdle i then s.cause p 3
  else if !s.wisFits i (s.wisQuota (some i)) then (s.cause p 4).cause 0x050 0
  else if !s.granFits i (s.granQuota (some i)) then s.cause p 5
  else
    let q := s.maskQp i
    let o := s.maskPort i
    let c := s.maskCh i
    let k := s.maskCf i
    (s.fullMarks (s.modSlice i (fun x =>
      { x with st := .active, gen := x.gen + 1, qps := q, ports := o, chs := c, cfs := k })) none
      (some i)).cfPortsMoved

/-! ### What reset, removal and fault share (R284, R286, R287) -/

/-- A new generation: DRAINED clears (R283). -/
def State.newGen (s : State) (i : SliceId) : State :=
  s.modSlice i (fun x => { x with gen := x.gen + 1, drained := false })

/-- Step 2: the slice's queue pairs are disabled. -/
def State.sliceQps (s : State) (i : SliceId) : State :=
  s.forAll ((allFin 64).filter (fun q => s.ownerQp q = some i)) (fun t q => t.qpHalt q)

/-- Step 4: Park records of the slice become stale, and waiting events of its ports and Husks are discarded. -/
def State.sliceRecords (s : State) (i : SliceId) : State :=
  let gone := s.park.filter (fun r => r.owner == some i)
  let s := gone.foldl (fun t _ => t.staleRecord (some i)) s
  { s with park := s.park.filter (fun r => r.owner != some i),
           events := s.events.filter (fun w => s.eventOwner w.page != some i) }

/-- Step 5: claims and cached contexts of the slice's ports go without write-back. -/
def State.sliceCtxs (s : State) (i : SliceId) : State :=
  { s with ctxs := s.ctxs.filter (fun c => s.ownerPort c.port != some i),
           closed := s.closed.filter (fun c => s.ownerPort c.port != some i) }

/-- CONN as the line of a port that stops shows it: 0 where the detector of its state shows the device gone, at high speed
by the envelope and else by SE0; while the port drives the line it is as it was (spec/05_root_ports.md R168; DEDUCED, log
entry 73). -/
def Port.attached (x : Port) : Bool :=
  if x.st == .enabled && x.speed == 0 && !x.suspIdle then x.conn && decide (x.envCount < 2)
  else if x.detects && x.st != .resuming then x.line != .se0
  else x.conn

/-- Step 6: a port stops and goes to DISCONNECTED without an event, with CONN as the line shows. -/
def State.slicePort (s : State) (p : PortId) : State :=
  match s.ports[p].st with
  | .powerOff => s
  | .disconnected => s
  | .test => s.testMode p 0
  | _ => s.modPort p (fun x => { x.quiet with st := .disconnected, conn := x.attached })

/-- Steps 5 to 7. -/
def State.sliceUnits (s : State) (i : SliceId) (fifo : State → CfId → State) : State :=
  let s := s.sliceCtxs i
  let s := s.forAll ((allFin 48).filter (fun p => s.ownerPort p = some i)) State.slicePort
  let s := s.forAll ((allFin 32).filter (fun c => s.ownerCh c = some i)) State.dmAbort
  s.forAll ((allFin 4).filter (fun k => s.ownerCf k = some i)) fifo

/-- Step 3 of a reset: every item ends ABORTED with DETAIL 0x02. Items not in SERVICE commit through the retire list
under the completion credit rule; their records carry the new generation. In the activation pause they end when dispatch
resumes (spec/13_firmware_and_settings.md R371). -/
def State.sliceItems (s : State) (i : SliceId) : State :=
  ((s.wis.filter (fun it => it.owner == some i)).foldl (fun t it =>
    let t := t.modItem it.id (fun x => { x with freshGen := true, ending := none })
    let it := { it with freshGen := true, ending := none, retire := none }
    if it.inService then t.endItem it 0x0C 0x02 true
    else if t.fw.paused then t.endLater it.id 0x0C 0x02
    else t.toRetire it.id 0x0C 0x02) s).requeue

/-- The items of a slice that is removed or has faulted: their records are discarded, so they end at once, one on the
wire at its transaction boundary, and in the activation pause when dispatch resumes (spec/13_firmware_and_settings.md
R371). They keep a generation before the slice's, whatever becomes of it. -/
def State.dropItems (s : State) (i : SliceId) : State :=
  let old := s.slices[i].gen - 1
  ((s.wis.filter (fun it => it.owner == some i)).foldl (fun t it =>
    let t := t.modItem it.id (fun x => { x with freshGen := false, ending := none, gen := old })
    let it := { it with freshGen := false, ending := none, gen := old }
    if it.inService then t.endItem it 0x0C 0x02 true
    else if t.fw.paused then t.endLater it.id 0x0C 0x02
    else t.complete it 0x0C 0x02 0) s).requeue

/-- Records of the slice that were committed in the cycle of RESET: GEN at its start is the old one, so they are
stale, and their CQ stands as it did before that cycle (R288). -/
def State.sliceCycle (s : State) (i : SliceId) : State :=
  let late (w : Posted) : Bool := w.owner == some i && w.since == s.now && (match w.kind with
    | .cq _ _ _ _ => true
    | _ => false)
  let gone := s.posted.filter late
  let s := gone.foldl (fun t _ => t.staleRecord (some i)) { s with posted := s.posted.filter (fun w => !late w) }
  s.forAll ((allFin 64).filter (fun q => s.ownerQp q = some i)) (fun t q =>
    match t.qps[q].cycle with
    | some c => if c.at_ = t.now then t.modQp q (fun x => { x with
        cqTail := c.tail, lastCqSeq := c.seq, coalCount := c.coalCount, coalHit := c.coalHit,
        coalStart := c.coalStart, cycle := none }) else t
    | none => t)

/-- CTRL.RESET (R284). -/
def State.sliceRst (s : State) (i : SliceId) : State :=
  if s.slices[i].st ≠ .active ∧ s.slices[i].st ≠ .faulted then s.cause (slicePage i) 1
  else
    let s := (s.newGen i).modSlice i (fun x => { x with st := .resetting })
    let s := ((((s.sliceQps i).sliceCycle i).sliceRecords i).withdrawOf i).sliceItems i
    s.sliceUnits i State.cfSliceReset

/-- A removed slice has drained: its resources return to the physical function, queue pairs disabled, channels halted
and FIFOs disabled and empty, whatever was started on them since (R272, R286, spec/11_capture.md R326). -/
def State.giveBack (s : State) (i : SliceId) : State :=
  let s := (s.sliceQps i).dropItems i
  let s := s.forAll ((allFin 32).filter (fun c => s.ownerCh c = some i)) (fun t c =>
    if t.dmchs[c].active then t.dmHalt c 7 1 else t)
  let s := s.forAll ((allFin 4).filter (fun k => s.ownerCf k = some i)) State.cfEmpty
  (s.modSlice i (fun x => { x with st := .none, qps := 0, ports := 0, chs := 0, cfs := 0 })).cfPortsMoved

/-- CTRL.REMOVE (R286). A removal started in RESETTING keeps its generation, and is over where DRAINED has set already
(R272). -/
def State.sliceRm (s : State) (i : SliceId) : State :=
  let st := s.slices[i].st
  if st = .none ∨ st = .removing then s.cause (slicePage i) 1
  else
    let s := if st = .resetting then s else s.newGen i
    let s := s.modSlice i (fun x => { x with st := .removing })
    let s := ((((s.sliceQps i).sliceCycle i).sliceRecords i).withdrawOf i).dropItems i
    let s := s.sliceUnits i State.cfEmpty
    let s := s.forAll ((allFin 48).filter (fun p => s.ownerPort p = some i)) (fun t p => t.askOff p none)
    if s.slices[i].drained then s.giveBack i else s

/-- An uncorrectable error in a structure the slice owns (R287); the code of LAST_FAULT. -/
def State.sliceFault (s : State) (i : SliceId) (code : Nat) : State :=
  let st := s.slices[i].st
  if st ≠ .active ∧ st ≠ .resetting then s
  else
    let s := if st = .resetting then s else s.newGen i
    let s := (s.modSlice i (fun x => { x with st := .faulted })).winCauseSet i 4
    let s := ((((s.sliceQps i).sliceCycle i).sliceRecords i).withdrawOf i).dropItems i
    let s := s.sliceUnits i State.cfSliceReset
    let o := at_ (slicePage i) 0x150
    ((s.setFld o 0 4 code).satF o 8 8 1).cause (slicePage i) 8

/-- Writes leave the link in order: with the last of an older generation every write before it has left. -/
def afterStale (stale : Posted → Bool) (l : List Posted) : List Posted :=
  (l.reverse.takeWhile (fun w => !stale w)).reverse

/-- Every write of an earlier generation has left (R283, R286). -/
def State.drain (s : State) (i : SliceId) : State :=
  if s.slices[i].drained then s
  else
    let g := s.slices[i].gen
    let s := { s with posted := afterStale (fun w => w.owner == some i && w.gen != g) s.posted }
    let s := (s.modSlice i (fun x => { x with drained := true })).cause (slicePage i) 7
    if s.slices[i].st = .removing then s.giveBack i else s

/-! ### Writes of the SLICE page (R273-R275, R289) -/

/-- A quota write (R274). -/
def State.setQuota (s : State) (i : SliceId) (k : QuotaKind) (v : Word) : State :=
  let p := slicePage i
  let q := bits v.toNat 0 13
  let exists_ := s.slices[i].st ≠ .none
  match k with
  | .wis =>
    if exists_ ∧ q ≤ 4096 ∧ !s.wisFits i q then (s.cause p 4).cause 0x050 0
    else s.fullMarks (s.plainWrite p 0x130 (2 ^ 32 - 1) v) none (some i)
  | .park => s.plainWrite p 0x134 (2 ^ 32 - 1) v
  | .gran => if exists_ ∧ q ≤ 6144 ∧ !s.granFits i q then s.cause p 5 else s.plainWrite p 0x138 (2 ^ 32 - 1) v

/-- Offset of a quota register. -/
def quotaAt : QuotaKind → Nat
  | .wis => 0x130
  | .park => 0x134
  | .gran => 0x138

/-- A PWR_MASK write (R275). -/
def State.setPwrMask (s : State) (i : SliceId) (high : Bool) (v : Word) : State :=
  let p := slicePage i
  let o := if high then 0x11C else 0x118
  let mask := s.reg (at_ p (if high then 0x114 else 0x110))
  let w := if high then v &&& 0xFFFF else v
  if s.slices[i].st ≠ .none ∧ w &&& ~~~mask ≠ 0 then s.cause p 3 else s.plainWrite p o (2 ^ 32 - 1) v

/-- A write of PASID, an ownership mask or DEV_TABLE: in NONE only (R273). -/
def State.sliceConfig (s : State) (i : SliceId) (o : Nat) (v : Word) : State :=
  if s.slices[i].st ≠ .none then s.cause (slicePage i) 1 else s.plainWrite (slicePage i) o (2 ^ 32 - 1) v

/-- A write of SLICE[s].CTRL: REMOVE wins over RESET (R288); each command that the state at the write does not accept
sets STATE_BUSY (R272). -/
def State.sliceCtrl (s : State) (i : SliceId) (v : Word) : State :=
  let s := s.plainWrite (slicePage i) 0x014 (2 ^ 32 - 1) v
  let new := bitAt v.toNat 0
  let ends := bitAt v.toNat 1 || bitAt v.toNat 2
  if s.slices[i].st = .none then (if new then s.create i else s).causeIf ends (slicePage i) 1
  else
    (if bitAt v.toNat 2 then s.sliceRm i else if bitAt v.toNat 1 then s.sliceRst i else s).causeIf new (slicePage i) 1

/-! ### Meanings -/

/-- SLICE_CREATE (R273). -/
def execSliceCreate (src : Source) (i : SliceId) (s : State) : Result :=
  done (s.gate src (slicePage i) 0x014 (fun t => t.create i))

/-- SLICE_RESET (R284). -/
def execSliceReset (src : Source) (i : SliceId) (s : State) : Result :=
  done (s.gate src (slicePage i) 0x014 (fun t => t.sliceRst i))

/-- SLICE_REMOVE (R286). -/
def execSliceRemove (src : Source) (i : SliceId) (s : State) : Result :=
  done (s.gate src (slicePage i) 0x014 (fun t => t.sliceRm i))

/-- SLICE_DRAINED (R283); not in FATAL (spec/14_attention_and_errors.md R389). -/
def execSliceDrained (i : SliceId) (s : State) : Result :=
  done (if s.held || s.fatal || !s.rootOn domSCHED then s else s.drain i)

/-- SLICE_QUOTA_WRITE (R274). -/
def execSliceQuotaWrite (src : Source) (i : SliceId) (which : QuotaKind) (v : Word) (s : State) : Result :=
  done (s.gate src (slicePage i) (quotaAt which) (fun t => t.setQuota i which v))

/-- PWR_MASK_WRITE (R275). -/
def execPwrMaskWrite (src : Source) (i : SliceId) (high : Bool) (v : Word) (s : State) : Result :=
  done (s.gate src (slicePage i) (if high then 0x11C else 0x118) (fun t => t.setPwrMask i high v))

end Sys2Proof.Machine
end

