-- ==== Sys2Proof/Machine/Fw.lean ====
section
/-!
DEFINITION. Firmware (spec/13_firmware_and_settings.md): Acorn's start-up, image checks, update commands, activation,
and the settings store. The replay of settings is in Access.lean, beside the register writes it makes.
-/

namespace Sys2Proof.Machine

open Sys2Proof

/-! ### The store die (R349, R350) -/

/-- A sector is erased. -/
def Store.erase (x : Store) (n : Nat) : Store := { x with erases := x.erases.set n (x.erases.getD n 0 + 1) }

/-- The state that the latest valid entry of a boot record gives. -/
def latestEntry (l : List BootEntry) : ImgState :=
  match (l.filter (fun e => e.valid)).getLast? with
  | some e => e.state
  | none => .invalid

/-- The image state of the boot record. -/
def Store.img (x : Store) : ImgState := latestEntry x.boot

/-- IMG_STATE: TRIAL until a confirm has ended. -/
def imgCode : ImgState → Nat
  | .invalid => 0
  | .trial => 1
  | .confirmed => 2
  | .confirmStart _ => 1

/-- Appends an entry of 64 bytes to the boot record; one whose program does not verify has no valid commit word. When the
sector is full the current state is the first entry of the other, and the full one is erased. -/
def Store.enter (x : Store) (e : ImgState) (ok : Bool) : Store :=
  let l := x.boot ++ [⟨e, ok⟩]
  if l.length < 1024 then { x with boot := l }
  else { x.erase (if x.boot2 then 2 else 1) with boot := [⟨latestEntry l, true⟩], boot2 := !x.boot2 }

/-- The slot sectors that an image of n chunks covers are erased. -/
def Store.eraseSlot (x : Store) (n : Nat) : Store :=
  let k := (n + 15) / 16
  { (List.range k).foldl (fun y i => y.erase (3 + i)) x with slot := x.slot.filter (fun c => decide (65536 * k ≤ c.1)) }

/-- The highest erase count of a settings sector (R370). -/
def Store.wear (x : Store) : Nat := (x.ring.map (fun n => x.erases.getD n 0)).foldl max 0

/-! ### Images (R351, R352) -/

/-- A little-endian header field of the stored image. -/
def Store.hdr (x : Store) (o n : Nat) : Nat := memRead x.slot o n

/-- Fields of the header. -/
def Store.imgVersion (x : Store) : Word := BitVec.ofNat 32 (x.hdr 0x008 4)
def Store.imgSvn (x : Store) : Nat := x.hdr 0x00C 1
def Store.imgMc (x : Store) : Nat := x.hdr 0x010 4
def Store.imgUcode (x : Store) : Nat := x.hdr 0x014 4
def Store.imgSchemaMin (x : Store) : Nat := x.hdr 0x018 2
def Store.imgSchemaMax (x : Store) : Nat := x.hdr 0x01A 2

def Store.head (x : Store) : ImgHead := ⟨x.imgVersion, x.imgSvn, x.imgSchemaMin, x.imgSchemaMax⟩

/-- The bytes in a range are all 0. -/
def Store.zeros (x : Store) (lo hi : Nat) : Bool := x.slot.all (fun c => decide (c.1 < lo) || decide (hi ≤ c.1))

/-- A body length in range, a multiple of 4 KiB (R351). -/
def lenOk (n max : Nat) : Bool := decide (4096 ≤ n) && decide (n ≤ max) && n % 4096 == 0

/-- Check 1 of R352. -/
def Store.hdrOk (x : Store) : Bool :=
  x.hdr 0 4 == 0x4E594D49 && x.hdr 4 2 == 1 && decide (x.hdr 6 2 < 2) && x.zeros 0x00D 0x010 && x.zeros 0x01C 0x020
    && x.zeros 0x1D0 0x1000 && lenOk x.imgMc 2097152 && lenOk x.imgUcode 262144
    && 4096 + x.imgMc + x.imgUcode == 4096 * x.slotChunks

/-- The body and the hash the header gives for it (check 4). -/
def Store.hashOk (x : Store) : Bool :=
  sha384 (memBytes x.slot 4096 (x.imgMc + x.imgUcode)) == BitVec.ofNat 384 (beNat (memBytes x.slot 0x020 48))

/-- The checks of R352 on the stored image: 0, or the result of the first that fails. -/
def Store.imgCheck (x : Store) : Nat :=
  let vkey := memBytes x.slot 0x050 96
  let ckey := memBytes x.slot 0x0B0 96
  let head := memBytes x.slot 0 0x110
  let custKey := match Config.customerKeyHash with
    | none => true
    | some h => x.hdr 6 2 == 1 && sha384 ckey == h
  let custSig := match Config.customerKeyHash with
    | none => true
    | some _ => ecdsaVerify ckey head (memBytes x.slot 0x170 96)
  if !x.hdrOk then 0x07
  else if !(sha384 vkey == Config.vendorKeyHash && custKey) then 0x08
  else if !(ecdsaVerify vkey head (memBytes x.slot 0x110 96) && custSig) then 0x09
  else if !x.hashOk then 0x0A
  else if x.imgSvn < x.secCount then 0x0B
  else if 64 < x.imgSvn then 0x0C
  else 0

/-! ### Start-up (R353, R355) -/

/-- ACORN_ONLY is entered: every Husk that holds a claim is asked off (R355). -/
def State.acornOnly (s : State) (why : Nat) : State :=
  let s := s.modFw (fun x => { x with mc := .acornOnly, why := why })
  s.forAll ((allFin 48).filter (fun (n : PortId) => s.husks[n].claim)) (fun t n => t.askOff n none)

/-- CONFIRMED is written and the counter stands at the image's SVN: the end of a confirm, and what Acorn makes of one that
was interrupted: the fuses left are burned (R353, R363, R365). -/
def State.finishConfirm (s : State) (detail : Nat) : State :=
  match s.store.img with
  | .confirmStart t =>
    let s := s.modStore (fun x => { x.enter .confirmed true with secCount := max x.secCount t })
    s.raise 4 2 detail s.store.secCount
  | _ => s

/-- The microcode and the management controller's code of the stored image. -/
def Store.microcode (x : Store) : List Host.Cell :=
  (x.slot.filter (fun c => decide (4096 + x.imgMc ≤ c.1) && decide (c.1 < 4096 + x.imgMc + x.imgUcode))).map
    (fun c => (c.1 - 4096 - x.imgMc, c.2))
def Store.mcCode (x : Store) : List Host.Cell :=
  (x.slot.filter (fun c => decide (4096 ≤ c.1) && decide (c.1 < 4096 + x.imgMc))).map (fun c => (c.1 - 4096, c.2))

/-- Bank 0 or 1. -/
def bankNo (b : Bool) : Fin 2 := if b then 1 else 0

/-- Acorn starts Imyon: the microcode goes to bank 0 of an empty control store, the code to the SRAM bank in use. -/
def State.startImyon (s : State) : State :=
  let b := s.fw.bank && s.fw.ucode
  s.modFw (fun x => { x with
    ucode := true, bank := b, ustore := if x.ucode then x.ustore else vset x.ustore 0 s.store.microcode
    sram := vset x.sram (bankNo b) s.store.mcCode, loaded := s.store.head })

/-- Acorn starts: it reads the boot record and the stored image, then starts Imyon or stays (R353). -/
def State.acornStart (s : State) : State :=
  let s := s.modFw (fun x => { x with mc := .loader, served := true, why := 0 })
  let s := s.finishConfirm 1
  if s.store.straps.getLsbD 4 then s.acornOnly 2
  else if s.store.img = .invalid ∨ s.store.imgCheck ≠ 0 then s.acornOnly 1
  else s.startImyon

/-- Acorn serves the FW page from its start (R353, R339). -/
def State.fwServe (s : State) : State := if s.mcRuns && !s.fw.served then s.acornStart else s

/-- Imyon has not become ready 500 ms after its start (R353). -/
def State.imyonLate (s : State) : State :=
  let s := s.fwServe
  if !s.mcRuns ∨ s.fw.mc ≠ .loader ∨ s.fw.paused then s
  else
    let n := s.fw.starts + 1
    let s := s.modFw (fun x => { x with starts := n })
    if 3 ≤ n then s.acornOnly 3 else s

/-! ### Commands (R356, R358) -/

/-- The source is the SMBus port. -/
def isSmbus (src : Source) : Bool :=
  match src with
  | .smbus => true
  | _ => false

/-- The running command will end with a result. -/
def State.result (s : State) (tag r : Nat) : State := s.modFw (fun x => { x with cmd := some (tag, some r) })

/-- FW.CMD starts a command unless one runs (R356). -/
def State.fwCmd (s : State) (op : Nat) (tag : BitVec 16) (act : Nat → State → State) : State :=
  let s := s.fwServe
  if s.fw.cmd.isSome then s.cause 4 1
  else act tag.toNat (s.setReg (at_ 4 0x100) (BitVec.ofNat 32 (op + tag.toNat * 2 ^ 16)))

/-- ARG0. -/
def State.arg0 (s : State) : Nat := s.fld (at_ 4 0x104) 0 32

/-- An update command: from the session owner, in an UPD_STATE its row allows (R356, R358). -/
def State.updCmd (s : State) (op : Nat) (src : Source) (tag : BitVec 16) (allowed : UpdState → Bool)
    (act : Nat → State → State) : State :=
  s.fwCmd op tag (fun t s =>
    if s.fw.upd ≠ .idle ∧ s.fw.updSmbus ≠ isSmbus src then s.result t 0x04
    else if !allowed s.fw.upd then s.result t 0x02
    else act t s)

/-- UPD_BEGIN. A boot-record entry or an erase that does not verify ends it with STORE_ERR and opens no session; after an
erase that fails the image is INVALID already (R356, R357). -/
def State.updBegin (s : State) (src : Source) (tag : BitVec 16) (o : BeginOutcome) : State :=
  s.updCmd 0x01 src tag (fun u => u != .activating) (fun t s =>
    let n := s.arg0
    if n < 3 ∨ 577 < n then s.result t 0x03
    else if !o.entry then (s.modStore (fun x => x.enter .invalid false)).result t 0x0D
    else
      let s := s.modStore (fun x => { (x.enter .invalid true).eraseSlot n with slotChunks := n })
      let s := s.modFw (fun x => { x with chunks := [], upd := if x.upd = .idle then .idle else .receiving })
      if !o.erase then s.result t 0x0D
      else
        (s.modFw (fun x => { x with upd := .receiving, updSmbus := isSmbus src, expected := n })).result t 0)

/-- Bytes [d, d + n) of a RAM replaced by the first n of another. -/
def memCopy (m : List Host.Cell) (d n : Nat) (b : List Host.Cell) : List Host.Cell :=
  m.filter (fun c => decide (c.1 < d)) ++ (b.filter (fun c => decide (c.1 < n))).map (fun c => (c.1 + d, c.2))
    ++ m.filter (fun c => decide (d + n ≤ c.1))

/-- Bytes [d, d + n) of a RAM, moved to 0. -/
def memCut (m : List Host.Cell) (d n : Nat) : List Host.Cell :=
  (m.filter (fun c => decide (d ≤ c.1) && decide (c.1 < d + n))).map (fun c => (c.1 - d, c.2))

/-- UPD_CHUNK (R357). -/
def State.updChunk (s : State) (src : Source) (tag : BitVec 16) (storeOk : Bool) : State :=
  s.updCmd 0x02 src tag (fun u => u == .receiving) (fun t s =>
    let k := s.arg0
    if s.fw.ptr ≠ 4096 then s.result t 0x03
    else if 577 ≤ k ∨ s.fw.expected ≤ k then s.result t 0x03
    else if s.fw.chunks.contains k then
      s.result t (if memCut s.store.slot (4096 * k) 4096 = memCut s.fw.buf 0 4096 then 0 else 0x05)
    else if !storeOk then s.result t 0x0D
    else
      let b := s.fw.buf
      let s := s.modStore (fun x => { x with slot := memCopy x.slot (4096 * k) 4096 b })
      (s.modFw (fun x => { x with chunks := x.chunks ++ [k] })).result t 0)

/-- UPD_VERIFY (R357). -/
def State.updVerify (s : State) (src : Source) (tag : BitVec 16) : State :=
  s.updCmd 0x03 src tag (fun u => u == .receiving) (fun t s =>
    if s.fw.chunks.length < s.fw.expected then s.result t 0x06
    else
      let r := s.store.imgCheck
      (if r = 0 then s.modFw (fun x => { x with upd := .verified }) else s).result t r)

/-- UPD_ACTIVATE: the prepare phase begins (R359). -/
def State.updActivate (s : State) (src : Source) (o : ActivateCmd) : State :=
  s.updCmd 0x04 src o.tag (fun u => u == .verified) (fun t s =>
    s.modFw (fun x => { x with upd := .activating, cmd := some (t, none), storeOk := o.trialOk }))

/-- The end of the prepare phase: the code is copied and its hash checked, the microcode is written, TRIAL is appended;
then dispatch pauses and the new image is entered (R359). A TRIAL entry that does not verify ends the command with STORE_ERR
(R357) and, as a bad hash does, leaves UPD_STATE RECEIVING (DESIGN CHOICE, log entry 26). -/
def State.activate (s : State) : State :=
  match s.fw.cmd with
  | some (t, none) =>
    if s.fw.upd ≠ .activating ∨ s.fw.paused ∨ !s.mcRuns then s
    else
      let x := s.store
      let s := s.modFw (fun f => { f with sram := vset f.sram (bankNo !f.bank) x.mcCode })
      if !x.hashOk then (s.modFw (fun f => { f with upd := .receiving })).result t 0x0A
      else
        let ok := s.fw.storeOk
        let s := (s.modFw (fun f => { f with ustore := vset f.ustore (bankNo !f.bank) x.microcode })).modStore
          (fun y => y.enter .trial ok)
        if !ok then (s.modFw (fun f => { f with upd := .receiving })).result t 0x0D
        else s.modFw (fun f => { f with
          paused := true, bank := !f.bank, ucode := true, mc := .loader, why := 0, loaded := x.head })
  | _ => s

/-- The image that was entered runs, whatever has become of the slot since (R373). -/
def State.runImage (s : State) : State :=
  s.modFw (fun f => { f with
    mc := .running, runVersion := f.loaded.version,
    runSvn := BitVec.ofNat 32 (f.loaded.svn + f.loaded.schemaMax * 2 ^ 16) })

/-- Imyon is ready in the pause: the activation has succeeded (R359, R362). -/
def State.activated (s : State) : State :=
  let t := match s.fw.cmd with
    | some c => c.1
    | none => 0
  let s := (s.runImage.modFw (fun x => { x with paused := false, upd := .idle })).enginesResume
  (s.raise 4 1 s.store.imgSvn (bits s.store.imgVersion.toNat 16 16)).result t 0

/-- The 1.5 ms of the pause are over (R361); in FATAL it lasts to the hot reset (spec/14_attention_and_errors.md
R389). What RESULT the command ends with is not stated: a free value (log entry 26). -/
def State.activationLate (s : State) : State :=
  if !s.fw.paused ∨ s.fatal then s
  else
    let t := match s.fw.cmd with
      | some c => c.1
      | none => 0
    let f := s.fresh
    let s := (f.2.modFw (fun x => { x with paused := false, upd := .idle })).enginesResume.cause 4 5
    (s.result t (f.1.setWidth 8).toNat).acornStart

/-- UPD_CONFIRM: CONFIRM_START, then the fuses (R363). The end of the command makes the image CONFIRMED. Which fuse
fails to verify is a free value. A CONFIRM_START that does not verify ends it with STORE_ERR, no fuse burned (R357). After a
CONFIRMED entry that did not verify IMG_STATE reads TRIAL, and the command may be given again (R356). -/
def State.updConfirm (s : State) (src : Source) (tag : BitVec 16) (o : ConfirmOutcome) : State :=
  s.updCmd 0x05 src tag (fun u => u == .idle) (fun t s =>
    if imgCode s.store.img ≠ 1 then s.result t 0x02
    else
      let svn := s.store.imgSvn
      let s := (s.modStore (fun x => x.enter (.confirmStart svn) o.start)).modFw (fun x =>
        { x with storeOk := o.done, confirming := o.start })
      if !o.start then s.result t 0x0D
      else if o.burn ∨ svn ≤ s.store.secCount then s.result t 0
      else
        let f := s.fresh
        (f.2.modStore (fun x =>
          { x with secCount := x.secCount + f.1.toNat % (svn - x.secCount) })).result t 0x0D)

/-- UPD_ABORT. -/
def State.updAbort (s : State) (src : Source) (tag : BitVec 16) : State :=
  s.updCmd 0x06 src tag (fun u => u == .receiving || u == .verified) (fun t s =>
    (s.modFw (fun x => { x with upd := .idle })).result t 0)

/-! ### The settings store (R366-R370) -/

/-- Bytes 0 to 11 and the payload of a record, which its CRC covers (R366). -/
def SetRec.bytes (r : SetRec) : List Byte :=
  leBytes 2 r.key ++ leBytes 2 r.schema ++ leBytes 2 (8 * r.payload.length) ++ [0, 0] ++ leBytes 4 r.serial
    ++ r.payload.flatMap (fun e => leBytes 4 e.1.toNat ++ leBytes 4 e.2.toNat)

/-- A record with its CRC and its COMMIT word. -/
def SetRec.made (key schema serial : Nat) (payload : List (Word × Word)) : SetRec :=
  let r : SetRec := { key := key, schema := schema, serial := serial, payload := payload, crc := 0, commit := 0x5A5AA5A5 }
  { r with crc := crc32 r.bytes }

/-- A record with a valid CRC and COMMIT. -/
def SetRec.valid (r : SetRec) : Bool := r.crc == crc32 r.bytes && r.commit == 0x5A5AA5A5

/-- The records that count: one without a valid CRC or COMMIT is ignored with the rest of its sector, and the sector in use
holds all records (R366, R370). -/
def sound (l : List SetRec) : List SetRec := l.takeWhile SetRec.valid

/-- The valid record of a key with the highest SERIAL. -/
def latest (l : List SetRec) (key : Nat) : Option SetRec :=
  (sound l).foldl (fun b r =>
    if r.key ≠ key then b
    else
      match b with
      | none => some r
      | some c => if c.serial < r.serial then some r else some c) none

/-- The live record of a key: one whose payload is not empty. -/
def liveOf (l : List SetRec) (key : Nat) : Option SetRec :=
  match latest l key with
  | some r => if r.payload.isEmpty then none else some r
  | none => none

/-- Inserts a record by ascending key. -/
def insertKey (r : SetRec) : List SetRec → List SetRec
  | [] => [r]
  | c :: t => if r.key < c.key then r :: c :: t else c :: insertKey r t

/-- The live records, ascending by key (R368). -/
def liveRecords (l : List SetRec) : List SetRec :=
  ((sound l).filter (fun r => liveOf l r.key == some r)).foldl (fun acc r => insertKey r acc) []

/-- Bytes a record takes: header, payload and COMMIT, padded to 16 (R366). -/
def recSize (r : SetRec) : Nat := (20 + 8 * r.payload.length + 15) / 16 * 16

/-- A settings sector, named by its place in the ring, fails: the next of the spare sectors 67 to 70 takes its place, or
the store becomes read-only (R349, R370). -/
def State.sectorFails (s : State) (k : Nat) : State :=
  if s.store.spares = 0 then
    ((s.modStore (fun x => { x with readOnly := true })).raise 4 4 0 0).cause 4 8
  else
    (s.modStore (fun x => { x with spares := x.spares - 1, ring := x.ring.set k (71 - x.spares) })).cause 4 7

/-- The sectors whose erase or program does not verify in a command, in the order in which they fail; the command that
finds no spare ends there. -/
def State.sectorsFail (s : State) (l : List (Fin 16)) : State :=
  s.forAll l (fun t k => if t.store.readOnly then t else t.sectorFails k.val)

/-- The change of sector: live records are copied on, the oldest sector is erased (R370). -/
def State.compact (s : State) : State :=
  s.modStore (fun x =>
    let l := liveRecords x.records
    { x.erase (x.ring.getD x.active 0) with records := l, active := (x.active + 1) % 16, fill := (l.map recSize).sum })

/-- SCHEMA_MIN and SCHEMA_MAX of the image that runs, or that Acorn is starting (R366, R369). -/
def State.schemas (s : State) : Nat × Nat :=
  (s.fw.loaded.schemaMin, s.fw.loaded.schemaMax)

/-- A live record outside the schemas of the image, the first by key (R369). -/
def State.unreadable? (s : State) : Option SetRec :=
  (liveRecords s.store.records).find? (fun r => decide (r.schema < s.schemas.1) || decide (s.schemas.2 < r.schema))

/-- Appends a record; the result code. The sectors it may fail in are the active one and, in a change of sector, the one
that is erased. Live records that leave no room in a sector: log entry 27. -/
def State.append (s : State) (key : Nat) (payload : List (Word × Word)) (st : StoreOutcome) : State × Nat :=
  let r := SetRec.made key s.schemas.2 (s.store.serial + 1) payload
  let old := s.store.active
  let full := decide (65536 < s.store.fill + recSize r)
  let s := if full then s.compact else s
  let now := s.store.active
  let s := s.sectorsFail (st.fails.filter (fun k => k.val == now || (full && k.val == old)))
  if s.store.readOnly then (s, 0x0E)
  else if 65536 < s.store.fill + recSize r then (s, 0x0D)
  else
    (s.modStore (fun x =>
      { x with records := x.records ++ [r], serial := r.serial, fill := x.fill + recSize r }), 0)

/-- A settings command: not in ACORN_ONLY (R355, R358). -/
def State.setCmd (s : State) (op : Nat) (tag : BitVec 16) (act : State → State × Nat) : State :=
  s.fwCmd op tag (fun t s =>
    if s.acorn then s.result t 0x11
    else
      let r := act s
      r.1.result t r.2)

/-- The first entries of the staging buffer. -/
def State.staged (s : State) (n : Nat) : List (Word × Word) :=
  (List.range n).map (fun i =>
    (BitVec.ofNat 32 (memRead s.fw.buf (8 * i) 4), BitVec.ofNat 32 (memRead s.fw.buf (8 * i + 4) 4)))

/-- SET_WRITE (R367, R369, R370). -/
def State.setWrite (s : State) (tag : BitVec 16) (st : StoreOutcome) : State :=
  s.setCmd 0x10 tag (fun s =>
    let key := s.arg0
    let len := s.fw.ptr
    if key < 1 ∨ 0xFFFE < key ∨ len < 8 ∨ 512 < len ∨ len % 8 ≠ 0 then (s, 0x03)
    else if s.store.readOnly then (s, 0x0E)
    else if s.unreadable?.isSome then (s, 0x0F)
    else s.append key (s.staged (len / 8)) st)

/-- SET_DELETE. -/
def State.setDelete (s : State) (tag : BitVec 16) (st : StoreOutcome) : State :=
  s.setCmd 0x11 tag (fun s =>
    if s.store.readOnly then (s, 0x0E)
    else if s.unreadable?.isSome then (s, 0x0F)
    else if (liveOf s.store.records s.arg0).isNone then (s, 0x10)
    else s.append s.arg0 [] st)

/-- SET_READ. -/
def State.setRead (s : State) (tag : BitVec 16) : State :=
  s.setCmd 0x12 tag (fun s =>
    match liveOf s.store.records s.arg0 with
    | none => (s, 0x10)
    | some r =>
      let n := 8 * r.payload.length
      let buf := (r.payload.zip (List.range r.payload.length)).foldl (fun b e =>
        memWrite (memWrite b (8 * e.2) 4 e.1.1.toNat) (8 * e.2 + 4) 4 e.1.2.toNat) s.fw.buf
      ((s.modFw (fun x => { x with buf := buf })).setReg (at_ 4 0x108) (BitVec.ofNat 32 n), 0))

/-- SET_FORMAT: the sectors in use are erased, and spares take the places of those that fail. One that fails with no spare
left ends it with the records as they were (DESIGN CHOICE, log entry 27). -/
def State.setFormat (s : State) (tag : BitVec 16) (st : StoreOutcome) : State :=
  s.setCmd 0x13 tag (fun s =>
    if s.arg0 ≠ 0xF0F0 then (s, 0x03)
    else if s.store.readOnly then (s, 0x0E)
    else
      let ring := s.store.ring
      let s := s.sectorsFail st.fails
      if s.store.readOnly then (s, 0x0E)
      else
        ((s.modStore (fun x => { ring.foldl Store.erase x with records := [], fill := 0 })).modFw
          (fun x => { x with unreadable := false }), 0))

/-! ### The end of a command, and the staging buffer (R356) -/

/-- The end of an UPD_CONFIRM that was carried out: the image is CONFIRMED, or TRIAL where a fuse failed; a CONFIRMED
entry that does not verify ends it with STORE_ERR, its fuses burned, and Acorn will finish the confirm (R353, R357, R363). -/
def State.confirmDone (s : State) (r : Nat) : State × Nat :=
  match s.store.img with
  | .confirmStart t =>
    if !s.fw.confirming then (s, r)
    else if r ≠ 0 then (s.modStore (fun x => x.enter .trial s.fw.storeOk), r)
    else if s.fw.storeOk then (s.finishConfirm 0, r)
    else (s.modStore (fun x => { x.enter .confirmed false with secCount := max x.secCount t }), 0x0D)
  | _ => (s, r)

/-- A command ends. -/
def State.cmdDone (s : State) : State :=
  match s.fw.cmd with
  | some (t, some r) =>
    let e := if s.fld (at_ 4 0x100) 0 8 = 0x05 then s.confirmDone r else (s, r)
    let s := e.1.modFw (fun x => { x with cmd := none, confirming := false, result := BitVec.ofNat 32 (e.2 % 256 + t * 2 ^ 16) })
    (s.cause 4 2).causeIf (e.2 ≠ 0) 4 3
  | _ => s

/-- A write of FW.DATA. -/
def State.stageWrite (s : State) (v : Word) : State :=
  if 4096 ≤ s.fw.ptr then s.cause 4 0
  else s.modFw (fun x => { x with buf := memWrite x.buf x.ptr 4 v.toNat, ptr := x.ptr + 4 })

/-- A read of FW.DATA; past the end it reads 0 (log entry 28). -/
def State.stageRead (s : State) : State :=
  let v := if 4096 ≤ s.fw.ptr then 0 else BitVec.ofNat 32 (memRead s.fw.buf s.fw.ptr 4)
  { s.modFw (fun x => { x with ptr := min 4096 (x.ptr + 4) }) with rd := .words [v] }

/-- CTRL.DATA_RST. -/
def State.stageReset (s : State) : State := s.modFw (fun x => { x with ptr := 0 })

/-! ### Meanings -/

/-- IMYON_START_TIMEOUT (R353). -/
def execImyonStartTimeout (s : State) : Result := done s.imyonLate

/-- UPD_BEGIN (R356). -/
def execUpdBegin (src : Source) (tag : BitVec 16) (store : BeginOutcome) (s : State) : Result :=
  done (s.gate src 4 0x100 (fun t => t.updBegin src tag store))

/-- UPD_CHUNK (R357). -/
def execUpdChunk (src : Source) (tag : BitVec 16) (storeOk : Bool) (s : State) : Result :=
  done (s.gate src 4 0x100 (fun t => t.updChunk src tag storeOk))

/-- UPD_VERIFY (R352). -/
def execUpdVerify (src : Source) (tag : BitVec 16) (s : State) : Result :=
  done (s.gate src 4 0x100 (fun t => t.updVerify src tag))

/-- UPD_ACTIVATE (R359). -/
def execUpdActivate (src : Source) (cmd : ActivateCmd) (s : State) : Result :=
  done (s.gate src 4 0x100 (fun t => t.updActivate src cmd))

/-- ACTIVATION_PAUSE (R359). -/
def execActivationPause (s : State) : Result := done s.activate

/-- ACTIVATION_WDOG (R361). -/
def execActivationWdog (s : State) : Result := done (if s.mcRuns then s.activationLate else s)

/-- UPD_CONFIRM (R363). -/
def execUpdConfirm (src : Source) (tag : BitVec 16) (store : ConfirmOutcome) (s : State) : Result :=
  done (s.gate src 4 0x100 (fun t => t.updConfirm src tag store))

/-- UPD_ABORT (R356). -/
def execUpdAbort (src : Source) (tag : BitVec 16) (s : State) : Result :=
  done (s.gate src 4 0x100 (fun t => t.updAbort src tag))

/-- SET_WRITE (R367). -/
def execSetWrite (src : Source) (tag : BitVec 16) (store : StoreOutcome) (s : State) : Result :=
  done (s.gate src 4 0x100 (fun t => t.setWrite tag store))

/-- SET_DELETE (R367). -/
def execSetDelete (src : Source) (tag : BitVec 16) (store : StoreOutcome) (s : State) : Result :=
  done (s.gate src 4 0x100 (fun t => t.setDelete tag store))

/-- SET_READ (R367). -/
def execSetRead (src : Source) (tag : BitVec 16) (s : State) : Result :=
  done (s.gate src 4 0x100 (fun t => t.setRead tag))

/-- SET_FORMAT (R367). -/
def execSetFormat (src : Source) (tag : BitVec 16) (store : StoreOutcome) (s : State) : Result :=
  done (s.gate src 4 0x100 (fun t => t.setFormat tag store))

/-- FW_COMMAND_DONE (R356). -/
def execFwCommandDone (s : State) : Result := done (if s.mcRuns then s.cmdDone else s)

/-- FW_DATA_ACCESS (R356): a write of the value, or a read. No slice window shows the page (R373). -/
def execFwDataAccess (src : Source) (v : Option Word) (s : State) : Result :=
  done (match v with
    | some w => s.gate src 4 0x110 (fun t => t.stageWrite w)
    | none => s.pageRead src 4 (fun t => t.stageRead))

/-- DATA_RST (R356). -/
def execDataRst (src : Source) (s : State) : Result := done (s.gate src 4 0x014 State.stageReset)

end Sys2Proof.Machine
end

