-- ==== Sys2Proof/Machine/Reset.lean ====
section
/-!
DEFINITION. Resets, the root PLL and CLK_AON, the return of power domains to ON, ECC errors and FATAL, the PCIe link
and configuration requests, and the test access port.
-/

namespace Sys2Proof.Machine

open Sys2Proof

/-! ### What a hot reset keeps (R52, R54, spec/15_register_map.md R396, R398) -/

/-- A register of a page that a power die holds. -/
def ofDie (ofs : Nat) : Bool :=
  match blockOf (ofs / 4096) with
  | .husk => true
  | .region => true
  | .pod => true
  | _ => false

/-- The value of a register after a hot reset: RWS fields, the two CAUSE bits of R396, and what the power dies hold or
measure. -/
def keptReg (ofs : Nat) (v : Word) : Word :=
  let page := ofs / 4096
  let o := ofs % 4096
  if ofDie ofs then
    (if o = 0x008 ∨ o = 0x00C ∨ o = 0x01C ∨ (blockOf page = .husk ∧ 0x120 ≤ o ∧ o < 0x140) then resetValue ofs else v)
  else if ofs = 0x008 then v &&& 0x100
  else if ofs = 0x2008 then v &&& 0x010
  else
    (fieldsAt page o).foldl (fun w f =>
      match f.acc with
      | .rws => putBits w f.lo f.len (bits v.toNat f.lo f.len)
      | .keep => putBits w f.lo f.len (bits v.toNat f.lo f.len)
      | _ => w) (resetValue ofs)

/-- The registers after a hot reset. -/
def keptRegs (l : List (Nat × Word)) : List (Nat × Word) :=
  (l.map (fun c => (c.1, keptReg c.1 c.2))).filter (fun c => c.2 != resetValue c.1)

/-- A region through a reset of the control die: its frames have stopped; the copy of its settings is lost with the
control die (spec/08_regions_feeds_budgets.md R252). -/
def Region.ctlReset (x : Region) : Region :=
  { x with
    linkUp := false, parked := false, warned := false, writeBack := false, copied := false, copy := [], copyCurve := [], pkgCur := 0,
    pkgTemp := 0, pkgClaim := 0, plan := if x.planRs then none else x.plan, planRs := false,
    reports := if x.noWriteBack && !x.reports.contains .noWriteBack then x.reports ++ [.noWriteBack] else x.reports }

/-- A channel through a reset of the control die: the pending curve, the requests that wait there and their items are
gone; an attempt held on the power die stays (spec/07_husk_power_path.md R219, R247). -/
def Husk.ctlReset (x : Husk) : Husk :=
  { x with wait := [], curvePend := false, pendOwn := x.pendOwn || x.pendItem, pendItem := false }

/-- A settings record whose command a reset interrupts has no COMMIT word: it is ignored with the rest of its sector
(spec/13_firmware_and_settings.md R366, R371). The entries of the boot record are whole by then: R365 gives them. -/
def State.tornStore (s : State) : Store :=
  let op := s.fld (at_ 4 0x100) 0 8
  match s.fw.cmd with
  | some (_, some 0) =>
    if op = 0x10 ∨ op = 0x11 then
      { s.store with
        records := s.store.records.dropLast ++ (s.store.records.getLast?.map (fun r =>
          { r with commit := 0xFFFFFFFF })).toList
        serial := s.store.serial - 1, fill := 65536 }
    else s.store
  | _ => s.store

/-- The control die at its reset: every field and RAM at its Reset value; the registers `regs` and what lies outside
the control die are kept. -/
def State.controlReset (s : State) (regs : List (Nat × Word)) (seq : Word) : State :=
  let s := s.forAll (allFin 4) State.framesStop
  let r := State.reset
  { r with
    pending := s.pending, now := s.now, nextId := s.nextId, ordinal := s.ordinal, free := s.free,
    regs := regs, seq := seq, husks := s.husks.map Husk.ctlReset,
    ports := s.ports.map (fun (x : Port) => { Port.init with line := x.line })
    regions := s.regions.map Region.ctlReset
    gaps := s.gaps.filter (fun g => !shedOnControl g.1), overRuns := s.overRuns.filter (fun g => !shedOnControl g.1),
    store := s.tornStore, tap := s.tap,
    ctl := { Ctl.init with
      perstLow := s.ctl.perstLow, perstHold := s.ctl.perstHold, timedHold := s.ctl.timedHold, pllHold := s.ctl.pllHold,
      thermHold := s.ctl.thermHold, rebuild := true }
    att := { r.att with intN := s.att.intN }
    pci := { r.pci with
      aerInternal := s.pci.aerInternal, aerMasked := s.pci.aerMasked, aerSevere := s.pci.aerSevere } }

/-- The control die enters hot reset (R52, R438). -/
def State.hotReset (s : State) : State := s.controlReset (keptRegs s.regs) s.seq

/-- The control die is released unless another hold is in force: Pods with a Husk on are ON, ports with a Husk on come
up in DISCONNECTED, and Acorn starts (R54, spec/13_firmware_and_settings.md R353). -/
def State.releaseDie (s : State) : State :=
  if s.held then s
  else
    let s := s.forAll (allFin 12) (fun t k =>
      if (portsOfPod k).any (fun n => t.husks[n].driven) then
        t.modDom (podDom k) (fun x => { x with st := .on, target := 0 })
      else t)
    let s := s.forAll ((allFin 48).filter (fun (n : PortId) => s.husks[n].st == .on)) State.portGood
    s.acornStart

/-! ### Power-on reset (R52, R53, R439, spec/16_pins_and_electrical.md R413, R419) -/

/-- The straps as latched: one that changed inside its window has a free value (log entry 13). -/
def State.latchStraps (s : State) (p : Straps) : State :=
  let f := s.fresh
  f.2.modStore (fun x => { x with
    straps := (p.pins &&& ~~~p.unstable) ||| (f.1.setWidth 5 &&& p.unstable), debugFuse := p.debugFuse })

/-- Power-on reset of the control die. A die too hot stays held. PERST_N low from before it holds the PCIe link only:
the PLL locks and Acorn serves SMBus all the same (spec/16_pins_and_electrical.md R419, spec/17_bring_up.md R432). The
power dies run on with the settings they hold until the reset frame (R439). -/
def State.powerOn (s : State) (p : Straps) : State :=
  let s := s.modCtl (fun x => { x with perstHold := false, timedHold := false, pllHold := false })
  let s := s.controlReset ((keptRegs s.regs).filter (fun c => (allFin 4).any (fun m => (dieSettings m).contains c.1))) 0
  let s := s.modPci (fun x => { x with aerInternal := false, aerMasked := true, aerSevere := true })
  let s := { s with tap := State.reset.tap, att := Att.init,
                    ports := s.ports.map (fun (_ : Port) => Port.init) }
  let s := s.modCtl (fun x => { x with rebuild := false })
  let s := s.latchStraps p
  if s.held then s else s.acornStart

/-! ### The root PLL (R34, spec/15_register_map.md R404) -/

/-- The root PLL locks. -/
def State.pllLocks (s : State) : State :=
  let others := s.ctl.perstHold || s.ctl.timedHold || s.ctl.thermHold
  if s.ctl.pllLock ∨ s.ctl.pllStopped ∨ (others ∧ !s.ctl.pllHold) then s
  else
    let was := s.ctl.pllHold
    let s := (s.satF (at_ 2 0x104) 0 16 1).modCtl (fun x =>
      { x with pllLock := true, pllHold := false, pllWaits := false })
    if was then s.releaseDie else s

/-- FATAL_INFO of a FATAL or a loss of lock: the count rises; the rest is written once (R387, R402, R404). -/
def State.fatalInfo (s : State) (id inst : Nat) : State :=
  let o := at_ 0 0x128
  let s := s.satF o 24 8 1
  if s.fld o 0 8 = 0 then ((s.setFld o 0 8 id).setFld o 8 3 0).setFld o 16 8 (inst % 256) else s

/-- The root PLL loses lock. -/
def State.pllLoses (s : State) : State :=
  if !s.ctl.pllLock then s
  else
    let s := (s.fatalInfo 0x0F 0).satF (at_ 2 0x104) 16 16 1
    ((s.cause 2 4).modCtl (fun x => { x with pllHold := true })).hotReset

/-! ### The CLOCK page (R36, spec/15_register_map.md R405) -/

/-- A write of CLOCK.CTRL: AON_XTAL from 0 to 1 starts a qualification; MC_CLK is refused while the PLL is not
locked. AON_XTAL from 1 to 0 returns CLK_AON to the RC, from which the crystal is qualified again, and leaves a
qualification running: no rule says what it does (DESIGN CHOICE, log entry 64). -/
def State.clockCtrl (s : State) (v : Word) : State :=
  let o := at_ 2 0x014
  let x := bitAt v.toNat 0
  let s := if x && !s.flag o 0 then s.modCtl (fun c => { c with qual := true })
    else if x then s else s.modCtl (fun c => { c with onXtal := false })
  let s := s.setFld o 0 1 (b2n x)
  if bitAt v.toNat 1 then
    if s.ctl.pllLock then s.setFld o 1 1 1 else s.cause 2 3
  else (s.setFld o 1 1 0).pllCheck

/-- The qualification ends: CLK_AON runs from the crystal where it has passed, and from the RC where it has failed
(R405). -/
def State.qualDone (s : State) (n : Nat) : State :=
  if !s.ctl.qual then s
  else
    let s := (s.setReg (at_ 2 0x100) (BitVec.ofNat 32 n)).modCtl (fun x => { x with qual := false })
    if 4056 ≤ n ∧ n ≤ 4136 then s.modCtl (fun x => { x with onXtal := true })
    else (s.modCtl (fun x => { x with onXtal := false })).cause 2 1

/-- The crystal stops after the switch. -/
def State.xtalStop (s : State) : State :=
  if s.ctl.onXtal then (s.modCtl (fun x => { x with onXtal := false })).cause 2 2 else s

/-! ### FATAL (spec/14_attention_and_errors.md R387) -/

/-- An Uncorrectable Internal Error that is not masked sends the error message of its severity where that message is
enabled (PCI Express Base Specification, named by spec/00_scope.md R5; log entry 11). -/
def State.errMessage (s : State) : State :=
  let x := s.pci
  if x.aerMasked || !(if x.aerSevere then x.fatalEn else x.nonFatalEn) then s
  else s.modAtt (fun a => { a with msgs := a.msgs ++ [if x.aerSevere then 35 else 36] })

/-- FATAL occurs, or counts while one is in force. -/
def State.setFatal (s : State) (id inst : Nat) : State :=
  if s.fatal then s.satF (at_ 0 0x128) 24 8 1
  else
    let s := (s.fatalInfo id inst).cause 0 8
    ((s.modCtl (fun x => { x with fatal := true, fatalReset := false })).modPci (fun x =>
      { x with aerInternal := true })).errMessage

/-! ### ECC and parity (spec/14_attention_and_errors.md R383-R386) -/

/-- The structure ID. -/
def eccId : EccStruct → Nat
  | .wis => 0x01
  | .flowTable => 0x02
  | .park => 0x03
  | .ctxCache => 0x04
  | .ebr => 0x05
  | .pushBuffer => 0x06
  | .engine => 0x07
  | .pram => 0x08
  | .dmChannel => 0x09
  | .captureFifo => 0x0A
  | .saveRam => 0x0B
  | .mcSram => 0x0C
  | .frameTimer => 0x0D
  | .fabric => 0x0E

/-- Who holds a live word. -/
inductive EccOwner where
  | slice (i : SliceId)
  | other
  | nothing
  deriving DecidableEq, Repr

/-- The holder of a live word by its owner. -/
def EccOwner.of : Option SliceId → EccOwner
  | some i => .slice i
  | none => .other

/-- The owner of the word an error names (R385). A name that names nothing holds nothing live. -/
def State.eccOwner (s : State) (k : EccStruct) (inst : Nat) : EccOwner :=
  match k with
  | .wis =>
    match s.item? inst with
    | some it => .of it.owner
    | none => .nothing
  | .park =>
    match s.park[inst]? with
    | some r => .of r.owner
    | none => .nothing
  | .ctxCache =>
    match s.ctxs[inst]? with
    | some c => if c.cached then .of c.owner else .nothing
    | none => .nothing
  | .ebr =>
    match s.item? inst with
    | some it => if it.inService then .of it.owner else .nothing
    | none => .nothing
  | .pushBuffer =>
    if h : inst < 64 then (if s.qps[inst].push.isEmpty then .nothing else .of (s.ownerQp ⟨inst, h⟩)) else .nothing
  | .dmChannel => if h : inst < 32 then .of (s.ownerCh ⟨inst, h⟩) else .nothing
  | .captureFifo => if h : inst < 4 then .of (s.ownerCf ⟨inst, h⟩) else .nothing
  | .fabric => if h : inst < 32 then .slice ⟨inst, h⟩ else .other
  | _ => .other

/-- SLICE[s].LAST_FAULT code of a structure (spec/09_slices.md R289). -/
def eccFault : EccStruct → Nat
  | .wis => 1
  | .park => 2
  | .ctxCache => 3
  | .ebr => 4
  | .pushBuffer => 5
  | .dmChannel => 6
  | .captureFifo => 7
  | _ => 8

/-- The engine, channel, FIFO or slice that ECC_LAST names (R402). -/
def State.eccInst (s : State) (k : EccStruct) (inst : Nat) : Nat :=
  match k with
  | .engine => inst
  | .pram => inst
  | .dmChannel => inst
  | .captureFifo => inst
  | .ebr =>
    match s.eccOwner k inst with
    | .slice i => i.val
    | _ =>
      match s.item? inst with
      | some it => (it.engine?.map (fun e => e.val)).getD 0
      | none => 0
  | _ =>
    match s.eccOwner k inst with
    | .slice i => i.val
    | _ => 0

/-- ECC_LAST. -/
def State.eccLast (s : State) (k : EccStruct) (inst : Nat) (uncorr : Bool) : State :=
  s.setReg (at_ 0 0x11C) (BitVec.ofNat 32 ((eccId k) + b2n uncorr * 256 + s.eccInst k inst % 256 * 2 ^ 16))

/-- A corrected error (R384). A block that is off keeps no count. -/
def State.eccCorr (s : State) (k : EccStruct) (inst : Nat) : State :=
  let s := s.eccLast k inst false
  match k with
  | .ebr => (s.sat (at_ 0x070 0x118)).cause 0x070 3
  | .captureFifo => if h : inst < 4 then (s.sat (at_ 0 0x114)).cause (cfPage ⟨inst, h⟩) 5 else s.sat (at_ 0 0x114)
  | _ => (s.sat (at_ 0 0x114)).cause 0 3

/-- A live word of the physical function, or of no owner (R385). -/
def State.eccGlobal (s : State) (k : EccStruct) (inst : Nat) : State :=
  match k with
  | .ebr =>
    match s.item? inst with
    | some it =>
      let s := match it.x.iso.findIdx? (fun p => !p.served) with
        | some i => s.isoServe it i 4 0
        | none => s
      s.endItems (fun x => x.id == it.id) 0x05 0x05 false
    | none => s
  | .captureFifo => if h : inst < 4 then s.cfFlush ⟨inst, h⟩ else s
  | _ => s.setFatal (eccId k) (s.eccInst k inst)

/-- The cause on the page of the block, live or not. -/
def State.eccCause (s : State) (k : EccStruct) (inst : Nat) (live : Bool) : State :=
  match k with
  | .ebr => s.cause 0x070 4
  | .captureFifo => if h : inst < 4 then s.causeIf live (cfPage ⟨inst, h⟩) 6 else s
  | _ => s

/-- An uncorrectable error (R385). While FATAL is set a live one counts in FATAL_INFO and has no other result (R387,
R389); ECC_LAST and the count of R402 follow it all the same (log entry 37). A program RAM word halts its channel where
that runs or waits (spec/10_data_mover.md R292). -/
def State.eccUncorr (s : State) (k : EccStruct) (inst : Nat) (live : Bool) : State :=
  let owner := s.eccOwner k inst
  let live := live && owner != .nothing
  let s := (s.eccLast k inst true).sat (at_ 0 0x118)
  let s := if live && s.fatal then s else s.eccCause k inst live
  if !live then s.cause 0 4
  else if s.fatal then s.setFatal (eccId k) 0
  else
    match k with
    | .pram =>
      if h : inst < 32 then
        (if s.dmchs[inst].st = .running ∨ s.dmchs[inst].st = .waiting then s.dmHalt ⟨inst, h⟩ 6 8 else s)
      else s
    | _ =>
      match owner with
      | .slice i => s.sliceFault i (eccFault k)
      | _ => s.eccGlobal k inst

/-- The block that holds a structure has power. -/
def State.eccPowered (s : State) (k : EccStruct) : Bool :=
  !s.held &&
    (match k with
     | .ebr => s.doms[domEBR].st != .off
     | .mcSram => s.doms[domMC].st != .off
     | .frameTimer => s.domOn domTIME
     | .pram => s.doms[domDM].st != .off
     | .dmChannel => s.domOn domDM
     | .captureFifo => s.domOn domCAP
     | .saveRam => true
     | .fabric => true
     | .engine => true
     | _ => s.domOn domSCHED)

/-- What a scrubber read found (R383); a corrected word of the Endpoint Buffer RAM is being written back (R334, log
entry 63). -/
def State.scrub (s : State) (k : EccStruct) (inst : Nat) (r : ScrubResult) : State :=
  match r with
  | .clean => s
  | .corrected => (s.eccCorr k inst).modCtl (fun x => { x with scrubWb := x.scrubWb || k == .ebr })
  | .uncorrectable live => s.eccUncorr k inst live

/-- A parity error on a register access (R386). -/
def State.parity (s : State) : State := (s.sat (at_ 0 0x120)).cause 0 5

/-! ### Return of a domain to ON (spec/12_power_domains.md R336-R338, R342) -/

/-- The registers of a page that the save RAM keeps (R336). -/
def savedReg (page o : Nat) : Bool :=
  match blockOf page with
  | .slice => o == 0x00C || o == 0x148 || o == 0x14C || o == 0x150 || !(fieldsAt page o).isEmpty
  | .time => [0x00C, 0x018, 0x110, 0x140, 0x144, 0x148, 0x14C, 0x15C].contains o
  | .dm => [0x00C, 0x108, 0x10C, 0x110].contains o
  | .fw => false
  | _ => !(fieldsAt page o).isEmpty

/-- A page belongs to a domain. -/
def pageIn (d : DomId) (page : Nat) : Bool := domainOf (blockOf page) == some d

/-- Every register of the domain's pages that is not saved takes its Reset value; events waiting in its sources are
gone with their logic. -/
def State.restoreRegs (s : State) (d : DomId) : State :=
  let s := s.resetRegs (fun ofs => pageIn d (ofs / 4096) && !savedReg (ofs / 4096) (ofs % 4096))
  { s with events := s.events.filter (fun w => !pageIn d w.page) }

/-- SCHED returns: queue pairs disabled, no item, record, context or claim; slices keep their state and masks. -/
def State.schedReturn (s : State) : State :=
  let r := State.reset
  { s with
    qps := r.qps, wis := [], park := [], visitPtr := r.visitPtr, perPtr := 0, rrPtr := 0, wisPeak := 0, flowPeak := 0,
    pfPeak := 0, poolWaits := [], engs := r.engs, ctxs := [], closed := [], flushing := false,
    slices := s.slices.map (fun (x : Slice) => { x with winCause := 0, peakUse := 0 }) }

/-- HOST returns. From OFF the link trains as after PERST_N release (R338). -/
def State.hostReturn (s : State) (wasOff : Bool) : State :=
  s.modPci (fun x =>
    if wasOff then { x with ready := false, training := true, inL1 := false, inL2 := false, width := 0, speed := 0 }
    else { x with inL1 := false })

/-- MC returns on FIO: from RET it resumes, from OFF it restarts through Acorn (R336, R342). -/
def State.mcReturn (s : State) (wasOff : Bool) : State :=
  let s := (s.setFld (at_ 2 0x014) 1 1 0).modCtl (fun x => { x with sclHeld := false })
  let s := s.modFw (fun x =>
    let y : Fw := if wasOff then { Fw.init with ucode := x.ucode, bank := x.bank, ustore := x.ustore, starts := x.starts } else x
    { y with result := 0, ptr := 0, skipped := 0, expected := 0, chunks := [] })
  if wasOff then s.acornStart else s

/-- DM returns: RESULT, DETAIL and IDLE or HALTED are kept, and the program RAM unless it was OFF. -/
def State.dmReturn (s : State) (wasOff : Bool) : State :=
  { s with
    dmchs := s.dmchs.map (fun (x : Dmch) =>
      { Dmch.init with st := x.st, result := x.result, detail := x.detail, gen := x.gen })
    dms := s.dms.map (fun (x : Dm) => { ram := if wasOff then [] else x.ram, part := 0 }) }

/-- TIME returns (spec/06_frame_timing.md R213): REF keeps its frame index. -/
def State.timeRestore (s : State) : State :=
  ({ s with refClk :=
      { Clk.init with frindex := s.refClk.frindex, count := s.refClk.count, lastBoundary := s.refClk.lastBoundary }
  }).timeReturn

/-- The contents of a domain at its return. -/
def State.contents (s : State) (d : DomId) (wasOff : Bool) : State :=
  if d = domHOST then s.hostReturn wasOff
  else if d = domSCHED then s.schedReturn
  else if d = domEBR then { s with poolPeak := 0 }
  else if d = domTIME then s.timeRestore
  else if d = domMC then s.mcReturn wasOff
  else if d = domDM then s.dmReturn wasOff
  else if d = domCAP then { s with cfs := s.cfs.map (fun (_ : Cf) => Cf.init) }
  else
    match podOfDom d with
    | some k => s.forAll (portsOfPod k) State.portPower
    | none => s

/-- An exit ends: the saved fields are restored and the domain is ON; a restore that fails counts as an uncorrectable
error of the save RAM and is a FATAL, and the domain never comes into service (R337, spec/14_attention_and_errors.md
R385). -/
def State.exitDone (s : State) (d : DomId) (saveErr : Bool) : State :=
  let x := s.doms[d]
  if s.held ∨ x.st ≠ .exiting ∨ x.failed ∨ !(needs d).all s.domOn then s
  else if saveErr && x.hasSaved && d != domMC then
    let s := s.modDom d (fun y => { y with failed := true })
    let s := (s.cause 3 5).setFld (at_ 3 0x28C) 24 5 d.val
    ((s.eccLast .saveRam 0 true).sat (at_ 0 0x118)).setFatal 0x0B 0
  else
    let s := s.restoreRegs d
    let s := s.modDom d (fun y => { y with st := .on, phase := .none, hasSaved := false, held := false })
    s.contents d (!x.held)

/-! ### PCIe (R419, spec/12_power_domains.md R334) -/

/-- Lanes of a link width. -/
def laneCount : LinkWidth → Nat
  | .x1 => 1
  | .x2 => 2
  | .x4 => 4

/-- What a base address register reads: BAR0 with BAR1 and BAR2 with BAR3 are 64-bit, non-prefetchable and 2 MiB; BAR4
and BAR5 are absent (spec/15_register_map.md R391). -/
def Pci.bar (x : Pci) (n : Fin 6) : Word :=
  match n with
  | 0 => x.bar0.setWidth 32 ||| 4
  | 1 => (x.bar0 >>> 32).setWidth 32
  | 2 => x.bar2.setWidth 32 ||| 4
  | 3 => (x.bar2 >>> 32).setWidth 32
  | _ => 0

/-- A base address with its low or its high dword written: bits [20:0] read 0. -/
def barPut (base : BitVec 64) (high : Bool) (v : Word) : BitVec 64 :=
  if high then v ++ base.setWidth 32 else (base >>> 32).setWidth 32 ++ (v &&& 0xFFE00000)

/-- A write of a base address register. -/
def Pci.barWrite (x : Pci) (n : Fin 6) (v : Word) : Pci :=
  match n with
  | 0 => { x with bar0 := barPut x.bar0 false v }
  | 1 => { x with bar0 := barPut x.bar0 true v }
  | 2 => { x with bar2 := barPut x.bar2 false v }
  | 3 => { x with bar2 := barPut x.bar2 true v }
  | _ => x

/-- What a configuration read, or a read of the MSI-X table or pending bits, returns: what the rules give, laid out as the PCI Express
Base Specification lays it out; any other register is that specification's and a free value (log entry 11). -/
def Pci.cfg (x : Pci) (pend : BitVec 33) (r : ConfigReg) (free : Word) : List Word :=
  match r with
  | .linkStatus => [BitVec.ofNat 32 (x.speed + 16 * x.width)]
  | .powerState => [if x.d3hot then 3 else 0]
  | .msixControl => [BitVec.ofNat 32 (32 + 16384 * b2n x.msixMask + 32768 * b2n x.msixEn)]
  | .pasidControl => [BitVec.ofNat 32 (b2n x.pasidEn)]
  | .aerStatus => [BitVec.ofNat 32 (2 ^ 22 * b2n x.aerInternal)]
  | .aerMask => [BitVec.ofNat 32 (2 ^ 22 * b2n x.aerMasked)]
  | .aerSeverity => [BitVec.ofNat 32 (2 ^ 22 * b2n x.aerSevere)]
  | .errorControl => [BitVec.ofNat 32 (2 * b2n x.nonFatalEn + 4 * b2n x.fatalEn)]
  | .bar n => [x.bar n]
  | .expansionRom => [0]
  | .pendingBits => [pend.setWidth 32, (pend >>> 32).setWidth 32]
  | .vector v => [x.vecAddr[v].setWidth 32, (x.vecAddr[v] >>> 32).setWidth 32, x.vecData[v],
      BitVec.ofNat 32 (b2n (x.vecMask.getLsbD v.val))]
  | .other => [free]

/-- A configuration request is carried out (R419, R5). HOST answers it while it is ON, after a restore
(spec/12_power_domains.md R336, R344); with PERST_N low the link does not train. -/
def State.config (s : State) (r : ConfigReq) : State :=
  if s.held ∨ s.ctl.perstLow ∨ !s.domOn domHOST ∨ s.pci.inL2 then { s with rd := .none }
  else
    match r with
    | .elapsed w g => s.modPci (fun x =>
        if x.training then { x with training := false, ready := true, width := laneCount w, speed := g.val + 1 } else x)
    | r =>
      if !s.pci.ready then { s with rd := .retryStatus }
      else
        match r with
        | .elapsed _ _ => s
        | .powerState d => s.modPci (fun x => { x with d3hot := d })
        | .msix en m => s.modPci (fun x => { x with msixEn := en, msixMask := m })
        | .vectorMask v m => s.modPci (fun x => { x with
            vecMask := if m then x.vecMask ||| (1#33 <<< v.val) else x.vecMask &&& ~~~(1#33 <<< v.val) })
        | .vectorEntry v a d => s.modPci (fun x => { x with
            vecAddr := vset x.vecAddr v (a &&& ~~~3#64), vecData := vset x.vecData v d })
        | .pasid en => s.modPci (fun x => { x with pasidEn := en })
        | .aerMask m => s.modPci (fun x => { x with aerMasked := m })
        | .aerSeverity m => s.modPci (fun x => { x with aerSevere := m })
        | .errorControl n m => s.modPci (fun x => { x with nonFatalEn := n, fatalEn := m })
        | .bar n v => s.modPci (fun x => x.barWrite n v)
        | .aerClear => s.modPci (fun x => { x with aerInternal := false })
        | .read q =>
          let f := s.fresh
          { f.2 with rd := .words (s.pci.cfg s.att.pend q (f.1.setWidth 32)) }

/-! ### The test access port (R429, log entry 12) -/

/-- The next controller state (IEEE 1149.1). -/
def TapState.next (x : TapState) (tms : Bool) : TapState :=
  match x, tms with
  | .reset, true => .reset
  | .reset, false => .idle
  | .idle, true => .selDr
  | .idle, false => .idle
  | .selDr, true => .selIr
  | .selDr, false => .capDr
  | .capDr, true => .ex1Dr
  | .capDr, false => .shDr
  | .shDr, true => .ex1Dr
  | .shDr, false => .shDr
  | .ex1Dr, true => .updDr
  | .ex1Dr, false => .pauDr
  | .pauDr, true => .ex2Dr
  | .pauDr, false => .pauDr
  | .ex2Dr, true => .updDr
  | .ex2Dr, false => .shDr
  | .updDr, true => .selDr
  | .updDr, false => .idle
  | .selIr, true => .reset
  | .selIr, false => .capIr
  | .capIr, true => .ex1Ir
  | .capIr, false => .shIr
  | .shIr, true => .ex1Ir
  | .shIr, false => .shIr
  | .ex1Ir, true => .updIr
  | .ex1Ir, false => .pauIr
  | .pauIr, true => .ex2Ir
  | .pauIr, false => .pauIr
  | .ex2Ir, true => .updIr
  | .ex2Ir, false => .shIr
  | .updIr, true => .selDr
  | .updIr, false => .idle

/-- IDCODE: stepping letter, part number, and the vendor's low bits. -/
def idcode : BitVec 32 := (1#4 ++ 0x4810#16) ++ Config.idcodeLow

/-- The instruction selects the boundary register: EXTEST or SAMPLE. -/
def Tap.scans (x : Tap) : Bool := x.ir == 0 || x.ir == 2

/-- What the selected data register captures: IDCODE, the boundary cells, or the bypass bit. -/
def Tap.capture (x : Tap) : List Bool :=
  if x.ir = 1 then (List.range 32).map (fun i => idcode.getLsbD i)
  else if x.scans then (List.range Config.boundaryLength).map (Config.boundaryCell x.captures)
  else [false]

/-- A rising edge of TCK: the present state captures or shifts, then TMS chooses the next. -/
def Tap.rise (x : Tap) (tms tdi : Bool) : Tap :=
  let y : Tap :=
    match x.st with
    | .capDr => { x with dr := x.capture, captures := x.captures + b2n x.scans }
    | .shDr => { x with dr := x.dr.drop 1 ++ [tdi] }
    | .capIr => { x with irShift := 1 }
    | .shIr => { x with irShift := (x.irShift >>> 1) ||| (if tdi then 8 else 0) }
    | _ => x
  { y with st := x.st.next tms }

/-- A falling edge of TCK: TDO shows the bit to be shifted, else high impedance; Update-IR takes the instruction, and
Update-DR the boundary cells. -/
def Tap.fall (x : Tap) : Tap :=
  let tdo := match x.st with
    | .shDr => x.dr.head?
    | .shIr => some (x.irShift.getLsbD 0)
    | _ => none
  let ir := match x.st with
    | .updIr => x.irShift
    | .reset => 1
    | _ => x.ir
  { x with tdo := tdo, ir := ir, cells := if x.st = .updDr ∧ x.scans then x.dr else x.cells }

/-- One edge of TCK. -/
def Tap.edge (x : Tap) (rising tms tdi trstN : Bool) : Tap :=
  if !trstN then { x with st := .reset, ir := 1, tdo := none }
  else if rising then x.rise tms tdi
  else x.fall

/-- What EXTEST drives onto the pin of a boundary cell in place of the device's own output: the cell's update stage
(R5, log entry 12). -/
def Tap.drives (x : Tap) (cell : Nat) : Option Bool := if x.ir = 0 ∧ x.st ≠ .reset then x.cells[cell]? else none

/-- The debug port has BAR0 authority: DEBUG_EN strapped high and the OTP debug fuse intact (spec/09_slices.md R278). -/
def State.debugOpen (s : State) : Bool := s.store.straps.getLsbD 3 && s.store.debugFuse

/-! ### Meanings -/

/-- POWER_ON_RESET (R52, R53, R413). -/
def execPowerOnReset (straps : Straps) (s : State) : Result := done (s.powerOn straps)

/-- PERST_N_ASSERT (R438). -/
def execPerstNAssert (s : State) : Result := 
  done (s.modCtl (fun x => { x with perstLow := true, perstHold := true })).hotReset

/-- PERST_N_RELEASE (R419, R438): the link may train, and a die that PERST_N holds is released. -/
def execPerstNRelease (s : State) : Result :=
  let t := s.modCtl (fun x => { x with perstLow := false, perstHold := false })
  done (if s.ctl.perstHold then t.releaseDie else t)

/-- PCIE_HOT_RESET (R438). -/
def execPcieHotReset (s : State) : Result :=
  done (if s.held || s.ctl.perstLow || s.doms[domHOST].st == .off then s
    else (s.modCtl (fun x => { x with timedHold := true })).hotReset)

/-- DEV_RESET (R388). -/
def execDevReset (src : Source) (s : State) : Result :=
  done (s.gate src 0 0x014 (fun t => (t.modCtl (fun x => { x with timedHold := true })).hotReset))

/-- CONTROL_DIE_RESET_RELEASE (R438): the timed hold ends. -/
def execControlDieResetRelease (s : State) : Result :=
  done (if s.ctl.timedHold then (s.modCtl (fun x => { x with timedHold := false })).releaseDie else s)

/-- ROOT_PLL_LOCK (R34). -/
def execRootPllLock (s : State) : Result := done s.pllLocks

/-- PLL_LOST (R404). -/
def execPllLost (s : State) : Result := done s.pllLoses

/-- CONTROL_DIE_THERMAL_SHUTDOWN (R27). -/
def execControlDieThermalShutdown (s : State) : Result :=
  done (s.modCtl (fun x => { x with thermHold := true })).hotReset

/-- CONTROL_DIE_COOLED (R27). -/
def execControlDieCooled (s : State) : Result :=
  done (if s.ctl.thermHold then (s.modCtl (fun x => { x with thermHold := false })).releaseDie else s)

/-- AON_XTAL_REQUEST (R405): a write of CLOCK.CTRL. -/
def execAonXtalRequest (src : Source) (v : Word) (s : State) : Result :=
  done (s.gate src 2 0x014 (fun t => t.clockCtrl v))

/-- XTAL_QUAL_DONE (R36, R405). -/
def execXtalQualDone (rcCount : BitVec 13) (s : State) : Result :=
  done (if s.held then s else s.qualDone rcCount.toNat)

/-- XTAL_STOP (R36). -/
def execXtalStop (s : State) : Result := done (if s.held then s else s.xtalStop)

/-- MC_CLK_SELECT (R405): a write of CLOCK.CTRL. -/
def execMcClkSelect (src : Source) (v : Word) (s : State) : Result :=
  done (s.gate src 2 0x014 (fun t => t.clockCtrl v))

/-- DOMAIN_EXIT_DONE (R338). -/
def execDomainExitDone (d : DomId) (saveErr : Bool) (s : State) : Result := done (s.exitDone d saveErr)

/-- SCRUB_PASS (R383). -/
def execScrubPass (ram : EccStruct) (inst : Nat) (found : ScrubResult) (s : State) : Result :=
  done (if s.eccPowered ram then s.scrub ram inst found else s)

/-- ECC_CORRECTED (R384). -/
def execEccCorrected (ram : EccStruct) (inst : Nat) (s : State) : Result :=
  done (if s.eccPowered ram then s.eccCorr ram inst else s)

/-- ECC_UNCORRECTABLE (R385). -/
def execEccUncorrectable (ram : EccStruct) (inst : Nat) (live : Bool) (s : State) : Result :=
  done (if s.eccPowered ram then s.eccUncorr ram inst live else s)

/-- GLOBAL_CNT_CLR (R402). -/
def execGlobalCntClr (src : Source) (s : State) : Result :=
  done (s.gate src 0 0x014 (fun t => t.clearRegs [at_ 0 0x114, at_ 0 0x118, at_ 0 0x120, at_ 0 0x124]))

/-- CONFIGURATION_REQUEST (R419). -/
def execConfigurationRequest (req : ConfigReq) (s : State) : Result := done (s.config req)

/-- LINK_L1_ENTRY (R334). -/
def execLinkL1Entry (s : State) : Result :=
  done (if s.held || !s.domOn domHOST || !s.pci.ready || s.pci.inL2 then s
    else s.modPci (fun x => { x with inL1 := true }))

/-- PME_TURN_OFF (R334). -/
def execPmeTurnOff (s : State) : Result :=
  done (if s.held || !s.domOn domHOST || !s.pci.ready || s.pci.inL2 then s
    else { s.modPci (fun x => { x with inL1 := false, inL2 := true }) with rd := .pmeAck })

/-- SMBUS_SCL_TIMEOUT (R426): the device releases the bus. -/
def execSmbusSclTimeout (s : State) : Result := done (s.modCtl (fun x => { x with sclHeld := false, smbTxn := false }))

end Sys2Proof.Machine
end

