-- ==== Sys2Proof/Machine/Access.lean ====
section
/-!
DEFINITION. Register accesses: what every register reads, what a write of it does, slice windows, SMBus accesses,
fences, and the replay of settings, which is made of register writes.
-/

namespace Sys2Proof.Machine

open Sys2Proof

/-! ### Values computed from the state -/

/-- A register value from fields: low bit, length, value. -/
def pack (l : List (Nat × Nat × Nat)) : Word :=
  l.foldl (fun w f => w ||| BitVec.ofNat 32 (f.2.2 % 2 ^ f.2.1 * 2 ^ f.1)) 0

/-- A stored register with fields the state gives. -/
def packOn (w : Word) (l : List (Nat × Nat × Nat)) : Word := l.foldl (fun w f => putBits w f.1 f.2.1 f.2.2) w

/-- GLOBAL (spec/15_register_map.md R402). -/
def State.globalReg (s : State) (o : Nat) : Word :=
  match o with
  | 0x018 => pack [(0, 1, b2n s.fatal), (1, 1, b2n s.debugOpen)]
  | 0x100 => pack [(0, 16, 0x4810), (16, 4, 1), (20, 4, 1)]
  | 0x104 => pack [(0, 5, s.store.straps.toNat), (5, 1, b2n s.store.debugFuse)]
  | 0x108 => s.seq
  | 0x10C => s.intsum
  | _ => s.reg (at_ 0 o)

/-- The pending bits of instances [lo, lo + 32) of a block that starts at a page (R403). -/
def State.pendOf (s : State) (b : Block) (first lo : Nat) : Nat :=
  ((s.countedPages.filter (fun p => blockOf p = b)).map (fun p => if first + lo ≤ p ∧ p < first + lo + 32
    then 2 ^ (p - first - lo) else 0)).sum

/-- INTSUM (R403). -/
def State.intsumReg (s : State) (o : Nat) : Word :=
  match o with
  | 0x100 => BitVec.ofNat 32 (s.pendOf .qp 0x010 0)
  | 0x104 => BitVec.ofNat 32 (s.pendOf .qp 0x010 32)
  | 0x108 => BitVec.ofNat 32 (s.pendOf .port 0x080 0)
  | 0x10C => BitVec.ofNat 32 (s.pendOf .port 0x080 32)
  | 0x110 => BitVec.ofNat 32 (s.pendOf .husk 0x0C0 0)
  | 0x114 => BitVec.ofNat 32 (s.pendOf .husk 0x0C0 32)
  | 0x118 => pack [(0, 4, s.pendOf .region 0x0F0 0), (8, 6, s.pendOf .pod 0x0F8 0)]
  | 0x11C => BitVec.ofNat 32 (s.pendOf .dmch 0x100 0)
  | 0x120 => pack [(0, 4, s.pendOf .dm 0x120 0), (8, 4, s.pendOf .cf 0x128 0)]
  | 0x124 => BitVec.ofNat 32 (s.pendOf .slice 0x140 0)
  | _ => 0

/-- CLOCK (R405). -/
def State.clockReg (s : State) (o : Nat) : Word :=
  if o = 0x018 then
    pack [(0, 1, b2n s.ctl.pllLock), (1, 1, b2n s.ctl.onXtal), (2, 1, b2n s.ctl.qual), (3, 1, b2n s.mcOnPll),
          (4, 1, b2n s.ctl.pllStopped)]
  else s.reg (at_ 2 o)

/-- The code of a domain state (spec/12_power_domains.md R331). -/
def domCode : DomState → Nat
  | .on => 0
  | .ret => 1
  | .off => 2
  | .entering => 3
  | .exiting => 4

/-- Save RAM bytes of a domain (R336). -/
def savedBytes (d : DomId) : Nat :=
  if d = domHOST then 4632 else if d = domSCHED then 6584 else if d = domEBR then 12 else if d = domTIME then 236
  else if d = domDM then 1600 else if d = domCAP then 80 else if 8 ≤ d.val then 192 else 0

/-- The domain whose register lies at 4-byte steps from an offset. -/
def domAt (base o : Nat) : Option DomId :=
  let i := (o - base) / 4
  if h : i < 20 then (if base ≤ o then some ⟨i, h⟩ else none) else none

/-- PWRDOM (R348). -/
def State.pwrdomReg (s : State) (o : Nat) : Word :=
  if o = 0x018 then
    pack [(0, 1, b2n ((allFin 20).any (fun (d : DomId) => s.doms[d].st == .entering || s.doms[d].st == .exiting))),
          (1, 1, b2n (!s.ctl.pllStopped && !s.ctl.pllWaits)), (2, 1, b2n (!s.mcOnPll))]
  else if o = 0x28C then
    packOn (s.reg (at_ 3 o))
      [(0, 17, ((allFin 20).map (fun (d : DomId) => if s.doms[d].hasSaved then savedBytes d else 0)).sum)]
  else
    match domAt 0x100 o, domAt 0x180 o, domAt 0x200 o with
    | some d, _, _ => pack [(0, 2, s.doms[d].target)]
    | _, some d, _ =>
      let x := s.doms[d]
      pack [(0, 3, domCode x.st), (3, 1, b2n (x.phase == .ask)), (8, 8, x.lastReason), (16, 10, x.lastBlock)]
    | _, _, some d => pack [(0, 16, s.doms[d].fails), (16, 16, s.doms[d].entries)]
    | _, _, _ => s.reg (at_ 3 o)

/-- MC_STATE, IMG_STATE and UPD_STATE codes (spec/13_firmware_and_settings.md R373). -/
def mcCode : McState → Nat
  | .loader => 0
  | .running => 1
  | .acornOnly => 2

/-- UPD_STATE. -/
def updCode : UpdState → Nat
  | .idle => 0
  | .receiving => 1
  | .verified => 2
  | .activating => 3

/-- FW (R373). What Acorn writes from the boot record reads its Reset value until then (R353). -/
def State.fwReg (s : State) (o : Nat) : Word :=
  let f := s.fw
  let x := s.store
  let stored := f.served && x.img != .invalid
  let known (w : Word) : Word := if f.served then w else 0
  let live := liveRecords x.records
  match o with
  | 0x018 => pack [(0, 2, mcCode f.mc), (2, 2, if f.served then imgCode x.img else 0), (4, 3, updCode f.upd),
      (7, 1, b2n f.updSmbus), (8, 1, b2n f.cmd.isSome), (9, 1, b2n f.unreadable), (10, 1, b2n (f.served && x.readOnly)),
      (11, 1, b2n f.replayDone), (12, 1, b2n (x.straps.getLsbD 4)), (13, 1, b2n (f.served && Config.customerKeyHash.isSome)),
      (16, 2, f.why)]
  | 0x10C => f.result
  | 0x110 => if 4096 ≤ f.ptr then 0 else BitVec.ofNat 32 (memRead f.buf f.ptr 4)
  | 0x114 => BitVec.ofNat 32 f.ptr
  | 0x120 => f.runVersion
  | 0x124 => f.runSvn
  | 0x128 => if stored then x.imgVersion else 0
  | 0x12C => if stored then pack [(0, 8, x.imgSvn), (16, 16, x.imgSchemaMax)] else 0
  | 0x130 => known (BitVec.ofNat 32 x.secCount)
  | 0x134 => known Config.acornVersion
  | 0x138 => pack [(0, 10, f.chunks.length), (16, 10, f.expected)]
  | 0x140 =>
    if f.served then
      pack [(0, 16, live.foldl (fun m r => max m r.schema) 0), (16, 3, x.spares), (24, 8, min 255 live.length)]
    else pack [(16, 3, 4)]
  | 0x144 => known (BitVec.ofNat 32 x.wear)
  | 0x148 => BitVec.ofNat 32 (min 65535 f.skipped)
  | _ => s.reg (at_ 4 o)

/-- SOF_STATUS of a clock (spec/06_frame_timing.md R217). -/
def sofStatus (c : Clk) : Word :=
  pack [(0, 2, lsCode c.ls), (2, 2, acqCode c.acq), (4, 1, b2n c.clamped), (5, 1, b2n c.refOk),
        (6, 1, b2n c.phaseStep), (16, 12, toField 12 c.trim)]

/-- PHASE_ERR of a clock. -/
def phaseErr (c : Clk) : Word := BitVec.ofNat 32 (toField 24 c.phaseErr)

/-- TIME (R218). -/
def State.timeReg (s : State) (o : Nat) : Word :=
  match o with
  | 0x018 => packOn (s.reg (at_ 5 o)) [(1, 1, b2n s.ctl.onXtal), (2, 1, b2n s.ctl.fsyncOk)]
  | 0x100 => s.dtime.setWidth 32
  | 0x104 => (s.dtime >>> 32).setWidth 32
  | 0x150 => sofStatus s.refClk
  | 0x154 => phaseErr s.refClk
  | 0x158 => s.refClk.frindex.setWidth 32
  | _ => s.reg (at_ 5 o)

/-- PKG (spec/08_regions_feeds_budgets.md R268). -/
def State.pkgReg (s : State) (o : Nat) : Word :=
  match o with
  | 0x018 => pack [(0, 1, b2n (s.overLimit .package)), (1, 1, b2n (s.overLimit .system)), (2, 1, b2n (s.gap .therm)),
                   (3, 1, b2n s.ctl.rebuild)]
  | 0x108 => pack [(0, 13, s.pkgClaim)]
  | _ => s.reg (at_ 6 o)

/-- QP (spec/02_queue_pairs_and_doorbells.md R99, R440). BACKPRESSURE shows an SQ at its cap (R119), and on an enabled
one every hold of R118 and R120; in the maintenance reserve an event queue pair shows it too, though MAINT entries are
fetched (DESIGN CHOICE, log entry 65). -/
def State.qpReg (s : State) (q : QpId) (o : Nat) : Word :=
  let x := s.qps[q]
  match o with
  | 0x018 => pack [(0, 1, b2n (s.qpIdle q)), (1, 1, b2n x.halted), (2, 1, b2n (s.capFull q || (s.qpEn q && s.pressure q != .free))),
      (3, 1, b2n (s.parked q != 0)),
      (4, 1, b2n (s.eventQ (s.ownerQp q) == some q && s.events.any (fun w => s.eventOwner w.page == s.ownerQp q)))]
  | 0x130 => BitVec.ofNat 32 x.tail
  | 0x134 => BitVec.ofNat 32 (s.sqHead q)
  | 0x138 => BitVec.ofNat 32 x.cqHead
  | 0x13C => BitVec.ofNat 32 x.cqTail
  | 0x140 => pack [(0, 9, s.parked q), (16, 13, s.inflight q)]
  | 0x144 => pack [(0, 18, if x.opened then s.credit q else 0)]
  | 0x148 => BitVec.ofNat 32 x.fetchPtr
  | _ => s.reg (at_ (qpPage q) o)

/-- READY items of a port in a class (spec/03_dispatch_scheduler.md R127). -/
def State.depth (s : State) (p : Nat) (c : Cls) : Nat :=
  (s.wis.filter (fun it => it.st == .ready && !it.retiring && it.port == p && it.op.cls == c)).length

/-- The class code of an item. -/
def Item.clsCode (it : Item) : Nat := it.op.cls.rank

/-- SCHED pages (R127). -/
def State.schedReg (s : State) (k o : Nat) : Word :=
  let i := (o - 0x100) / 4
  match k with
  | 0 =>
    match o with
    | 0x018 => pack [(0, 1, b2n (decide (4096 ≤ s.wis.length))), (1, 1, b2n s.fw.paused)]
    | 0x118 => pack [(0, 13, s.wis.length), (16, 13, s.wisPeak)]
    | 0x11C => pack [(0, 13, s.flowsLive), (16, 13, s.flowPeak)]
    | 0x130 => pack [(0, 13, s.quotaSum)]
    | _ => s.reg (at_ 0x050 o)
  | 1 =>
    if o < 0x100 ∨ 96 ≤ i then 0
    else if i % 2 = 0 then pack [(0, 13, s.depth (i / 2) .periodic), (16, 13, s.depth (i / 2) .maint)]
    else pack [(0, 13, s.depth (i / 2) .control), (16, 13, s.depth (i / 2) .bulk)]
  | 2 =>
    if o < 0x100 then 0
    else if h : i < 32 then pack [(0, 13, s.wisUse (some ⟨i, h⟩)), (16, 13, s.slices[i].peakUse)]
    else if i = 32 then pack [(0, 13, s.wisUse none), (16, 13, s.pfPeak)]
    else 0
  | 3 =>
    if o < 0x100 then 0
    else if i < 64 then
      match s.wis.find? (fun it => it.qp.val == i) with
      | some it => BitVec.ofNat 32 (min (2 ^ 32 - 1) (s.usSince it.storedAt))
      | none => 0
    else if h : i - 64 < 64 then pack [(0, 13, s.sqUse ⟨i - 64, h⟩)]
    else 0
  | 8 =>
    if h : i / 4 < 16 then
      let e : EngId := ⟨i / 4, h⟩
      if o < 0x100 then 0
      else
        match i % 4 with
        | 0 => pack [(0, 20, s.engs[e].lastBusy)]
        | 1 => pack [(0, 24, s.engs[e].lastOcc)]
        | 2 => s.reg (at_ 0x058 o)
        | _ => pack [(0, 5, s.slotsUsed e), (5, 1, b2n (s.pipItem e).isSome),
                     (6, 2, ((s.pipItem e).map Item.clsCode).getD 0), (8, 5, s.nonPerSlots e)]
    else 0
  | _ => s.reg (at_ (0x050 + k) o)

/-- TE pages (spec/04_transfer_engines_and_endpoints.md R161). CTX_FLUSH reads 1 while the flush runs (spec/00_scope.md
R11). -/
def State.teReg (s : State) (e : EngId) (o : Nat) : Word :=
  let k := (o - 0x200) / 4
  if o = 0x018 then
    pack [(0, 5, s.slotsUsed e), (5, 1, b2n (e.val == 0 && s.ctxs.any (fun c => c.dirty && c.cached)))]
  else if e.val = 0 ∧ o = 0x014 then packOn (s.reg (at_ 0x060 o)) [(0, 1, b2n s.flushing)]
  else if e.val = 0 ∧ o = 0x118 then pack [(0, 18, s.ctxs.length)]
  else if 0x200 ≤ o ∧ k < 16 then
    match s.wis.find? (fun it => match it.st with
      | .service e' (some n) => e' == e && n.val == k
      | _ => false) with
    | some it => pack [(0, 1, 1), (1, 2, it.clsCode), (8, 6, it.port), (16, 6, it.qp.val)]
    | none => 0
  else s.reg (at_ (tePage e) o)

/-- EBR (R162). -/
def State.ebrReg (s : State) (o : Nat) : Word :=
  let all := s.perAlloc (fun _ => true)
  match o with
  | 0x108 => pack [(0, 13, all), (16, 13, s.perAlloc (fun c => c.owner.isNone))]
  | 0x10C => pack [(0, 13, 6144 - s.fld (at_ 0x070 0x100) 0 13 - all)]
  | 0x110 => pack [(0, 13, s.poolUsed), (16, 13, s.poolPeak)]
  | _ => s.reg (at_ 0x070 o)

/-- The code of a line state (spec/05_root_ports.md R191). -/
def lineCode : Line → Nat
  | .se0 => 0
  | .j => 1
  | .k => 2
  | .se1 => 3

/-- PORT (R191, spec/06_frame_timing.md R217). -/
def State.portReg (s : State) (p : PortId) (o : Nat) : Word :=
  let x := s.ports[p]
  let c := s.clks[p]
  match o with
  | 0x018 => pack [(0, 3, pstateCode x.st), (3, 1, b2n x.conn), (4, 2, x.speed), (6, 1, b2n x.pgood),
      (7, 1, b2n x.recovering), (8, 1, b2n x.suspPend), (9, 2, lineCode x.line), (11, 1, b2n x.discDet),
      (12, 1, b2n x.cdpDrive)]
  | 0x214 => sofStatus c
  | 0x218 => phaseErr c
  | 0x21C => c.frindex.setWidth 32
  | 0x220 => c.sofTime.setWidth 32
  | 0x224 => (c.sofTime >>> 32).setWidth 32
  | 0x228 => (c.frindex - s.refClk.frindex).setWidth 32
  | _ => s.reg (at_ (portPage p) o)

/-- HUSK (spec/07_husk_power_path.md R247). -/
def State.huskReg (s : State) (n : PortId) (o : Nat) : Word :=
  let x := s.husks[n]
  if o = 0x018 then
    pack [(0, 3, hstateCode x.st), (3, 1, b2n (x.st == .on)), (4, 1, b2n x.claim), (5, 1, b2n x.curvePend),
      (6, 1, b2n (x.pendOn || x.wait.any (fun w => w.1))), (7, 1, b2n x.hot),
      (8, 5, if s.unlimited n then 31 else x.retriesLeft), (13, 3, x.offReason), (16, 2, x.probe), (24, 8, x.lastTrip)]
  else s.reg (at_ (huskPage n) o)

/-- REGION (spec/08_regions_feeds_budgets.md R266). -/
def State.regionReg (s : State) (m : RegId) (o : Nat) : Word :=
  let x := s.regions[m]
  match o with
  | 0x014 => pack [(0, 1, b2n x.planRs)]
  | 0x018 =>
    let limited := s.overLimit (.region m) ||
      (allFin 12).any (fun k => decide (k.val / 3 = m.val) && (s.overLimit (.pod k) || s.overLimit (.podT k)))
    pack [(0, 1, b2n x.sel), (1, 1, b2n x.aGood), (2, 1, b2n x.bGood), (3, 1, b2n x.switching.isSome),
          (4, 1, b2n (x.linkUp && !x.lost)), (5, 1, b2n limited)]
  | 0x108 => pack [(0, 12, s.claimSum (portsOfRegion m))]
  | _ => s.reg (at_ (regionPage m) o)

/-- POD (R267). -/
def State.podReg (s : State) (page o : Nat) : Word :=
  let k := 2 * (page - 0x0F8) + (if 0x180 ≤ o then 1 else 0)
  if h : k < 12 then
    if o = 0x108 ∨ o = 0x188 then pack [(0, 10, s.claimSum (portsOfPod ⟨k, h⟩))] else s.reg (at_ page o)
  else 0

/-- The code of a channel state (spec/10_data_mover.md R291). -/
def dstateCode : DState → Nat
  | .idle => 0
  | .pending => 1
  | .running => 2
  | .waiting => 3
  | .halted => 4

/-- DMCH (R315). PC has 16 bits and shows the program counter modulo 65,536 (R307; DESIGN CHOICE, log entry 73). -/
def State.dmchReg (s : State) (c : ChId) (o : Nat) : Word :=
  let x := s.dmchs[c]
  match o with
  | 0x018 => pack [(0, 3, dstateCode x.st), (4, 3, x.result), (8, 8, x.detail)]
  | 0x044 => BitVec.ofNat 32 (x.pc % 65536)
  | 0x048 => BitVec.ofNat 32 x.ptrS
  | 0x04C => BitVec.ofNat 32 x.ptrD
  | 0x050 => BitVec.ofNat 32 x.doneBytes
  | 0x054 => pack [(0, 16, x.lc0), (16, 16, x.lc1)]
  | _ => s.reg (at_ (dmchPage c) o)

/-- DM (R314). -/
def State.dmReg (s : State) (e : DmId) (o : Nat) : Word :=
  match o with
  | 0x018 =>
    let hold := (chsOf e).find? (fun c => s.dmchs[c].holds)
    pack [(0, 1, b2n hold.isSome), (1, 3, (hold.map (fun c => c.val % 8)).getD 0),
      (8, 8, ((chsOf e).map (fun c => if s.dmchs[c].st == .pending then 2 ^ (c.val % 8) else 0)).sum),
      (16, 1, b2n (s.dmShared e))]
  | 0x104 => BitVec.ofNat 32 (memRead s.dms[e].ram (4 * s.pramAddr e) 4)
  | _ => s.reg (at_ (dmPage e) o)

/-- CF (spec/11_capture.md R329). -/
def State.cfReg (s : State) (k : CfId) (o : Nat) : Word :=
  let x := s.cfs[k]
  match o with
  | 0x014 => pack [(0, 1, b2n x.en)]
  | 0x018 => pack [(0, 1, b2n x.item.isSome), (1, 1, b2n x.gapOpen),
      (2, 1, b2n ((allFin 32).any (fun (c : ChId) => s.dmchs[c].wait == some (.fifo k)))),
      (3, 1, b2n (decide (x.free < 2)))]
  | 0x030 => pack [(0, 14, x.words.length), (16, 14, x.peak)]
  | _ => s.reg (at_ (cfPage k) o)

/-- The code of a slice state (spec/09_slices.md R271). -/
def sstateCode : SState → Nat
  | .none => 0
  | .active => 1
  | .resetting => 2
  | .removing => 3
  | .faulted => 4

/-- PARK_QUOTA sum of a slice's enabled queue pairs. -/
def State.sliceParkSum (s : State) (i : SliceId) : Nat := s.parkSum (fun q => s.ownerQp q = some i)

/-- Granules a slice holds. -/
def State.sliceGran (s : State) (i : SliceId) : Nat := s.perAlloc (fun c => c.owner == some i)

/-- SLICE (R289). RESET and REMOVE read 1 while a reset or a removal runs (spec/00_scope.md R11). -/
def State.sliceReg (s : State) (i : SliceId) (o : Nat) : Word :=
  let x := s.slices[i]
  let w := s.reg (at_ (slicePage i) o)
  match o with
  | 0x014 => packOn w [(1, 1, b2n (x.st == .resetting)), (2, 1, b2n (x.st == .removing))]
  | 0x018 => pack [(0, 3, sstateCode x.st), (3, 1, b2n x.drained)]
  | 0x104 => x.gen.setWidth 32
  | 0x130 => packOn w [(16, 13, s.wisUse (some i))]
  | 0x134 => packOn w [(16, 11, s.sliceParkSum i)]
  | 0x138 => packOn w [(16, 13, s.sliceGran i)]
  | _ => w

/-- What a register of a page reads; an unassigned page reads 0 (spec/15_register_map.md R392-R394). -/
def State.regValue (s : State) (page o : Nat) : Word :=
  if blockOf page = .absent then 0
  else if o = 0x000 then pageId page
  else if o = 0x004 then pageCap page
  else if o = 0x008 ∨ o = 0x00C ∨ o = 0x01C then s.reg (at_ page o)
  else if o = 0x010 then 0
  else
    let i := instOf page
    match blockOf page with
    | .global => s.globalReg o
    | .intsum => s.intsumReg o
    | .clock => s.clockReg o
    | .pwrdom => s.pwrdomReg o
    | .fw => s.fwReg o
    | .time => s.timeReg o
    | .pkg => s.pkgReg o
    | .qp => s.qpReg (Fin.ofNat 64 i) o
    | .sched => s.schedReg i o
    | .te => s.teReg (Fin.ofNat 16 i) o
    | .ebr => s.ebrReg o
    | .port => s.portReg (Fin.ofNat 48 i) o
    | .husk => s.huskReg (Fin.ofNat 48 i) o
    | .region => s.regionReg (Fin.ofNat 4 i) o
    | .pod => s.podReg page o
    | .dmch => s.dmchReg (Fin.ofNat 32 i) o
    | .dm => s.dmReg (Fin.ofNat 4 i) o
    | .cf => s.cfReg (Fin.ofNat 4 i) o
    | .slice => s.sliceReg (Fin.ofNat 32 i) o
    | .absent => 0

/-! ### Reads (spec/15_register_map.md R397, spec/00_scope.md R14) -/

/-- Low dwords of 64-bit RO fields. -/
def roLow (page o : Nat) : Bool :=
  match blockOf page with
  | .time => o == 0x100 || o == 0x114 || o == 0x120
  | .port => o == 0x220
  | .husk => o == 0x150
  | .intsum => o == 0x100 || o == 0x108 || o == 0x110
  | _ => false

/-- Low dwords of 64-bit RO fields of a window's control page. -/
def winLow (o : Nat) : Bool := o == 0x020 || o == 0x028 || o == 0x030

/-- The dword a source reads, with the high dwords latched for it: a low dword latches its high dword; the next read
of that high dword returns it. -/
def State.latched (s : State) (src : Source) (key : Nat) (low : Bool) (v high : Word) : Word × State :=
  match s.latches.find? (fun l => l.1 == src && l.2.1 == key) with
  | some l => (l.2.2, { s with latches := s.latches.filter (fun x => !(x.1 == src && x.2.1 == key)) })
  | none =>
    if low then
      (v, { s with latches := s.latches.filter (fun x => !(x.1 == src && x.2.1 == key + 4)) ++ [(src, key + 4, high)] })
    else (v, s)

/-- What reading a staging register does besides. -/
def State.readEffect (s : State) (page o : Nat) : State :=
  match blockOf page with
  | .fw => if o = 0x110 then s.modFw (fun x => { x with ptr := min 4096 (x.ptr + 4) }) else s
  | .dm => if o = 0x104 then s.pramStep (Fin.ofNat 4 (instOf page)) else s
  | _ => s

/-- Registers the SMBus port and the management controller may read: pages whose column of R277 says None, and settings
of SCHED, TE and EBR they may not write, read 0 for them (the value is a DESIGN CHOICE, log entry 30). -/
def smbusSees (page o : Nat) : Bool :=
  match blockOf page with
  | .qp => false
  | .cf => false
  | .dmch => o == 0x100
  | .sched => smbusMay page o || (fieldsAt page o).isEmpty
  | .te => (fieldsAt page o).isEmpty
  | .ebr => smbusMay page o || (fieldsAt page o).isEmpty
  | _ => true

/-- Authority of a read through BAR0 offsets (spec/09_slices.md R277). -/
def mayRead (src : Source) (page o : Nat) : Bool :=
  match src with
  | .smbus => smbusSees page o
  | .mc => smbusSees page o
  | _ => true

/-- A 32-bit read of a BAR0 register (R15, R344, spec/09_slices.md R277). -/
def State.read32 (s : State) (src : Source) (ofs : Nat) : Word × State :=
  let page := ofs / 4096
  let o := ofs % 4096
  if s.blockOff (blockOf page) then (0x0FF00FF0, s.accOff src page)
  else if !mayRead src page o then (0, s)
  else
    let r := s.latched src ofs (roLow page o) (s.regValue page o) (s.regValue page (o + 4))
    (r.1, r.2.readEffect page o)

/-- Consecutive dwords. -/
def State.readMany (s : State) (read : State → Nat → Word × State) : List Nat → List Word × State
  | [] => ([], s)
  | o :: t =>
    let r := read s o
    let rest := r.2.readMany read t
    (r.1 :: rest.1, rest.2)

/-- The dwords of an access of 4 or 8 bytes, lower address first (R14). -/
def dwordsOf (ofs size : Nat) : List Nat := if size = 8 then [ofs, ofs + 4] else [ofs]

/-- A naturally aligned access of 4 or 8 bytes. -/
def sizeOk (ofs size : Nat) : Bool := (size == 4 || size == 8) && ofs % size == 0

/-! ### Slice windows (spec/09_slices.md R279-R281) -/

/-- A window's control page. -/
def State.winControl (s : State) (i : SliceId) (o : Nat) : Word :=
  let x := s.slices[i]
  let p := slicePage i
  match o with
  | 0x000 => pack [(0, 5, i.val), (16, 16, x.gen.toNat)]
  | 0x008 => x.winCause
  | 0x00C => x.winEn
  | 0x010 => s.attnSum i
  | 0x018 => pack [(0, 3, sstateCode x.st), (3, 1, b2n x.drained), (4, 1, b2n (s.flag (at_ p 0x014) 4))]
  | 0x01C => s.seq
  | 0x020 => s.reg (at_ p 0x108)
  | 0x024 => s.reg (at_ p 0x10C)
  | 0x028 => s.reg (at_ p 0x110)
  | 0x02C => s.reg (at_ p 0x114)
  | 0x030 => s.reg (at_ p 0x118)
  | 0x034 => s.reg (at_ p 0x11C)
  | 0x038 => s.reg (at_ p 0x120)
  | 0x03C => s.reg (at_ p 0x124)
  | 0x040 => s.reg (at_ p 0x140)
  | 0x044 => s.reg (at_ p 0x144)
  | 0x048 => pack [(0, 13, s.fld (at_ p 0x130) 0 13), (16, 13, s.wisUse (some i))]
  | 0x04C => pack [(0, 13, s.fld (at_ p 0x138) 0 13), (16, 13, s.sliceGran i)]
  | 0x050 => pack [(0, 11, s.fld (at_ p 0x134) 0 11), (16, 11, s.sliceParkSum i)]
  | _ => 0

/-- The port-page register, or the HUSK register, that a port block offset shows (R280). -/
def portBlock (b : Nat) : Option (Bool × Nat) :=
  match b with
  | 0x00 => some (false, 0x018)
  | 0x04 => some (false, 0x014)
  | 0x08 => some (false, 0x008)
  | 0x0C => some (false, 0x00C)
  | 0x10 => some (false, 0x214)
  | 0x14 => some (false, 0x218)
  | 0x18 => some (false, 0x21C)
  | 0x1C => some (false, 0x118)
  | 0x20 => some (false, 0x11C)
  | 0x24 => some (true, 0x018)
  | 0x28 => some (true, 0x100)
  | 0x2C => some (true, 0x140)
  | 0x30 => some (true, 0x144)
  | 0x34 => some (true, 0x148)
  | _ => none

/-- The page whose owner a window part belongs to, and the BAR0 offset it shows, none where it reads 0. -/
def winShows (w : Nat) : Nat × Option Nat :=
  if w < 0x1C00 then
    let n := (w - 0x1000) / 0x40
    let p := 0x080 + n
    (p, match portBlock ((w - 0x1000) % 0x40) with
      | some (husk, o) => some (at_ (if husk then 0x0C0 + n else p) o)
      | none => none)
  else if w < 0x2000 then
    let p := 0x128 + (w - 0x1C00) / 0x100
    (p, some (at_ p (w % 0x100)))
  else if w < 0x6000 then
    let p := 0x010 + (w - 0x2000) / 0x100
    let b := w % 0x100
    (p, if b < 0x20 then some (at_ p b) else if b < 0x80 then some (at_ p (b + 0xE0)) else none)
  else if w < 0x8000 then
    let p := 0x100 + (w - 0x6000) / 0x100
    (p, some (at_ p (w % 0x100)))
  else (0x010 + (w - 0x8000) / 0x200, none)

/-- A 32-bit read through a window. -/
def State.winRead32 (s : State) (i : SliceId) (w : Nat) : Word × State :=
  let src := Source.win i
  if w < 0x1000 then
    if s.blockOff .slice then (0x0FF00FF0, s.accOff src (slicePage i))
    else if s.slices[i].st = .none then (0, s)
    else s.latched src w (winLow w) (s.winControl i w) (s.winControl i (w + 4))
  else
    let r := winShows w
    if s.blockOff (blockOf r.1) then (0x0FF00FF0, s.accOff src r.1)
    else if s.slices[i].st = .none ∨ s.ownerPage r.1 ≠ some i then (0, s)
    else
      match r.2 with
      | some ofs => (s.regValue (ofs / 4096) (ofs % 4096), s)
      | none => (0, s)

/-! ### Writes -/

/-- CAUSE_SET (spec/15_register_map.md R395); FATAL is never set by it. -/
def State.causeSet (s : State) (page : Nat) (v : Word) : State :=
  let m := if page = 0 then v &&& 0xFF else v &&& causeMask page
  s.setReg (at_ page 8) (s.reg (at_ page 8) ||| m)

/-- A read-start field: acts on a write of 1. -/
def State.on (s : State) (v : Word) (i : Nat) (act : State → State) : State := if v.getLsbD i then act s else s

/-- GLOBAL.CTRL: the counters clear before a reset begins. -/
def State.globalCtrl (s : State) (v : Word) : State :=
  let s := s.on v 1 (fun t => t.clearRegs [at_ 0 0x114, at_ 0 0x118, at_ 0 0x120, at_ 0 0x124])
  s.on v 0 (fun t => (t.modCtl (fun x => { x with timedHold := true })).hotReset)

/-- PKG.THERM: both fields in range and WARN at most SHED − 5 °C, or the write is refused whole
(spec/08_regions_feeds_budgets.md R263). -/
def State.pkgTherm (s : State) (v : Word) : State :=
  if legalWrite 6 0x114 v ∧ bits v.toNat 0 8 + 5 ≤ bits v.toNat 8 8 then s.plainWrite 6 0x114 (2 ^ 32 - 1) v
  else s.cause 6 0

/-- A write of the TIME page. -/
def State.timeWrite (s : State) (o : Nat) (v : Word) : State :=
  match o with
  | 0x014 => s.on v 0 State.estClr
  | 0x10C => s.dtimeLoad v
  | 0x140 => s.discWrite .ref false v
  | 0x144 => s.discWrite .ref true v
  | 0x148 => s.sofClamp .ref v
  | 0x15C => s.syncSet v
  | _ => s.plainWrite 5 o (2 ^ 32 - 1) v

/-- A write of a QP page (spec/02_queue_pairs_and_doorbells.md R58). -/
def State.qpWrite (s : State) (q : QpId) (o : Nat) (v : Word) : State :=
  match o with
  | 0x014 => s.qpCtrl q v
  | 0x130 => s.sqDb q (bits v.toNat 0 17)
  | 0x138 => s.cqDb q (bits v.toNat 0 17)
  | 0x124 => s.fullMarks (s.plainWrite (qpPage q) o (2 ^ 32 - 1) v) (some q) (s.ownerQp q)
  | _ => if (0x100 ≤ o ∧ o ≤ 0x118) ∨ o = 0x120 then s.qpConfig q o v else s.plainWrite (qpPage q) o (2 ^ 32 - 1) v

/-- A write of SCHED[0]. -/
def State.schedWrite (s : State) (page o : Nat) (v : Word) : State :=
  if page ≠ 0x050 then s
  else
    match o with
    | 0x014 => ((s.on v 0 State.histClr).on v 1 State.peakClr).on v 2 State.schedCntClr
    | 0x104 => s.pfWisQuota v
    | _ => s.plainWrite page o (2 ^ 32 - 1) v

/-- A write of TE[0]: PF_DEV_TABLE only while no context of the physical function is open
(spec/04_transfer_engines_and_endpoints.md R161). -/
def State.teWrite (s : State) (page o : Nat) (v : Word) : State :=
  if page ≠ 0x060 then s
  else if (o = 0x108 ∨ o = 0x10C) ∧ s.ctxs.any (fun c => c.owner.isNone) then s.cause page 1
  else
    let t := s.plainWrite page o (2 ^ 32 - 1) v
    if o = 0x014 then (t.on v 0 (fun u => { u with flushing := true })).on v 2 State.teCntClr else t

/-- A write of EBR. -/
def State.ebrWrite (s : State) (o : Nat) (v : Word) : State :=
  match o with
  | 0x014 => s.on v 0 State.ebrCntClr
  | 0x100 => s.poolMin v
  | _ => s.plainWrite 0x070 o (2 ^ 32 - 1) v

/-- A write of a PORT page. -/
def State.portWrite (s : State) (p : PortId) (o mask : Nat) (v : Word) : State :=
  match o with
  | 0x014 => ((s.plainWrite (portPage p) o mask v).on v 0 (fun t => t.disable p)).on v 4 (fun t => t.portCntClr p)
  | 0x10C => s.chgRole p v
  | 0x110 => s.testMode p v
  | 0x200 => s.discWrite (.port p) false v
  | 0x204 => s.discWrite (.port p) true v
  | 0x208 => s.sofTrim p v
  | 0x20C => s.sofClamp (.port p) v
  | _ => s.plainWrite (portPage p) o (2 ^ 32 - 1) v

/-- A write of HUSK[n].CTRL: OFF wins over ON (spec/07_husk_power_path.md R247). -/
def State.huskCtrl (s : State) (n : PortId) (v : Word) : State :=
  let s := s.on v 2 (fun t => t.setting n (fun u => u.applyCurve n))
  let s := s.on v 3 (fun t => t.huskCntClr n)
  if v.getLsbD 1 then s.askOff n none else if v.getLsbD 0 then s.askOn n none else s

/-- A write of a HUSK page. -/
def State.huskWrite (s : State) (n : PortId) (o : Nat) (v : Word) : State :=
  if o = 0x014 then s.huskCtrl n v
  else if 0x120 ≤ o ∧ o < 0x140 then s.setCurve n o v
  else if 0x100 ≤ o ∧ o < 0x120 then
    s.setting n (fun t =>
      match o with
      | 0x100 => t.setIlim n v
      | 0x104 => t.setFast n v
      | 0x118 => t.setTemp n o v
      | 0x11C => t.setTemp n o v
      | _ => t.plainWrite (huskPage n) o (2 ^ 32 - 1) v)
  else s

/-- A write of a REGION page. R266 refuses setting writes while the region link is lost or before the write-back, and does
not say what becomes of CTRL.SWITCH: it is refused with LINK_DOWN as well (DESIGN CHOICE, log entry 70). -/
def State.regionWrite (s : State) (m : RegId) (o : Nat) (v : Word) : State :=
  match o with
  | 0x014 => (s.on v 1 (fun t => t.regionClr m)).on v 0 (fun t =>
      t.regionSetting m (fun u => u.askSwitch m))
  | 0x100 => s.regionSetting m (fun t => t.setFeed m v)
  | 0x104 => s.setBudget (.region m) v
  | _ => s

/-- A write of a POD page: a budget or TLIMIT of one of its Pods (spec/08_regions_feeds_budgets.md R267). -/
def State.podWrite (s : State) (page o : Nat) (v : Word) : State :=
  let k := 2 * (page - 0x0F8) + (if 0x180 ≤ o then 1 else 0)
  if h : k < 12 then
    if o = 0x100 ∨ o = 0x180 then s.setBudget (.pod ⟨k, h⟩) v
    else if o = 0x104 ∨ o = 0x184 then
      if s.linkDown ⟨k / 3, by omega⟩ then s.cause page 5 else s.plainWrite page o (2 ^ 32 - 1) v
    else s
  else s

/-- A write of a SLICE page (spec/09_slices.md R273-R275, R289). -/
def State.sliceWrite (s : State) (i : SliceId) (o : Nat) (v : Word) : State :=
  match o with
  | 0x014 => s.sliceCtrl i v
  | 0x118 => s.setPwrMask i false v
  | 0x11C => s.setPwrMask i true v
  | 0x128 => s.plainWrite (slicePage i) o (2 ^ 32 - 1) v
  | 0x12C => s.plainWrite (slicePage i) o (2 ^ 32 - 1) v
  | 0x130 => s.setQuota i .wis v
  | 0x134 => s.setQuota i .park v
  | 0x138 => s.setQuota i .gran v
  | _ => if [0x100, 0x108, 0x10C, 0x110, 0x114, 0x120, 0x124, 0x140, 0x144].contains o then s.sliceConfig i o v else s

/-- A write that authority allows, on every page but FW: common registers, then each block's own; an unassigned page
ignores it (spec/15_register_map.md R393). -/
def State.coreWrite (s : State) (src : Source) (page o : Nat) (v : Word) : State :=
  if blockOf page = .absent then s
  else if o = 0x008 then s.causeWrite page (v &&& causeMask page)
  else if o = 0x00C then s.causeEnWrite page v
  else if o = 0x010 then s.causeSet page v
  else
    let i := instOf page
    match blockOf page with
    | .global => if o = 0x014 then s.globalCtrl v else if o = 0x110 then s.plainWrite 0 o (2 ^ 32 - 1) v else s
    | .clock => if o = 0x014 then s.clockCtrl v else s
    | .pwrdom =>
      if o = 0x014 then s.on v 0 State.pwrdomCntClr
      else
        match domAt 0x100 o with
        | some d => s.domReq d v
        | none => s.plainWrite 3 o (2 ^ 32 - 1) v
    | .time => s.timeWrite o v
    | .pkg =>
      match o with
      | 0x100 => s.setBudget .package v
      | 0x104 => s.setBudget .system v
      | 0x114 => s.pkgTherm v
      | _ => s.plainWrite 6 o (2 ^ 32 - 1) v
    | .qp => s.qpWrite (Fin.ofNat 64 i) o v
    | .sched => s.schedWrite page o v
    | .te => s.teWrite page o v
    | .ebr => s.ebrWrite o v
    | .port => s.portWrite (Fin.ofNat 48 i) o (writableBits src page o) v
    | .husk => s.huskWrite (Fin.ofNat 48 i) o v
    | .region => s.regionWrite (Fin.ofNat 4 i) o v
    | .pod => s.podWrite page o v
    | .dmch =>
      if o = 0x014 then s.dmchCtrl (Fin.ofNat 32 i) v
      else if (fieldsAt page o).isEmpty then s
      else s.dmConfig (Fin.ofNat 32 i) o v
    | .dm =>
      match o with
      | 0x014 => s.on v 0 (fun t => t.dmClr (Fin.ofNat 4 i))
      | 0x104 => s.pramWrite (Fin.ofNat 4 i) v
      | _ => s.plainWrite page o (2 ^ 32 - 1) v
    | .cf =>
      if o = 0x014 then s.cfCtrl (Fin.ofNat 4 i) v
      else if (fieldsAt page o).isEmpty then s
      else s.cfConfig (Fin.ofNat 4 i) o v
    | .slice => s.sliceWrite (Fin.ofNat 32 i) o v
    | .fw => s
    | .intsum => s
    | .absent => s

/-! ### Settings replay (spec/13_firmware_and_settings.md R368, R369) -/

/-- One entry: a register write of the management controller; what it may not write is skipped and counted. -/
def State.replayEntry (s : State) (e : Word × Word) : State :=
  let ofs := e.1.toNat
  let page := ofs / 4096
  let o := ofs % 4096
  if 2 ^ 21 ≤ ofs ∨ !mcMay page o then s.modFw (fun x => { x with skipped := x.skipped + 1 })
  else if o % 4 ≠ 0 then s.accSize .mc ofs 4 true
  else s.gateIn .mc page o (fun t => t.coreWrite .mc page o e.2)

/-- The live records replayed, or none of them where one is unreadable. -/
def State.replay (s : State) : State :=
  match s.unreadable? with
  | some r =>
    ((s.modFw (fun x => { x with unreadable := true })).raise 4 3 0 r.schema).cause 4 6
  | none =>
    (liveRecords s.store.records).foldl (fun t r => r.payload.foldl State.replayEntry t)
      (s.modFw (fun x => { x with skipped := 0 }))

/-- Imyon is ready: after a start it replays the settings; in the activation pause it ends the pause (R353, R359,
R362). -/
def State.imyonReady (s : State) : State :=
  let s := s.fwServe
  if !s.mcRuns then s
  else if s.fw.paused then (if s.fatal then s else s.activated)
  else if s.fw.mc = .loader then
    (s.runImage.replay).modFw (fun x => { x with replayDone := true })
  else s

/-- SET_APPLY (R367). -/
def State.setApply (s : State) (tag : BitVec 16) : State := s.setCmd 0x14 tag (fun t => (t.replay, 0))

/-! ### The FW page (R356, R373) -/

/-- A write of FW.CMD. How the store answers, and whether fuses verify, is a free value here (log entry 13). -/
def State.fwCmdWrite (s : State) (src : Source) (v : Word) : State :=
  let f := s.fresh
  let ok (i : Nat) : Bool := f.1.getLsbD i
  let st : StoreOutcome := ⟨(allFin 16).filter (fun k => ok (16 + k.val))⟩
  let tag := (v >>> 16).setWidth 16
  let t := f.2
  match bits v.toNat 0 8 with
  | 0x01 => t.updBegin src tag ⟨ok 0, ok 1⟩
  | 0x02 => t.updChunk src tag (ok 0)
  | 0x03 => t.updVerify src tag
  | 0x04 => t.updActivate src ⟨tag, ok 0⟩
  | 0x05 => t.updConfirm src tag ⟨ok 0, ok 1, ok 2⟩
  | 0x06 => t.updAbort src tag
  | 0x10 => t.setWrite tag st
  | 0x11 => t.setDelete tag st
  | 0x12 => t.setRead tag
  | 0x13 => t.setFormat tag st
  | 0x14 => t.setApply tag
  | op => t.fwCmd op tag (fun n u => u.result n 0x01)

/-- A write of a register that authority allows. -/
def State.regWrite (s : State) (src : Source) (page o : Nat) (v : Word) : State :=
  if page = 4 ∧ o ≠ 0x008 ∧ o ≠ 0x00C ∧ o ≠ 0x010 then
    match o with
    | 0x014 => s.on v 0 State.stageReset
    | 0x100 => s.fwCmdWrite src v
    | 0x110 => s.stageWrite v
    | _ => s.plainWrite 4 o (2 ^ 32 - 1) v
  else s.coreWrite src page o v

/-- A 32-bit write of a BAR0 register. -/
def State.write32 (s : State) (src : Source) (ofs : Nat) (v : Word) : State :=
  s.gateIn src (ofs / 4096) (ofs % 4096) (fun t => t.regWrite src (ofs / 4096) (ofs % 4096) v)

/-- The dword of a value that goes to each address of an access. -/
def dwordVals (size : Nat) (v : BitVec 64) : List Word :=
  if size = 8 then [v.setWidth 32, (v >>> 32).setWidth 32] else [v.setWidth 32]

/-- A BAR0 offset lies in a push window (spec/02_queue_pairs_and_doorbells.md R77). -/
def inPush (ofs : Nat) : Bool := decide (blockOf (ofs / 4096) = .qp) && decide (0x800 ≤ ofs % 4096)

/-- A write of BAR0 (R14, R77, spec/14_attention_and_errors.md R386). -/
def State.bar0Write (s : State) (src : Source) (ofs size : Nat) (v : BitVec 64) (parityErr : Bool) : State :=
  if s.held then s
  else if inPush ofs then
    s.pushWrite src (Fin.ofNat 64 (instOf (ofs / 4096))) ofs (ofs % 4096) size (v.setWidth 512)
  else if !sizeOk ofs size then s.accSize src ofs size true
  else if parityErr then s.parity
  else ((dwordsOf ofs size).zip (dwordVals size v)).foldl (fun t w => t.write32 src w.1 w.2) s

/-- A window's DEV_TABLE: refused while a context of the slice is open (spec/09_slices.md R281). -/
def State.winDevTable (s : State) (i : SliceId) (o : Nat) (v : Word) : State :=
  if s.ctxs.any (fun c => c.owner == some i) then s.winCauseSet i 2
  else s.plainWrite (slicePage i) o (2 ^ 32 - 1) v

/-- A 32-bit write of a window's control page. -/
def State.winControlWrite (s : State) (i : SliceId) (o : Nat) (v : Word) : State :=
  if s.blockOff .slice then s.accOff (.win i) (slicePage i)
  else if s.slices[i].st = .none then s
  else if o = 0x008 then s.modSlice i (fun x => { x with
      winCause := x.winCause &&& ~~~(v &&& ~~~s.causedNow (winCausePage i)) })
  else if o = 0x00C then s.modSlice i (fun x => { x with winEn := v &&& 0x1F })
  else if s.slices[i].st ≠ .active then s.winRefuse i false true
  else if o = 0x040 then s.winDevTable i 0x140 v
  else if o = 0x044 then s.winDevTable i 0x144 v
  else s

/-- A 32-bit write through a window. A register shown read-only drops it after the checks of R281. -/
def State.winWrite32 (s : State) (i : SliceId) (w : Nat) (v : Word) : State :=
  if w < 0x1000 then s.winControlWrite i w v
  else
    let r := winShows w
    match r.2 with
    | some ofs =>
      if ofs / 4096 = r.1 then s.write32 (.win i) ofs v else s.gateIn (.win i) r.1 0x018 id
    | none => s.gateIn (.win i) r.1 0x018 id

/-- A write through a window. -/
def State.winWrite (s : State) (i : SliceId) (w size : Nat) (v : BitVec 64) : State :=
  if s.held then s
  else if 0x8000 ≤ w ∧ w < 0x10000 then
    s.pushWrite (.win i) (Fin.ofNat 64 ((w - 0x8000) / 0x200)) (0x10000 * i.val + w) (w % 0x200) size (v.setWidth 512)
  else if !sizeOk w size ∨ 0x10000 ≤ w then s.accSize (.win i) (0x10000 * i.val + w) size true
  else ((dwordsOf w size).zip (dwordVals size v)).foldl (fun t x => t.winWrite32 i x.1 x.2) s

/-! ### Reads by a source -/

/-- A read of an access source; the answer goes to `rd`. -/
def State.readBy (s : State) (src : Source) (ofs size : Nat) (parityErr : Bool) : State :=
  if s.held then { s with rd := .none }
  else
    let win := match src with
      | .win i => some i
      | _ => none
    let push := match win with
      | some _ => decide (0x8000 ≤ ofs)
      | none => inPush ofs
    if push && (sizeOk ofs size || !s.blockOff .qp) then
      let page := match win with
        | some _ => 0x010 + (ofs - 0x8000) / 0x200
        | none => ofs / 4096
      let ws (w : Word) : Answer := .words ((dwordsOf ofs size).map (fun _ => w))
      if s.blockOff .qp then { s.accOff src page with rd := ws 0x0FF00FF0 } else { s with rd := ws 0 }
    else if !sizeOk ofs size then
      let full := match win with
        | some i => 0x10000 * i.val + ofs
        | none => ofs
      { s.accSize src full size false with rd := .words [0] }
    else if parityErr then { s.parity with rd := .poisoned }
    else
      let r := match win with
        | some i => s.readMany (fun t o => t.winRead32 i o) (dwordsOf ofs size)
        | none => s.readMany (fun t o => t.read32 src o) (dwordsOf ofs size)
      { r.2 with rd := .words r.1 }

/-- A read that its source brings to the registers. -/
def State.readFrom (s : State) (src : Source) (ofs size : Nat) (parityErr : Bool) : State :=
  if s.reaches src then s.readBy src ofs size parityErr else { s with rd := .none }

/-- A fence read: GLOBAL.FENCE, or the window's own (spec/01_device_organisation.md R45, R46). -/
def State.fenceRead (s : State) (src : Source) : State :=
  match src with
  | .win _ => s.readFrom src 0x01C 4 false
  | _ => s.readFrom src 0x108 4 false

/-! ### SMBus (spec/15_register_map.md R400) -/

/-- The SMBus target takes the transaction, and it ends with it: SCL is released. -/
def State.smbServe (s : State) : State := (s.fwServe).modCtl (fun x => { x with sclHeld := false, smbTxn := false })

/-- The reserved bits of an offset dword are 0. -/
def smbOfsOk (ofs : Word) : Bool := bits ofs.toNat 21 10 == 0

/-- Offset of dword i: NO_INC in bit 31. -/
def smbOfs (ofs : Word) (i : Nat) : Nat := bits ofs.toNat 0 21 + (if bitAt ofs.toNat 31 then 0 else 4 * i)

/-- The target's own address (spec/16_pins_and_electrical.md R413). -/
def State.smbAddr (s : State) : BitVec 7 := 0x58 + (s.store.straps.setWidth 3).setWidth 7

/-- WRITE_AT. Another address is ignored; another code, or a count or reserved bit that is wrong, is NACKed. An access with
a parity error is dropped, the others of the block are not (R386). -/
def State.smbWrite (s : State) (h : SmbHead) (ofs : Word) (vals : List Word) (pecBad : Bool) (parityErr : BitVec 63) :
    State :=
  if !s.mcRuns || h.addr != s.smbAddr then { s with rd := .none }
  else
    let s := s.smbServe
    if h.code ≠ 1 ∨ h.count < 8 ∨ 252 < h.count ∨ h.count ≠ 4 + 4 * vals.length ∨ !smbOfsOk ofs then { s with rd := .nack }
    else if h.pec && pecBad then s.cause 0 7
    else
      (vals.zip (List.range vals.length)).foldl (fun t v =>
        let o := smbOfs ofs v.2
        if o % 4 ≠ 0 then t.accSize .smbus o 4 true
        else if parityErr.getLsbD v.2 then t.parity
        else t.write32 .smbus o v.1) s

/-- The bytes of a READ_AT before the dwords it returns. -/
def smbReadBytes (h : SmbHead) (ofs : Word) (n : Nat) : List Byte :=
  let a : Byte := h.addr.setWidth 8 <<< 1
  [a, h.code, BitVec.ofNat 8 h.count] ++ leBytes 4 ofs.toNat ++ [BitVec.ofNat 8 n, a ||| 1, BitVec.ofNat 8 (4 * n)]

/-- What a READ_AT returns: its dwords, and the PEC of the whole transaction where the host clocks it. -/
def smbAnswer (h : SmbHead) (ofs : Word) (ws : List Word) (bad : Bool) : Answer :=
  .smb ws (if !h.pec then .absent else if bad then .bad
    else .good (pec (smbReadBytes h ofs ws.length ++ ws.flatMap (fun w => leBytes 4 w.toNat))))

/-- One dword of a READ_AT; one with a parity error is not accessed and has a free value (R386). -/
def State.smbDword (s : State) (ofs : Word) (parityErr : BitVec 63) (i : Nat) : Word × State :=
  if parityErr.getLsbD i then
    let f := s.parity.fresh
    (f.1.setWidth 32, f.2)
  else s.read32 .smbus (smbOfs ofs i)

/-- READ_AT. -/
def State.smbRead (s : State) (h : SmbHead) (ofs : Word) (n : Nat) (parityErr : BitVec 63) : State :=
  if !s.mcRuns || h.addr != s.smbAddr then { s with rd := .none }
  else
    let s := s.smbServe
    if h.code ≠ 2 ∨ h.count ≠ 5 ∨ n < 1 ∨ 63 < n ∨ !smbOfsOk ofs then { s with rd := .nack }
    else if bits ofs.toNat 0 21 % 4 ≠ 0 then
      { s.accSize .smbus (bits ofs.toNat 0 21) 4 false with rd := smbAnswer h ofs (List.replicate n 0) false }
    else
      let r := s.readMany (fun t i => t.smbDword ofs parityErr i) (List.range n)
      { r.2 with rd := smbAnswer h ofs r.1 ((List.range n).any (fun i => parityErr.getLsbD i)) }

/-! ### Meanings -/

/-- MMIO_WRITE (R44): a slice window is a source of its own. -/
def execMmioWrite (src : Source) (ofs size : Nat) (v : BitVec 64) (parityErr : Bool) (s : State) : Result :=
  done (if !s.reaches src then s else match src with
    | .win i => if parityErr && sizeOk ofs size && !s.held then s.parity else s.winWrite i ofs size v
    | _ => s.bar0Write src ofs size v parityErr)

/-- FENCE_READ (R45). -/
def execFenceRead (src : Source) (s : State) : Result := done (s.fenceRead src)

/-- LOW_DWORD_LATCH (R397): a read of a register. -/
def execLowDwordLatch (src : Source) (ofs size : Nat) (parityErr : Bool) (s : State) : Result :=
  done (s.readFrom src ofs size parityErr)

/-- CAUSE_SET_WRITE (R395). -/
def execCauseSetWrite (src : Source) (page : Fin 512) (v : Word) (s : State) : Result :=
  done (s.gate src page.val 0x010 (fun t => t.causeSet page.val v))

/-- WINDOW_WRITE (R281). -/
def execWindowWrite (i : SliceId) (ofs size : Nat) (v : BitVec 64) (s : State) : Result :=
  done (if s.reaches (.win i) then s.winWrite i ofs size v else s)

/-- IMYON_READY (R353). -/
def execImyonReady (s : State) : Result := done s.imyonReady

/-- SET_APPLY (R368). -/
def execSetApply (src : Source) (tag : BitVec 16) (s : State) : Result :=
  done (s.gate src 4 0x100 (fun t => t.setApply tag))

/-- WRITE_AT (R400). -/
def execWriteAt (head : SmbHead) (ofs : Word) (vals : List Word) (pecBad : Bool) (parityErr : BitVec 63) (s : State) :
    Result := done (s.smbWrite head ofs vals pecBad parityErr)

/-- TCK_EDGE (R429): the edge that ends Update-DR carries out the access the shifted bits spell, with BAR0 authority,
where debug is open (spec/09_slices.md R278). -/
def execTckEdge (rising tms : Bool) (tdi : TdiBit) (trstN : Bool) (s : State) : Result :=
  let acts := s.debugOpen && trstN && !rising && s.tap.st == .updDr && !s.tap.scans
  let t : State := { s with tap := s.tap.edge rising tms tdi.bit trstN }
  done (match tdi.access with
    | some a => if !acts then t
      else if a.write then t.bar0Write .bar0 a.ofs a.size a.v false
      else t.readBy .bar0 a.ofs a.size false
    | none => t)

/-- READ_AT (R400). -/
def execReadAt (head : SmbHead) (ofs : Word) (n : Nat) (parityErr : BitVec 63) (s : State) : Result :=
  done (s.smbRead head ofs n parityErr)

end Sys2Proof.Machine
end

