-- ==== Sys2Proof/Machine/Dispatch.lean ====
section
/-! DEFINITION. One arm per command of spec/opcode_table.json: a direct call of its meaning. -/

namespace Sys2Proof.Machine

open Sys2Proof

def exec (i : Instr) (s : State) : Host.Outcome State Fault Refusal :=
  match i with
  | .powerOnReset straps => Sys2Proof.Machine.execPowerOnReset straps s
  | .perstNAssert => Sys2Proof.Machine.execPerstNAssert s
  | .perstNRelease => Sys2Proof.Machine.execPerstNRelease s
  | .pcieHotReset => Sys2Proof.Machine.execPcieHotReset s
  | .devReset src => Sys2Proof.Machine.execDevReset src s
  | .controlDieResetRelease => Sys2Proof.Machine.execControlDieResetRelease s
  | .rootPllLock => Sys2Proof.Machine.execRootPllLock s
  | .pllLost => Sys2Proof.Machine.execPllLost s
  | .powerDieResetFrame m => Sys2Proof.Machine.execPowerDieResetFrame m s
  | .controlDieThermalShutdown => Sys2Proof.Machine.execControlDieThermalShutdown s
  | .controlDieCooled => Sys2Proof.Machine.execControlDieCooled s
  | .dieHot m => Sys2Proof.Machine.execDieHot m s
  | .powerDieCooled m => Sys2Proof.Machine.execPowerDieCooled m s
  | .regionLinkFrame m crcOk => Sys2Proof.Machine.execRegionLinkFrame m crcOk s
  | .regionLinkLost m => Sys2Proof.Machine.execRegionLinkLost m s
  | .writeBackDone m => Sys2Proof.Machine.execWriteBackDone m s
  | .claimRebuild => Sys2Proof.Machine.execClaimRebuild s
  | .aonXtalRequest src v => Sys2Proof.Machine.execAonXtalRequest src v s
  | .xtalQualDone rcCount => Sys2Proof.Machine.execXtalQualDone rcCount s
  | .xtalStop => Sys2Proof.Machine.execXtalStop s
  | .mcClkSelect src v => Sys2Proof.Machine.execMcClkSelect src v s
  | .mmioWrite src ofs size v parityErr => Sys2Proof.Machine.execMmioWrite src ofs size v parityErr s
  | .fenceRead src => Sys2Proof.Machine.execFenceRead src s
  | .lowDwordLatch src ofs size parityErr => Sys2Proof.Machine.execLowDwordLatch src ofs size parityErr s
  | .causeSetWrite src page v => Sys2Proof.Machine.execCauseSetWrite src page v s
  | .sqDbWrite via q v => Sys2Proof.Machine.execSqDbWrite via q v s
  | .cqDbWrite via q v => Sys2Proof.Machine.execCqDbWrite via q v s
  | .pushWrite via q ofs size data => Sys2Proof.Machine.execPushWrite via q ofs size data s
  | .pushBufferStore q => Sys2Proof.Machine.execPushBufferStore q s
  | .qpEnable src q v => Sys2Proof.Machine.execQpEnable src q v s
  | .qpDisable src q v => Sys2Proof.Machine.execQpDisable src q v s
  | .eventQSet src q v => Sys2Proof.Machine.execEventQSet src q v s
  | .fetchVisit => Sys2Proof.Machine.execFetchVisit s
  | .ringFetchDone q res => Sys2Proof.Machine.execRingFetchDone q res s
  | .stagedEntryStore q => Sys2Proof.Machine.execStagedEntryStore q s
  | .eventCommit page => Sys2Proof.Machine.execEventCommit page s
  | .parkWrite q => Sys2Proof.Machine.execParkWrite q s
  | .mirrorWrite q => Sys2Proof.Machine.execMirrorWrite q s
  | .coalCountReached q => Sys2Proof.Machine.execCoalCountReached q s
  | .coalTimerExpiry q => Sys2Proof.Machine.execCoalTimerExpiry q s
  | .periodicRelease id => Sys2Proof.Machine.execPeriodicRelease id s
  | .pipPlacement => Sys2Proof.Machine.execPipPlacement s
  | .engineTake e => Sys2Proof.Machine.execEngineTake e s
  | .pipRecall e => Sys2Proof.Machine.execPipRecall e s
  | .retireListService => Sys2Proof.Machine.execRetireListService s
  | .serviceCutoff p => Sys2Proof.Machine.execServiceCutoff p s
  | .agePromotion id => Sys2Proof.Machine.execAgePromotion id s
  | .ageGuard id => Sys2Proof.Machine.execAgeGuard id s
  | .counterWindowEnd => Sys2Proof.Machine.execCounterWindowEnd s
  | .histClr src => Sys2Proof.Machine.execHistClr src s
  | .peakClr src => Sys2Proof.Machine.execPeakClr src s
  | .schedCntClr src => Sys2Proof.Machine.execSchedCntClr src s
  | .pfWisQuotaWrite src v => Sys2Proof.Machine.execPfWisQuotaWrite src v s
  | .contextReadDone id res => Sys2Proof.Machine.execContextReadDone id res s
  | .ctxFlush src => Sys2Proof.Machine.execCtxFlush src s
  | .teCntClr src => Sys2Proof.Machine.execTeCntClr src s
  | .control id => Sys2Proof.Machine.execControl id s
  | .bulkOut id => Sys2Proof.Machine.execBulkOut id s
  | .bulkIn id => Sys2Proof.Machine.execBulkIn id s
  | .intrOut id => Sys2Proof.Machine.execIntrOut id s
  | .intrIn id => Sys2Proof.Machine.execIntrIn id s
  | .isocOut id => Sys2Proof.Machine.execIsocOut id s
  | .isocIn id => Sys2Proof.Machine.execIsocIn id s
  | .epOpen id => Sys2Proof.Machine.execEpOpen id s
  | .epClose id => Sys2Proof.Machine.execEpClose id s
  | .epResetToggle id => Sys2Proof.Machine.execEpResetToggle id s
  | .epClearHalt id => Sys2Proof.Machine.execEpClearHalt id s
  | .portReset id => Sys2Proof.Machine.execPortReset id s
  | .portSuspend id => Sys2Proof.Machine.execPortSuspend id s
  | .portResume id => Sys2Proof.Machine.execPortResume id s
  | .portPowerReq id => Sys2Proof.Machine.execPortPowerReq id s
  | .nop id => Sys2Proof.Machine.execNop id s
  | .fenceMark id => Sys2Proof.Machine.execFenceMark id s
  | .transactionStart p => Sys2Proof.Machine.execTransactionStart p s
  | .transactionEnd p r => Sys2Proof.Machine.execTransactionEnd p r s
  | .responseTimeout p => Sys2Proof.Machine.execResponseTimeout p s
  | .nakGapExpiry id => Sys2Proof.Machine.execNakGapExpiry id s
  | .xferTimeout id => Sys2Proof.Machine.execXferTimeout id s
  | .intrNakLimit id => Sys2Proof.Machine.execIntrNakLimit id s
  | .hostDataReadDone id ok => Sys2Proof.Machine.execHostDataReadDone id ok s
  | .poolGranuleGrant id => Sys2Proof.Machine.execPoolGranuleGrant id s
  | .poolMinWrite src v => Sys2Proof.Machine.execPoolMinWrite src v s
  | .ebrCntClr src => Sys2Proof.Machine.execEbrCntClr src s
  | .attachQualified p => Sys2Proof.Machine.execAttachQualified p s
  | .detachDetected p => Sys2Proof.Machine.execDetachDetected p s
  | .resetStart p => Sys2Proof.Machine.execResetStart p s
  | .chirpKQualified p => Sys2Proof.Machine.execChirpKQualified p s
  | .chirpKEnd p before7ms => Sys2Proof.Machine.execChirpKEnd p before7ms s
  | .chirpSequenceEnd p pairs => Sys2Proof.Machine.execChirpSequenceEnd p pairs s
  | .resetEnd p => Sys2Proof.Machine.execResetEnd p s
  | .recoveryEnd p => Sys2Proof.Machine.execRecoveryEnd p s
  | .suspendDrainDone p => Sys2Proof.Machine.execSuspendDrainDone p s
  | .suspendIdleEnd p => Sys2Proof.Machine.execSuspendIdleEnd p s
  | .suspendTimeout p => Sys2Proof.Machine.execSuspendTimeout p s
  | .resumeKEnd p => Sys2Proof.Machine.execResumeKEnd p s
  | .remoteWake p => Sys2Proof.Machine.execRemoteWake p s
  | .babbleCutoff p => Sys2Proof.Machine.execBabbleCutoff p s
  | .portDisable src p => Sys2Proof.Machine.execPortDisable src p s
  | .portCntClr src p => Sys2Proof.Machine.execPortCntClr src p s
  | .ledPulseEnd p => Sys2Proof.Machine.execLedPulseEnd p s
  | .chgRoleWrite src p v => Sys2Proof.Machine.execChgRoleWrite src p v s
  | .cdpDplusHigh p => Sys2Proof.Machine.execCdpDplusHigh p s
  | .cdpDplusLow p => Sys2Proof.Machine.execCdpDplusLow p s
  | .testModeWrite src p v => Sys2Proof.Machine.execTestModeWrite src p v s
  | .microframeBoundary k envelope => Sys2Proof.Machine.execMicroframeBoundary k envelope s
  | .sofSrcWrite src p v => Sys2Proof.Machine.execSofSrcWrite src p v s
  | .sofRatioWrite src p v => Sys2Proof.Machine.execSofRatioWrite src p v s
  | .sofTrimWrite src p v => Sys2Proof.Machine.execSofTrimWrite src p v s
  | .refSrcWrite src ratio v => Sys2Proof.Machine.execRefSrcWrite src ratio v s
  | .syncWrite src v => Sys2Proof.Machine.execSyncWrite src v s
  | .phaseComparison k ago => Sys2Proof.Machine.execPhaseComparison k ago s
  | .freqPreset k => Sys2Proof.Machine.execFreqPreset k s
  | .phaseSlewDone k => Sys2Proof.Machine.execPhaseSlewDone k s
  | .lockAcquired k => Sys2Proof.Machine.execLockAcquired k s
  | .lockLost k => Sys2Proof.Machine.execLockLost k s
  | .refLost k => Sys2Proof.Machine.execRefLost k s
  | .refRecovered k => Sys2Proof.Machine.execRefRecovered k s
  | .ppsEdge => Sys2Proof.Machine.execPpsEdge s
  | .fsyncInEdge wide ago => Sys2Proof.Machine.execFsyncInEdge wide ago s
  | .dtimeSet src v => Sys2Proof.Machine.execDtimeSet src v s
  | .estClr src => Sys2Proof.Machine.execEstClr src s
  | .huskOn src n => Sys2Proof.Machine.execHuskOn src n s
  | .huskOff src n => Sys2Proof.Machine.execHuskOff src n s
  | .huskApply src n => Sys2Proof.Machine.execHuskApply src n s
  | .huskCntClr src n => Sys2Proof.Machine.execHuskCntClr src n s
  | .ilimWrite src n v => Sys2Proof.Machine.execIlimWrite src n v s
  | .fastWrite src n v => Sys2Proof.Machine.execFastWrite src n v s
  | .attemptStart n => Sys2Proof.Machine.execAttemptStart n s
  | .rampVout95 n => Sys2Proof.Machine.execRampVout95 n s
  | .gateEnhanced n => Sys2Proof.Machine.execGateEnhanced n s
  | .trampExpiry n vout => Sys2Proof.Machine.execTrampExpiry n vout s
  | .rampReleaseExpiry n => Sys2Proof.Machine.execRampReleaseExpiry n s
  | .settleDip n => Sys2Proof.Machine.execSettleDip n s
  | .pgDlyExpiry n => Sys2Proof.Machine.execPgDlyExpiry n s
  | .pgTimeout n => Sys2Proof.Machine.execPgTimeout n s
  | .breakerTrip n => Sys2Proof.Machine.execBreakerTrip n s
  | .fastTrip n => Sys2Proof.Machine.execFastTrip n s
  | .tempTrip n r => Sys2Proof.Machine.execTempTrip n r s
  | .tempWarn n model temp => Sys2Proof.Machine.execTempWarn n model temp s
  | .tempWarnClear n => Sys2Proof.Machine.execTempWarnClear n s
  | .retryOffEnd n => Sys2Proof.Machine.execRetryOffEnd n s
  | .onHold10s n => Sys2Proof.Machine.execOnHold10s n s
  | .probeConnect n => Sys2Proof.Machine.execProbeConnect n s
  | .probeReading n r => Sys2Proof.Machine.execProbeReading n r s
  | .probeAttachStep n => Sys2Proof.Machine.execProbeAttachStep n s
  | .feedGood m f => Sys2Proof.Machine.execFeedGood m f s
  | .feedNotGood m f => Sys2Proof.Machine.execFeedNotGood m f s
  | .feedFault m kind => Sys2Proof.Machine.execFeedFault m kind s
  | .deadTimeEnd m => Sys2Proof.Machine.execDeadTimeEnd m s
  | .feedLost m => Sys2Proof.Machine.execFeedLost m s
  | .powerDieRestart m => Sys2Proof.Machine.execPowerDieRestart m s
  | .feedRevert m => Sys2Proof.Machine.execFeedRevert m s
  | .feedSwitchReq src m => Sys2Proof.Machine.execFeedSwitchReq src m s
  | .feedWrite src m v => Sys2Proof.Machine.execFeedWrite src m v s
  | .regionCntClr src m => Sys2Proof.Machine.execRegionCntClr src m s
  | .budgetWrite src level v => Sys2Proof.Machine.execBudgetWrite src level v s
  | .shedTimerExpiry level => Sys2Proof.Machine.execShedTimerExpiry level s
  | .thermalShed level => Sys2Proof.Machine.execThermalShed level s
  | .shedGapExpiry => Sys2Proof.Machine.execShedGapExpiry s
  | .thermWarn die temp => Sys2Proof.Machine.execThermWarn die temp s
  | .sliceCreate src sl => Sys2Proof.Machine.execSliceCreate src sl s
  | .sliceReset src sl => Sys2Proof.Machine.execSliceReset src sl s
  | .sliceRemove src sl => Sys2Proof.Machine.execSliceRemove src sl s
  | .sliceDrained sl => Sys2Proof.Machine.execSliceDrained sl s
  | .windowWrite sl ofs size v => Sys2Proof.Machine.execWindowWrite sl ofs size v s
  | .sliceQuotaWrite src sl which v => Sys2Proof.Machine.execSliceQuotaWrite src sl which v s
  | .pwrMaskWrite src sl high v => Sys2Proof.Machine.execPwrMaskWrite src sl high v s
  | .dmGo src c => Sys2Proof.Machine.execDmGo src c s
  | .dmStop src c => Sys2Proof.Machine.execDmStop src c s
  | .dmchCntClr src c => Sys2Proof.Machine.execDmchCntClr src c s
  | .dmChannelChosen e => Sys2Proof.Machine.execDmChannelChosen e s
  | .dmCountDone c => Sys2Proof.Machine.execDmCountDone c s
  | .dmInstructionFetch c res => Sys2Proof.Machine.execDmInstructionFetch c res s
  | .dmMove c data => Sys2Proof.Machine.execDmMove c data s
  | .dmMoveDone c => Sys2Proof.Machine.execDmMoveDone c s
  | .dmLoop c => Sys2Proof.Machine.execDmLoop c s
  | .dmWait c => Sys2Proof.Machine.execDmWait c s
  | .dmWaitSatisfied c => Sys2Proof.Machine.execDmWaitSatisfied c s
  | .dmSignal c => Sys2Proof.Machine.execDmSignal c s
  | .dmEnd c => Sys2Proof.Machine.execDmEnd c s
  | .dmWaitTimeout c => Sys2Proof.Machine.execDmWaitTimeout c s
  | .dmRunLimit c => Sys2Proof.Machine.execDmRunLimit c s
  | .dmReadCompletion c ok => Sys2Proof.Machine.execDmReadCompletion c ok s
  | .pramDataAccess src e v => Sys2Proof.Machine.execPramDataAccess src e v s
  | .dmCntClr src e => Sys2Proof.Machine.execDmCntClr src e s
  | .capturePacketStart k pid fromDev body => Sys2Proof.Machine.execCapturePacketStart k pid fromDev body s
  | .captureByte k b => Sys2Proof.Machine.execCaptureByte k b s
  | .capturePacketEnd k eopOk crcOk => Sys2Proof.Machine.execCapturePacketEnd k eopOk crcOk s
  | .captureTailTimeout k => Sys2Proof.Machine.execCaptureTailTimeout k s
  | .cfFlush src k => Sys2Proof.Machine.execCfFlush src k s
  | .cfEnable src k v => Sys2Proof.Machine.execCfEnable src k v s
  | .cfDisable src k v => Sys2Proof.Machine.execCfDisable src k v s
  | .cfCntClr src k => Sys2Proof.Machine.execCfCntClr src k s
  | .domainRequest src d v => Sys2Proof.Machine.execDomainRequest src d v s
  | .domainReask d => Sys2Proof.Machine.execDomainReask d s
  | .domainDelayExpired d => Sys2Proof.Machine.execDomainDelayExpired d s
  | .domainSaveDone d => Sys2Proof.Machine.execDomainSaveDone d s
  | .domainGateDone d => Sys2Proof.Machine.execDomainGateDone d s
  | .domainExitDone d saveErr => Sys2Proof.Machine.execDomainExitDone d saveErr s
  | .smbusWake => Sys2Proof.Machine.execSmbusWake s
  | .podSelfWake p => Sys2Proof.Machine.execPodSelfWake p s
  | .hostL1Exit => Sys2Proof.Machine.execHostL1Exit s
  | .pwrdomCntClr src => Sys2Proof.Machine.execPwrdomCntClr src s
  | .imyonReady => Sys2Proof.Machine.execImyonReady s
  | .imyonStartTimeout => Sys2Proof.Machine.execImyonStartTimeout s
  | .updBegin src tag store => Sys2Proof.Machine.execUpdBegin src tag store s
  | .updChunk src tag storeOk => Sys2Proof.Machine.execUpdChunk src tag storeOk s
  | .updVerify src tag => Sys2Proof.Machine.execUpdVerify src tag s
  | .updActivate src cmd => Sys2Proof.Machine.execUpdActivate src cmd s
  | .activationPause => Sys2Proof.Machine.execActivationPause s
  | .activationWdog => Sys2Proof.Machine.execActivationWdog s
  | .updConfirm src tag store => Sys2Proof.Machine.execUpdConfirm src tag store s
  | .updAbort src tag => Sys2Proof.Machine.execUpdAbort src tag s
  | .setWrite src tag store => Sys2Proof.Machine.execSetWrite src tag store s
  | .setDelete src tag store => Sys2Proof.Machine.execSetDelete src tag store s
  | .setRead src tag => Sys2Proof.Machine.execSetRead src tag s
  | .setFormat src tag store => Sys2Proof.Machine.execSetFormat src tag store s
  | .setApply src tag => Sys2Proof.Machine.execSetApply src tag s
  | .fwCommandDone => Sys2Proof.Machine.execFwCommandDone s
  | .fwDataAccess src v => Sys2Proof.Machine.execFwDataAccess src v s
  | .dataRst src => Sys2Proof.Machine.execDataRst src s
  | .scrubPass ram inst found => Sys2Proof.Machine.execScrubPass ram inst found s
  | .eccCorrected ram inst => Sys2Proof.Machine.execEccCorrected ram inst s
  | .eccUncorrectable ram inst live => Sys2Proof.Machine.execEccUncorrectable ram inst live s
  | .globalCntClr src => Sys2Proof.Machine.execGlobalCntClr src s
  | .writeAt head ofs vals pecBad parityErr => Sys2Proof.Machine.execWriteAt head ofs vals pecBad parityErr s
  | .readAt head ofs n parityErr => Sys2Proof.Machine.execReadAt head ofs n parityErr s
  | .smbusSclTimeout => Sys2Proof.Machine.execSmbusSclTimeout s
  | .measurementUpdate r => Sys2Proof.Machine.execMeasurementUpdate r s
  | .breakerSample n r => Sys2Proof.Machine.execBreakerSample n r s
  | .packetListReadDone id res => Sys2Proof.Machine.execPacketListReadDone id res s
  | .powerReqTimeout id => Sys2Proof.Machine.execPowerReqTimeout id s
  | .configurationRequest req => Sys2Proof.Machine.execConfigurationRequest req s
  | .linkL1Entry => Sys2Proof.Machine.execLinkL1Entry s
  | .pmeTurnOff => Sys2Proof.Machine.execPmeTurnOff s
  | .lineStateChange p l => Sys2Proof.Machine.execLineStateChange p l s
  | .tckEdge rising tms tdi trstN => Sys2Proof.Machine.execTckEdge rising tms tdi trstN s
  | .ctxFlushDone => Sys2Proof.Machine.execCtxFlushDone s

end Sys2Proof.Machine
end

