-- ==== Sys2Proof/Machine/Tick.lean ====
section
/-!
DEFINITION. What happens at a tick: the block does this where no command waits. A tick is one CLK_CORE cycle, which is
one high-speed bit time (log entry 2).
-/

namespace Sys2Proof.Machine

open Sys2Proof

/-- The clock of the TIME domain has power: until the gate phase of an entry (spec/12_power_domains.md R333). -/
def State.timeClocked (s : State) : Bool :=
  let d := s.doms[domTIME]
  d.st == .on || (d.st == .entering && d.phase == .save && !d.fromRet)

/-- DTIME adds 2 ns, and 3 ns in every twelfth cycle (spec/06_frame_timing.md R210). -/
def State.countTime (s : State) : State :=
  { s with dtime := s.dtime + (if s.dphase = 11 then 3 else 2), dphase := (s.dphase + 1) % 12 }

/-- CLK_AON ticks up to a moment in bit times: 32,768 Hz against 480 MHz (spec/01_device_organisation.md R36). -/
def aonTicks (now : Nat) : Nat := now * 32768 / 480000000

/-- The sleep counter, 48 bits, counts CLK_AON; the RC makes the sleep inexact (R213). -/
def State.countSleep (s : State) : State :=
  s.modCtl (fun x => { x with
    sleepTicks := (x.sleepTicks + (aonTicks s.now - aonTicks (s.now - 1))) % 2 ^ 48, rcUsed := x.rcUsed || !x.onXtal })

/-- Device time or the sleep counter; neither counts while the control die is held. -/
def State.tickTime (s : State) : State :=
  if s.held then s
  else if s.timeClocked then (if s.ctl.pllLock then s.countTime else s)
  else s.countSleep

/-- Each microsecond of an engine counts for the window in progress (spec/03_dispatch_scheduler.md R126). -/
def State.tickEngines (s : State) : State :=
  if s.held || !s.rootOn domSCHED then s
  else
    s.forAll (allFin 16) (fun t e =>
      let busy := t.wis.any (fun it => it.inService && it.engine? == some e)
      t.modEng e (fun x => { x with busy := x.busy + b2n busy, occ := x.occ + t.slotsUsed e }))

/-- Power a channel's FET takes, in microwatts (spec/07_husk_power_path.md R235). -/
def Husk.power (x : Husk) : Nat :=
  if !x.driven then 0 else if x.full then x.mA * x.mA * 45 / 1000 else x.vds * x.mA

/-- One step of 12.5 us of the thermal model over a junction in °C: 12 K/W over 2 ms and 30 K/W over 400 ms (R235). Its
temperature counts for the mean that MEAS_T.MODEL shows (spec/07_husk_power_path.md R244). -/
def Husk.heat (x : Husk) (die : Int) : Husk :=
  let pole (old k div : Nat) : Nat := ((old : Int) + ((k * 1000 * x.power : Nat) - (old : Int)) / (div : Int)).toNat
  let p := pole x.pole1 12 160
  let q := pole x.pole2 30 32000
  { x with pole1 := p, pole2 := q, heatSum := x.heatSum + (10 ^ 9 * die + ((p + q : Nat) : Int)), heatCnt := x.heatCnt + 1 }

/-- The thermal model runs on every power die that runs. -/
def State.tickHeat (s : State) : State :=
  s.forAll (allFin 48) (fun t n =>
    let r := t.regions[regionOf n]
    if r.running then t.modHusk n (fun x => x.heat r.junction) else t)

/-- The link takes what the device sends. -/
def State.linkSends (s : State) : Bool :=
  !s.held && s.domOn domHOST && s.pci.ready && !s.pci.inL1 && !s.pci.inL2 && !s.pci.d3hot

/-- A mirror write is due and will be made: a message waits for it (spec/01_device_organisation.md R29). -/
def State.mirrorWaits (s : State) : Bool :=
  s.rootOn domSCHED && (allFin 64).any (fun q => s.qps[q].mirrorDue && s.flag (at_ (qpPage q) 0x14) 1)

/-- The oldest read request passes no write issued before it (spec/10_data_mover.md R309). -/
def State.readGoes (s : State) : Bool :=
  match s.reads with
  | [] => false
  | r :: _ => !s.posted.any (fun w => decide (w.since ≤ r.since))

/-- The oldest read request leaves, the oldest posted write, and a message once no write stands before it; in FATAL
only vector 0, INTx and error messages leave (spec/01_device_organisation.md R29, R31,
spec/14_attention_and_errors.md R387; log entry 5). -/
def State.tickLink (s : State) : State :=
  if !s.linkSends then s
  else if s.fatal then s.modAtt (fun a => { a with msgs := a.msgs.eraseP (fun v => v == 0 || decide (33 ≤ v)) })
  else
    let t := if s.readGoes then { s with reads := s.reads.drop 1 } else s
    if !s.posted.isEmpty then { t with posted := s.posted.drop 1 }
    else if s.mirrorWaits then t
    else t.modAtt (fun a => { a with msgs := a.msgs.drop 1 })

/-- One tick. -/
def State.tick (s : State) : State :=
  let s := { (s.modCtl (fun x => { x with scrubWb := false })) with now := s.now + 1, causesNow := [] }
  let s := s.tickTime
  let s := if s.now % 480 = 0 then s.tickEngines else s
  let s := if s.now % 6000 = 0 then s.tickHeat else s
  let s := s.tickLink
  let s := s.forAll (allFin 4) (fun t m => if t.regions[m].plan.isSome then t.planDue m else t)
  if s.held then s else s.fwServe

end Sys2Proof.Machine
end

