-- ==== Sys2Proof/WellFormed.lean ====
section
/-!
DEFINITION. Which terms the environment can send: operands within the sizes the spec gives them. Every meaning is
total all the same.
-/

namespace Sys2Proof

/-- An access that lies within a space of `top` bytes and carries 1 to 8 bytes (spec/15_register_map.md R391,
spec/09_slices.md R279). -/
def accessWf (ofs size top : Nat) : Bool := decide (1 ≤ size ∧ size ≤ 8 ∧ ofs + size ≤ top)

/-- The space of an access source: BAR0 is 2 MiB, a slice window 64 KiB. -/
def Source.top : Source → Nat
  | .win _ => 0x10000
  | _ => 0x200000

/-- A push carries 1 to 64 bytes within its 512-byte window (spec/02_queue_pairs_and_doorbells.md R77). -/
def pushWf (ofs size : Nat) : Bool := decide (1 ≤ size ∧ size ≤ 64 ∧ ofs + size ≤ 512)

/-- A ring read brings at most the ring's 65,536 slots (R56). -/
def FetchResult.wf (r : FetchResult) : Bool := decide (r.entries.length ≤ 65536)

/-- Every list of readings names each of its members once (spec/08_regions_feeds_budgets.md R255). -/
def Readings.wf (r : Readings) : Bool :=
  decide (r.cur.length = 48 ∧ r.peak.length = 48 ∧ r.vout.length = 48 ∧ r.diode.length = 48) &&
  decide (r.bus.length = 4 ∧ r.regCur.length = 4 ∧ r.feedA.length = 4 ∧ r.feedB.length = 4 ∧ r.die.length = 4 ∧
    r.awclk.length = 4)

/-- A block carries at most 255 bytes after its count, and a transaction with the code of one command is not the other
(spec/15_register_map.md R400). -/
def blockWf (h : SmbHead) (other : Byte) (n : Nat) : Bool := decide (h.count ≤ 255 ∧ 4 * n ≤ 251 ∧ h.code ≠ other)

/-- A command the environment can send. -/
def Instr.wf : Instr → Bool
  | .mmioWrite src ofs size _ _ => accessWf ofs size src.top
  | .lowDwordLatch src ofs size _ => accessWf ofs size src.top
  | .windowWrite _ ofs size _ => accessWf ofs size 0x10000
  | .pushWrite _ _ ofs size _ => pushWf ofs size
  | .ringFetchDone _ res => res.wf
  | .measurementUpdate r => r.wf
  | .writeAt h _ vals _ _ => blockWf h 2 vals.length
  | .readAt h _ _ _ => blockWf h 1 0
  | .tckEdge _ _ ⟨_, some a⟩ _ => accessWf a.ofs a.size 0x200000
  | _ => true

end Sys2Proof
end

