-- ==== Sys2Proof/Safety.lean ====
section
/-!
DEFINITION. The terms the statements use: what a sound state is, when a register write takes effect, and frames: what
a command leaves as it was.
-/

namespace Sys2Proof.Machine

open Sys2Proof

/-! ### Sound states -/

/-- The key a read of a low dword latches its high dword under (spec/15_register_map.md R397). -/
def latchKey (src : Source) (k : Nat) : Bool :=
  match src with
  | .win _ => decide (4 ≤ k) && winLow (k - 4)
  | _ => decide (4 ≤ k) && roLow ((k - 4) / 4096) ((k - 4) % 4096)

/-- The sparse memories are in canonical form: the registers, the program RAM of every Data Mover engine, the
firmware staging buffer, the image slot, the parts of the store that nothing writes, and the banks of the control store
and of the management controller's SRAM. Only high dwords are latched. -/
structure State.Canonical (s : State) : Prop where
  regs : cellsWf resetValue s.regs = true
  rams : ∀ e : DmId, Memory.wf s.dms[e].ram = true
  buf : Memory.wf s.fw.buf = true
  slot : Memory.wf s.store.slot = true
  fixed : Memory.wf s.store.fixed = true
  banks : ∀ b : Fin 2, Memory.wf s.fw.ustore[b] = true ∧ Memory.wf s.fw.sram[b] = true
  latches : ∀ l ∈ s.latches, latchKey l.1 l.2.1 = true

/-- No queue pair, port, Data Mover channel or capture FIFO has two owners (spec/09_slices.md R270). -/
structure State.Exclusive (s : State) : Prop where
  qps : ∀ i j : SliceId, i ≠ j → s.slices[i].qps &&& s.slices[j].qps = 0
  ports : ∀ i j : SliceId, i ≠ j → s.slices[i].ports &&& s.slices[j].ports = 0
  chs : ∀ i j : SliceId, i ≠ j → s.slices[i].chs &&& s.slices[j].chs = 0
  cfs : ∀ i j : SliceId, i ≠ j → s.slices[i].cfs &&& s.slices[j].cfs = 0

/-! ### When a register write takes effect -/

/-- A write of a register that arrives through a source takes effect: the access reaches the registers
(spec/17_bring_up.md R433, spec/12_power_domains.md R336, R344), the control die is not held in reset, the block
is not off (R344), and the source has authority over the register (spec/09_slices.md R277); a
slice window reaches the registers that its slice owns while the slice is ACTIVE (spec/09_slices.md R280, R281). -/
def State.Takes (s : State) (src : Source) (page o : Nat) : Prop :=
  s.reaches src = true ∧ s.held = false ∧ s.blockOff (blockOf page) = false ∧
    match src with
    | .win i => s.slices[i].st = .active ∧ s.ownerPage page = some i ∧ winMay page o = true
    | _ => mayWrite src page o = true

/-- An access goes to a push window (spec/02_queue_pairs_and_doorbells.md R77, spec/09_slices.md R279). -/
def pushAt (src : Source) (ofs : Nat) : Bool :=
  match src with
  | .win _ => decide (0x8000 ≤ ofs)
  | _ => inPush ofs

/-- A bit of a page's CAUSE register is set (spec/15_register_map.md R394). -/
def State.caused (s : State) (page i : Nat) : Prop := s.flag (at_ page 8) i = true

/-- CAUSE bits of a page have set, and no other bit of its CAUSE register has changed. -/
def Causes (s t : State) (page : Nat) (l : List Nat) : Prop :=
  t.reg (at_ page 8) = l.foldl (fun w i => w ||| (1#32 <<< i)) (s.reg (at_ page 8))

/-- Where a command that is a register write goes: its source, page and offset. -/
def target : Instr → Option (Source × Nat × Nat)
  | .devReset src => some (src, 0, 0x014)
  | .aonXtalRequest src _ => some (src, 2, 0x014)
  | .mcClkSelect src _ => some (src, 2, 0x014)
  | .causeSetWrite src page _ => some (src, page.val, 0x010)
  | .sqDbWrite via q _ => some (via, qpPage q, 0x130)
  | .cqDbWrite via q _ => some (via, qpPage q, 0x138)
  | .pushWrite via q _ _ _ => some (via, qpPage q, 0x130)
  | .qpEnable src q _ => some (src, qpPage q, 0x014)
  | .qpDisable src q _ => some (src, qpPage q, 0x014)
  | .eventQSet src q _ => some (src, qpPage q, 0x014)
  | .histClr src => some (src, 0x050, 0x014)
  | .peakClr src => some (src, 0x050, 0x014)
  | .schedCntClr src => some (src, 0x050, 0x014)
  | .pfWisQuotaWrite src _ => some (src, 0x050, 0x104)
  | .ctxFlush src => some (src, 0x060, 0x014)
  | .teCntClr src => some (src, 0x060, 0x014)
  | .poolMinWrite src _ => some (src, 0x070, 0x100)
  | .ebrCntClr src => some (src, 0x070, 0x014)
  | .portDisable src p => some (src, portPage p, 0x014)
  | .portCntClr src p => some (src, portPage p, 0x014)
  | .chgRoleWrite src p _ => some (src, portPage p, 0x10C)
  | .testModeWrite src p _ => some (src, portPage p, 0x110)
  | .sofSrcWrite src p _ => some (src, portPage p, 0x200)
  | .sofRatioWrite src p _ => some (src, portPage p, 0x204)
  | .sofTrimWrite src p _ => some (src, portPage p, 0x208)
  | .refSrcWrite src ratio _ => some (src, 5, if ratio then 0x144 else 0x140)
  | .syncWrite src _ => some (src, 5, 0x15C)
  | .dtimeSet src _ => some (src, 5, 0x10C)
  | .estClr src => some (src, 5, 0x014)
  | .huskOn src n => some (src, huskPage n, 0x014)
  | .huskOff src n => some (src, huskPage n, 0x014)
  | .huskApply src n => some (src, huskPage n, 0x014)
  | .huskCntClr src n => some (src, huskPage n, 0x014)
  | .ilimWrite src n _ => some (src, huskPage n, 0x100)
  | .fastWrite src n _ => some (src, huskPage n, 0x104)
  | .feedSwitchReq src m => some (src, regionPage m, 0x014)
  | .feedWrite src m _ => some (src, regionPage m, 0x100)
  | .regionCntClr src m => some (src, regionPage m, 0x014)
  | .budgetWrite src level _ => some (src, (budgetAt level).1, (budgetAt level).2)
  | .sliceCreate src i => some (src, slicePage i, 0x014)
  | .sliceReset src i => some (src, slicePage i, 0x014)
  | .sliceRemove src i => some (src, slicePage i, 0x014)
  | .sliceQuotaWrite src i which _ => some (src, slicePage i, quotaAt which)
  | .pwrMaskWrite src i high _ => some (src, slicePage i, if high then 0x11C else 0x118)
  | .dmGo src c => some (src, dmchPage c, 0x014)
  | .dmStop src c => some (src, dmchPage c, 0x014)
  | .dmchCntClr src c => some (src, dmchPage c, 0x014)
  | .pramDataAccess src e (some _) => some (src, dmPage e, 0x104)
  | .dmCntClr src e => some (src, dmPage e, 0x014)
  | .cfFlush src k => some (src, cfPage k, 0x014)
  | .cfEnable src k _ => some (src, cfPage k, 0x014)
  | .cfDisable src k _ => some (src, cfPage k, 0x014)
  | .cfCntClr src k => some (src, cfPage k, 0x014)
  | .domainRequest src d _ => some (src, 3, 0x100 + 4 * d.val)
  | .pwrdomCntClr src => some (src, 3, 0x014)
  | .updBegin src _ _ => some (src, 4, 0x100)
  | .updChunk src _ _ => some (src, 4, 0x100)
  | .updVerify src _ => some (src, 4, 0x100)
  | .updActivate src _ => some (src, 4, 0x100)
  | .updConfirm src _ _ => some (src, 4, 0x100)
  | .updAbort src _ => some (src, 4, 0x100)
  | .setWrite src _ _ => some (src, 4, 0x100)
  | .setDelete src _ _ => some (src, 4, 0x100)
  | .setRead src _ => some (src, 4, 0x100)
  | .setFormat src _ _ => some (src, 4, 0x100)
  | .setApply src _ => some (src, 4, 0x100)
  | .fwDataAccess src (some _) => some (src, 4, 0x110)
  | .dataRst src => some (src, 4, 0x014)
  | .globalCntClr src => some (src, 0, 0x014)
  | _ => none

/-- A command completes: it answers a next state, of which something holds. -/
def Answers (c : Instr) (s : State) (P : State → Prop) : Prop := ∃ t : State, exec c s = .next t ∧ P t

/-! ### Items that end, and events -/

/-- The record of an item is its owner's present business: stored under the present generation of an owner that takes
records (spec/09_slices.md R282). -/
def State.Live (s : State) (it : Item) : Prop :=
  it.freshGen = false ∧ it.gen = s.genOf it.owner ∧ s.recordStale it.owner it.gen = false

/-- The completion record an item ends with, under a SEQ (spec/02_queue_pairs_and_doorbells.md R86). -/
def State.recordOf (s : State) (it : Item) (status detail len : Nat) (seq : Word) : BitVec 128 :=
  completionRecord (eTag it.entry) status detail ((it.idx + it.cnt - 1) % s.sqN it.qp) it.qp len seq

/-- NO_CQE_ON_OK suppresses the record of an item that ends OK with all it asked for
(spec/02_queue_pairs_and_doorbells.md R88). -/
def Item.silent (it : Item) (status len : Nat) : Bool :=
  eNoCqe it.entry && status == 0 && len == it.requested && it.op != .fenceMark

/-- The write of a record to a slot of a CQ, at CQ_BASE + 16 × slot (spec/02_queue_pairs_and_doorbells.md R56). -/
def State.cqWrite (s : State) (q : QpId) (slot : Nat) (record : BitVec 128) : PostedKind :=
  .cq q (BitVec.ofNat 64 (s.reg64 (at_ (qpPage q) 0x108) + 16 * slot)) slot record

/-- An item has ended (spec/02_queue_pairs_and_doorbells.md R40, R88, R93): it has left the Work Item Store, and its
record, unless suppressed, has the next SEQ and stands behind the writes `before` on the way to its CQ, or last in the
Park where the CQ is full or parks records already. -/
structure Ended (s t : State) (it : Item) (status detail len : Nat) (before : List Posted) : Prop where
  gone : ∀ x ∈ t.wis, x.id ≠ it.id
  seq : t.seq = if it.silent status len then s.seq else s.seq + 1
  park : t.park =
    if it.silent status len = false ∧ (s.cqFree it.qp = 0 ∨ s.parked it.qp ≠ 0) then
      s.park ++ [{ qp := it.qp, owner := it.owner, gen := it.gen, record := s.recordOf it status detail len (s.seq + 1) }]
    else s.park
  posted : t.posted =
    if it.silent status len = false ∧ ¬ (s.cqFree it.qp = 0 ∨ s.parked it.qp ≠ 0) then
      before ++ [{ kind := s.cqWrite it.qp (s.qps[it.qp].cqTail % s.cqN it.qp)
                     (s.recordOf it status detail len (s.seq + 1)), owner := it.owner, gen := it.gen, noSnoop := false, since := s.now, pasid := s.pasidOf it.owner }]
    else before

/-- A context apart from where it is held: in the cache or, written back, in host memory only
(spec/04_transfer_engines_and_endpoints.md R133). -/
def Ctx.bare (c : Ctx) : Ctx := { c with cached := false, dirty := false }

/-- No packet descriptor of an item is left to be written at its end (spec/04_transfer_engines_and_endpoints.md
R148). -/
def Item.listDone (it : Item) : Prop := it.x.isoReady = true → ∀ p ∈ it.x.iso, p.served = true

/-- An event has happened (spec/02_queue_pairs_and_doorbells.md R89, R91): it waits in its source, or its record has
gone to its owner's event CQ or the Park. The record of a slice that is being removed or has faulted is discarded
(spec/09_slices.md R286, R287). -/
def Raised (s t : State) (page code detail data : Nat) : Prop :=
  (∃ w ∈ t.events, w.page = page ∧ w.code = code ∧ w.detail = detail ∧ w.data = data ∧ w.dtime = s.dtime.setWidth 32) ∨
  ∃ q : QpId, s.eventQ (s.eventOwner page) = some q ∧
    (s.recordStale (s.eventOwner page) (s.genOf (s.eventOwner page)) = true ∨
      ∃ seq : Word,
        let w : Waiting :=
          { page := page, code := code, detail := detail, data := data, count := 1, dtime := s.dtime.setWidth 32 }
        let record := eventRecord w q seq
        (∃ r ∈ t.park, r.qp = q ∧ r.record = record) ∨ ∃ p ∈ t.posted, ∃ n : Nat, p.kind = s.cqWrite q n record)

/-- An item has ended with others, or beside an event: it has left the store, and its record, unless suppressed, is on
the way to its CQ or in the Park (spec/02_queue_pairs_and_doorbells.md R40, R93). -/
structure EndedWith (s t : State) (it : Item) (status detail len : Nat) : Prop where
  gone : ∀ x ∈ t.wis, x.id ≠ it.id
  record : it.silent status len = false → ∃ seq : Word,
    (∃ r ∈ t.park, r.qp = it.qp ∧ r.record = s.recordOf it status detail len seq) ∨
    ∃ p ∈ t.posted, ∃ n : Nat, p.kind = s.cqWrite it.qp n (s.recordOf it status detail len seq)

/-- Every item of a port ends: it has left the store, waits on the retire list, or ends at its transaction boundary
(spec/04_transfer_engines_and_endpoints.md R130). NOP, FENCE_MARK and a PORT_POWER_REQ in SERVICE go on. -/
def PortEnds (t : State) (p : PortId) (keep : Option Nat) : Prop :=
  ∀ x ∈ t.wis, x.port = p.val → x.op.noFlow = true ∨ (x.op = .portPowerReq ∧ x.inService = true) ∨
    some x.id = keep ∨ x.retire.isSome = true ∨ x.ending.isSome = true

/-- What an item was stored with; no command changes it. -/
def Item.stored (it : Item) : Nat × QpId × Option SliceId × BitVec 16 × Entry × List (BitVec 64 × Nat) × Nat × Nat :=
  (it.id, it.qp, it.owner, it.gen, it.entry, it.segs, it.idx, it.cnt)

/-- Entries have been stored as one item behind all others (spec/02_queue_pairs_and_doorbells.md R71, R75,
spec/03_dispatch_scheduler.md R100); one that fails a check goes to the retire list with that status. -/
structure Stored (s t : State) (q : QpId) (pushed : Bool) (e : Entry) (rest : List Entry) : Prop where
  items : t.wis.map Item.stored = s.wis.map Item.stored ++
    [(s.nextId, q, s.ownerQp q, s.genOf (s.ownerQp q), e, rest.map (fun x => (eBuffer x, eLength x)),
      s.qps[q].fetchPtr, rest.length + 1)]
  next : t.nextId = s.nextId + 1
  bad : ∀ r : Nat × Nat,
    entryCheck pushed (fun p => match portId? p with
      | some p => s.ownerPort p == s.ownerQp q
      | none => false) (e :: rest) = some r →
    ∀ x ∈ t.wis, x.id = s.nextId → (∀ y ∈ s.wis, y.id ≠ s.nextId) → x.retire = some r ∧ x.st = .ready

/-- The item with a number is stored, and something holds of it. -/
def State.Has (t : State) (id : Nat) (P : Item → Prop) : Prop := ∃ x ∈ t.wis, x.id = id ∧ P x

/-- Every other item is as it was. -/
def OthersKept (s t : State) (id : Nat) : Prop := ∀ x ∈ s.wis, x.id ≠ id → x ∈ t.wis

/-! ### Resets -/

/-- The control die is in hot reset (spec/01_device_organisation.md R52, R54, R438): every queue, unit and memory of
it is at reset. SEQ, the test port, the level of INT_N and the lines of the ports are as they were, and so is the
store, but for a record that its command had not finished (spec/13_firmware_and_settings.md R371). The power dies keep
their Husks, but for what their requests had on the control die, and their feeds; the frames of the region links
stop. -/
structure InHotReset (s t : State) : Prop where
  held : t.held = true
  seq : t.seq = s.seq
  store : t.store = s.tornStore
  tap : t.tap = s.tap
  intN : t.att.intN = s.att.intN
  messages : t.att.msgs = [] ∧ t.att.cond = 0 ∧ t.att.pend = 0 ∧ t.posted = [] ∧ t.reads = [] ∧ t.latches = []
  items : t.wis = [] ∧ t.park = [] ∧ t.events = [] ∧ t.ctxs = [] ∧ t.closed = [] ∧ t.flushing = false ∧ t.late = []
  time : t.dtime = 0 ∧ t.dphase = 0 ∧ t.refClk = Clk.init
  qps : ∀ q : QpId, t.qps[q] = Qp.init
  engs : ∀ e : EngId, t.engs[e] = EngStat.init
  ports : ∀ p : PortId, t.ports[p] = { Port.init with line := s.ports[p].line }
  clks : ∀ p : PortId, t.clks[p] = Clk.init
  slices : ∀ i : SliceId, t.slices[i] = Slice.init
  dmchs : ∀ c : ChId, t.dmchs[c] = Dmch.init
  dms : ∀ e : DmId, t.dms[e].ram = [] ∧ t.dms[e].part = 0
  cfs : ∀ k : CfId, t.cfs[k] = Cf.init
  doms : ∀ d : DomId, t.doms[d] = Dom.init (decide (d.val < 8))
  fw : t.fw = Fw.init
  link : t.pci = { Pci.init with
    aerInternal := s.pci.aerInternal, aerMasked := s.pci.aerMasked, aerSevere := s.pci.aerSevere }
  fatal : t.fatal = false ∧ t.ctl.fatalReset = true
  clock : t.ctl.pllLock = false ∧ t.ctl.onXtal = false ∧ t.ctl.qual = false
  husks : ∀ n : PortId, t.husks[n] =
    { s.husks[n] with
      wait := [], curvePend := false, pendOwn := s.husks[n].pendOwn || s.husks[n].pendItem, pendItem := false }
  feeds : ∀ m : RegId, t.regions[m].linkUp = false ∧ t.regions[m].sel = s.regions[m].sel ∧
    t.regions[m].closed = s.regions[m].closed ∧ t.regions[m].running = s.regions[m].running ∧
    t.regions[m].aGood = s.regions[m].aGood ∧ t.regions[m].bGood = s.regions[m].bGood ∧
    t.regions[m].switching = s.regions[m].switching

/-- Bit i of a register belongs to a field that survives a hot reset: RWS, or kept as FATAL_INFO and PLL_LOCKS are
(spec/15_register_map.md R396, R398). -/
def survives (page o i : Nat) : Bool :=
  (fieldsAt page o).any (fun f =>
    (match f.acc with
     | .rws => true
     | .keep => true
     | _ => false) && decide (f.lo ≤ i) && decide (i < f.lo + f.len))

/-- What a hot reset leaves of the registers (spec/15_register_map.md R396, R398). On the pages that the control die
holds: the fields that survive, and the CAUSE bits FATAL and PLL_LOST; all else is at its Reset value. On the HUSK,
REGION and POD pages: what the power dies hold or measure, while CAUSE, CAUSE_EN, SEQ_LAST and the pending curve are
at their Reset values. -/
structure RegsHotReset (s t : State) : Prop where
  plain : ∀ o i : Nat, ofDie o = false → o ≠ 0x008 → o ≠ 0x2008 → i < 32 →
    (t.reg o).getLsbD i = if survives (o / 4096) (o % 4096) i then (s.reg o).getLsbD i else (resetValue o).getLsbD i
  fatal : t.reg 0x008 = s.reg 0x008 &&& 0x100
  pll : t.reg 0x2008 = s.reg 0x2008 &&& 0x010
  die : ∀ o : Nat, ofDie o = true → o % 4096 ∉ [0x008, 0x00C, 0x01C] →
    ¬ (blockOf (o / 4096) = .husk ∧ 0x120 ≤ o % 4096 ∧ o % 4096 < 0x140) → t.reg o = s.reg o
  dieReset : ∀ o : Nat, ofDie o = true →
    (o % 4096 ∈ [0x008, 0x00C, 0x01C] ∨ (blockOf (o / 4096) = .husk ∧ 0x120 ≤ o % 4096 ∧ o % 4096 < 0x140)) →
    t.reg o = resetValue o

/-! ### Frames -/

/-- The parts of the state that a frame speaks of: every field of State but attention, which follows the causes after
every command (spec/14_attention_and_errors.md R374-R376) and has statements of its own. The causes that happenings
have set in the present cycle go with the registers that hold them. -/
inductive Part where
  | pending
  | now
  | nextId
  | ordinal
  | free
  | regs
  | seq
  | dtime
  | dphase
  | qps
  | wis
  | park
  | events
  | visitPtr
  | perPtr
  | rrPtr
  | wisPeak
  | flowPeak
  | pfPeak
  | poolPeak
  | poolWaits
  | engs
  | ctxs
  | closed
  | flushing
  | ports
  | clks
  | refClk
  | husks
  | regions
  | gaps
  | overRuns
  | slices
  | dmchs
  | dms
  | cfs
  | doms
  | store
  | fw
  | ctl
  | pci
  | tap
  | posted
  | reads
  | late
  | latches
  | rd
  deriving DecidableEq, Repr

/-- A slice as it was; or, where its reset was running, ACTIVE again with the cause that says so, as it becomes once it
has drained and its last item has committed (spec/09_slices.md R284). -/
def SliceKept (x y : Slice) : Prop :=
  y = x ∨ (x.st = .resetting ∧ y = { x with st := .active, winCause := x.winCause ||| 8 })

/-- A part of the state is the same before and after. -/
def Part.Same (p : Part) (s t : State) : Prop :=
  match p with
  | .pending => t.pending = s.pending
  | .now => t.now = s.now
  | .nextId => t.nextId = s.nextId
  | .ordinal => t.ordinal = s.ordinal
  | .free => t.free = s.free
  | .regs => t.regs = s.regs ∧ ∀ c ∈ t.causesNow, c ∈ s.causesNow ∨ 512 ≤ c.1
  | .seq => t.seq = s.seq
  | .dtime => t.dtime = s.dtime
  | .dphase => t.dphase = s.dphase
  | .qps => t.qps = s.qps
  | .wis => t.wis = s.wis
  | .park => t.park = s.park
  | .events => t.events = s.events
  | .visitPtr => t.visitPtr = s.visitPtr
  | .perPtr => t.perPtr = s.perPtr
  | .rrPtr => t.rrPtr = s.rrPtr
  | .wisPeak => t.wisPeak = s.wisPeak
  | .flowPeak => t.flowPeak = s.flowPeak
  | .pfPeak => t.pfPeak = s.pfPeak
  | .poolPeak => t.poolPeak = s.poolPeak
  | .poolWaits => t.poolWaits = s.poolWaits
  | .engs => t.engs = s.engs
  | .ctxs => t.ctxs = s.ctxs
  | .closed => t.closed = s.closed
  | .flushing => t.flushing = s.flushing
  | .ports => t.ports = s.ports
  | .clks => t.clks = s.clks
  | .refClk => t.refClk = s.refClk
  | .husks => t.husks = s.husks
  | .regions => t.regions = s.regions
  | .gaps => t.gaps = s.gaps
  | .overRuns => t.overRuns = s.overRuns
  | .slices => ∀ i : SliceId, SliceKept s.slices[i] t.slices[i]
  | .dmchs => t.dmchs = s.dmchs
  | .dms => t.dms = s.dms
  | .cfs => t.cfs = s.cfs
  | .doms => t.doms = s.doms
  | .store => t.store = s.store
  | .fw => t.fw = s.fw
  | .ctl => t.ctl = s.ctl
  | .pci => t.pci = s.pci
  | .tap => t.tap = s.tap
  | .posted => t.posted = s.posted
  | .reads => t.reads = s.reads
  | .late => t.late = s.late
  | .latches => t.latches = s.latches
  | .rd => t.rd = s.rd

/-- Nothing changes but the parts listed. -/
def Only (l : List Part) (s t : State) : Prop := ∀ p : Part, p ∉ l → p.Same s t

/-- No stored register changes but those at the offsets listed. -/
def RegsBut (l : List Nat) (s t : State) : Prop := ∀ o : Nat, o ∉ l → t.reg o = s.reg o

/-- No stored register changes but those on pages of the blocks listed. -/
def RegsOf (l : List Block) (s t : State) : Prop := ∀ o : Nat, blockOf (o / 4096) ∉ l → t.reg o = s.reg o

/-- No member of a group changes but one. -/
def AllBut {α : Type} {n : Nat} (i : Fin n) (v w : Vector α n) : Prop := ∀ j : Fin n, j ≠ i → w[j] = v[j]

/-- The number by which an event names a frame clock (spec/06_frame_timing.md R216). -/
def clkNumber : ClkId → Nat
  | .port p => p.val
  | .ref => 0xFF

/-! ### Power dies -/

/-- A power die's report reaches the control die at once (spec/01_device_organisation.md R20, R21). -/
def State.Told (s : State) (m : RegId) : Prop :=
  s.regions[m].linkUp = true ∧ s.regions[m].lost = false ∧ s.held = false ∧ s.ctl.pllLock = true

/-- A Husk has tripped for a reason (spec/07_husk_power_path.md R236-R238, R242): the FET is off and the channel waits
for a retry, or is LATCHED where none is left; the claim stays. -/
structure Tripped (s t : State) (n : PortId) (reason : Nat) : Prop where
  st : t.husks[n].st = if s.husks[n].retriesLeft = 0 ∧ s.unlimited n = false then .latched else .retryWait
  last : t.husks[n].lastTrip = reason
  dark : t.husks[n].pgn = false ∧ t.husks[n].claim = s.husks[n].claim ∧
    t.husks[n].retriesLeft = s.husks[n].retriesLeft ∧ t.husks[n].curve = s.husks[n].curve
  others : AllBut n s.husks t.husks
  told : s.Told (regionOf n) → Causes s t (huskPage n) (if t.husks[n].st = .latched then [4, 6] else [4]) ∧
    t.fld (at_ (huskPage n) 0x14C) 0 16 = min (s.fld (at_ (huskPage n) 0x14C) 0 16 + 1) 65535 ∧
    t.reg (at_ (huskPage n) 0x150) = s.dtime.setWidth 32 ∧
    t.ports[n].pgood = false ∧ t.ports[n].st = .powerOff ∧ Raised s t (portPage n) 5 0 reason ∧
    (t.husks[n].st = .latched → Raised s t (huskPage n) 2 0 reason)
  later : ¬ s.Told (regionOf n) →
    t.regions[regionOf n].reports = s.regions[regionOf n].reports ++ [.trip n reason (t.husks[n].st == .latched)] ∧
    t.regs = s.regs ∧ t.ports = s.ports

/-- A level has shed (spec/08_regions_feeds_budgets.md R261, R262, R264): of the channels it may shed one of the
lowest priority, of those the highest port; it goes OFF with reason 1. Where that channel trips in this very cycle, or
none drives, nothing is shed. -/
def ShedFrom (s t : State) (l : ShedLevel) : Prop :=
  (s.shedPorts l = [] → t.husks = s.husks) ∧
  ∀ n ∈ s.shedPorts l,
    (∀ x ∈ s.shedPorts l, s.shedPrio n < s.shedPrio x ∨ (s.shedPrio n = s.shedPrio x ∧ x.val ≤ n.val)) →
    (s.husks[n].driven = false → t.husks = s.husks) ∧
    (s.husks[n].driven = true → t.husks[n].st = .off ∧ t.husks[n].claim = false ∧ t.husks[n].offReason = 1 ∧
      AllBut n s.husks t.husks)

/-! ### Runs and commands -/

/-- A Data Mover channel has halted with a RESULT and a DETAIL, and its cause is set (spec/10_data_mover.md R292,
R307). -/
structure Halts (s t : State) (c : ChId) (result detail : Nat) : Prop where
  st : t.dmchs[c].st = .halted ∧ t.dmchs[c].result = result ∧ t.dmchs[c].detail = detail
  cause : Causes s t (dmchPage c) [3]
  others : AllBut c s.dmchs t.dmchs

/-- A firmware command has been taken and will end with a result (spec/13_firmware_and_settings.md R356). -/
def CmdTaken (t : State) (op : Nat) (tag : BitVec 16) (result : Nat) : Prop :=
  t.fw.cmd = some (tag.toNat, some result) ∧ t.reg (at_ 4 0x100) = BitVec.ofNat 32 (op + tag.toNat * 2 ^ 16)

end Sys2Proof.Machine
end

