-- ==== Sys2Proof/Certificates/Slice0/Obligations.lean ====
section
/-!
DEFINITION. The statements for the provers: what the rules of spec/ say the block does, over every state and operand.
`Answers`, `Takes`, `Only`, `RegsBut`, `RegsOf`, `AllBut`, `Ended` and `Raised` are defined in Safety.lean.
-/

open Sys2Proof Sys2Proof.Machine

/-- For every command and state: a step of a state with the command at the front of its queue is exec of the command
on the state with the rest of the queue. (spec/95_what_each_step_holds.md) -/
def Obligations.StepRunsTheFrontCommand : Prop :=
  ∀ (c : Instr) (rest : List Instr) (s : State), s.pending = c :: rest → step s = exec c { s with pending := rest }

/-- On an empty queue a step answers a next state in which one bit time has passed and no command waits. DTIME
advances by 2 ns, by 3 ns in the twelfth cycle of its pattern, where the control die is not held, TIME is ON and the
root PLL is locked; it stands still while the control die is held. Where Acorn has started, one posted write leaves
while the link takes it, and one read request that no write issued before it holds back; in FATAL, or while the link
takes nothing, none. That a tick stands for an idle step is the model's choice (log entries 2 and 5).
(spec/06_frame_timing.md R210, spec/01_device_organisation.md R29, spec/14_attention_and_errors.md R387,
spec/10_data_mover.md R309, spec/95_what_each_step_holds.md) -/
def Obligations.EmptyQueueTicks : Prop :=
  ∀ s : State, s.pending = [] → ∃ t : State, step s = .next t ∧ t.now = s.now + 1 ∧ t.pending = [] ∧
    (s.held = true → t.dtime = s.dtime ∧ t.dphase = s.dphase) ∧
    (s.held = false → s.doms[domTIME].st = .on → s.ctl.pllLock = true →
      t.dtime = s.dtime + (if s.dphase = 11 then 3 else 2) ∧ t.dphase = (s.dphase + 1) % 12) ∧
    (s.fw.served = true → t.posted = (if s.linkSends && !s.fatal then s.posted.drop 1 else s.posted) ∧
      t.reads = if s.linkSends && !s.fatal && s.readGoes then s.reads.drop 1 else s.reads)

/-- After power-on reset every register reads the Reset value of its fields, SEQ and DTIME are 0, domains AON to CAP
are ON and the Pods OFF, no queue pair holds anything, the Work Item Store and the Park are empty, no context is open,
every port is in POWER_OFF, every Husk OFF without a claim, every slice NONE, every Data Mover channel IDLE, every
capture FIFO disabled and empty, no FATAL is in force and no command waits. Both invariants of the model hold of it:
its sparse memories are in canonical form, and no resource has two owners. (spec/01_device_organisation.md R53,
spec/01_device_organisation.md R52, spec/00_scope.md R16) -/
def Obligations.ResetState : Prop :=
  (∀ o : Nat, State.reset.reg o = resetValue o) ∧ State.reset.seq = 0 ∧ State.reset.dtime = 0 ∧
    (∀ d : DomId, State.reset.doms[d].st = if d.val < 8 then .on else .off) ∧
    (∀ q : QpId, State.reset.qps[q] = Qp.init ∧ State.reset.qpEn q = false) ∧
    State.reset.wis = [] ∧ State.reset.park = [] ∧ State.reset.ctxs = [] ∧ State.reset.events = [] ∧
    State.reset.posted = [] ∧ State.reset.reads = [] ∧
    (∀ p : PortId, State.reset.ports[p].st = .powerOff ∧ State.reset.husks[p].st = .off ∧
      State.reset.husks[p].claim = false ∧ State.reset.clks[p].ls = .free) ∧
    (∀ i : SliceId, State.reset.slices[i].st = .none) ∧ (∀ ch : ChId, State.reset.dmchs[ch].st = .idle) ∧
    (∀ k : CfId, State.reset.cfs[k].en = false ∧ State.reset.cfs[k].words = []) ∧
    State.reset.fatal = false ∧ State.reset.att.intN = false ∧ State.reset.pending = [] ∧
    State.reset.Canonical ∧ State.reset.Exclusive

/-- For every state whose registers, program RAMs, staging buffer and image slot are in canonical form and whose
latches are of high dwords only: if a step answers a next state, that state is so too. (spec/01_device_organisation.md
R54, spec/15_register_map.md R398, spec/15_register_map.md R397, spec/95_what_each_step_holds.md) -/
def Obligations.StepKeepsCanonicalForm : Prop :=
  ∀ s t : State, s.Canonical → step s = .next t → t.Canonical

/-- For every state in which no queue pair, port, Data Mover channel or capture FIFO is owned by two slices: if a step
answers a next state, none is owned by two slices there. (spec/09_slices.md R270, spec/09_slices.md R273,
spec/09_slices.md R286) -/
def Obligations.StepKeepsOwnersExclusive : Prop :=
  ∀ s t : State, s.Exclusive → step s = .next t → t.Exclusive

/-- For every command and state, exec answers a next state; the commands that wait and the count of bit times are the
same after it. (spec/95_what_each_step_holds.md) -/
def Obligations.EveryCommandAnswers : Prop :=
  ∀ (c : Instr) (s : State), Answers c s fun t => t.pending = s.pending ∧ t.now = s.now

/-- After every command that leaves the control die out of reset, INT_N is asserted exactly while the device-wide
summary, FATAL included, is non-zero; the condition of a slice's vector holds exactly while the slice exists and its
ATTN_SUM is non-zero; and the legacy interrupt line is asserted exactly while INT_N is and MSI-X is disabled. A
command that leaves the control die held leaves attention as it was, INT_N, the vector conditions and the INTx line
among it, where it was held before; a reset that begins leaves the level of INT_N and clears the rest, and power-on
reset clears all. (spec/14_attention_and_errors.md R374, spec/14_attention_and_errors.md R375,
spec/14_attention_and_errors.md R376, spec/01_device_organisation.md R54) -/
def Obligations.AttentionFollowsTheCauses : Prop :=
  ∀ (c : Instr) (s t : State), exec c s = .next t →
    (t.held = false →
      t.att.intN = t.devSum ∧ t.att.cond.getLsbD 0 = t.devSum ∧
      (∀ i : SliceId, t.att.cond.getLsbD (i.val + 1) = (decide (t.slices[i].st ≠ .none) && decide (t.attnSum i ≠ 0))) ∧
      t.att.intx = (t.devSum && !t.pci.msixEn)) ∧
    (t.held = true → (∀ x : Straps, c ≠ .powerOnReset x) →
      t.att = { Att.init with intN := s.att.intN } ∨ (s.held = true ∧ t.att = s.att)) ∧
    (t.held = true → ∀ x : Straps, c = .powerOnReset x → t.att = Att.init)

/-- For every command that is a register write: while the control die is held, or where the source does not reach the
registers (over PCIe before configuration is accepted, in L2 or with HOST not ON; over SMBus and from the management
controller with MC not ON), it changes nothing; on a block that is off it is dropped, and the first such access since
GLOBAL.CAUSE.ACC_OFF was cleared sets that cause and is recorded in PWRDOM.ACC_OFF_PAGE; a push of a size or alignment
that push windows refuse is dropped there as an access of wrong size, which GLOBAL.CAUSE.ACC_SIZE and ACC_SIZE_INFO
show, and is no access to an off block; from a source without authority over the register, a slice window apart, a
write changes nothing. A resetting slice that has drained goes on meanwhile. (spec/09_slices.md R277,
spec/12_power_domains.md R344, spec/12_power_domains.md R348, spec/17_bring_up.md R433, spec/12_power_domains.md R336,
spec/00_scope.md R14, spec/00_scope.md R15, spec/02_queue_pairs_and_doorbells.md R77) -/
def Obligations.RegisterWriteGate : Prop :=
  ∀ (c : Instr) (src : Source) (page o : Nat) (s : State), target c = some (src, page, o) →
    (s.held = true ∨ s.reaches src = false → Answers c s fun t => Only [] s t) ∧
    (s.reaches src = true → s.held = false → s.blockOff (blockOf page) = true →
      (∀ (via : Source) (q : QpId) (ofs size : Nat) (d : BitVec 512), c = .pushWrite via q ofs size d →
        pushSizeOk ofs size = true) →
      Answers c s fun t =>
      Only [.regs, .ctl] s t ∧ RegsBut [at_ 0 8, at_ 3 0x288] s t ∧ t.ctl = { s.ctl with accOffSeen := true } ∧
      (s.ctl.accOffSeen = true → t.regs = s.regs) ∧
      (s.Canonical → s.ctl.accOffSeen = false →
        Causes s t 0 [2] ∧ t.reg (at_ 3 0x288) = BitVec.ofNat 32 (page % 1024 + srcCode src * 2 ^ 12))) ∧
    (∀ (via : Source) (q : QpId) (ofs size : Nat) (d : BitVec 512), c = .pushWrite via q ofs size d →
      s.reaches src = true → s.held = false → s.blockOff (blockOf page) = true → pushSizeOk ofs size = false →
      Answers c s fun t =>
      Only [.regs, .ctl] s t ∧ RegsBut [at_ 0 8, at_ 0 0x12C] s t ∧ t.ctl = { s.ctl with accSizeSeen := true } ∧
      (s.ctl.accSizeSeen = true → t.regs = s.regs) ∧
      (s.Canonical → s.ctl.accSizeSeen = false → Causes s t 0 [1] ∧ t.fld (at_ 0 0x12C) 24 5 = 16 + min size 15)) ∧
    (s.held = false → s.blockOff (blockOf page) = false → (∀ i : SliceId, src ≠ .win i) →
      mayWrite src page o = false → Answers c s fun t => Only [] s t)

/-- For every command that is a register write through a slice window, while the control die runs and the block is on:
where the slice does not own the unit, WIN_CAUSE.DENIED and SLICE.CAUSE.DENIED are set; where the slice is not ACTIVE,
WIN_CAUSE.NOT_ACTIVE is set, but for PORT.CAUSE; where both hold, all of these; nothing else changes. The window of a
slice that does not exist changes nothing. (spec/09_slices.md R281, spec/09_slices.md R279) -/
def Obligations.WindowRefusesWhatASliceDoesNotOwn : Prop :=
  ∀ (c : Instr) (i : SliceId) (page o : Nat) (s : State), target c = some (.win i, page, o) →
    s.reaches (.win i) = true → s.held = false → s.blockOff (blockOf page) = false →
    (s.slices[i].st = .none → Answers c s fun t => Only [] s t) ∧
    let denied := s.ownerPage page ≠ some i
    let inactive := s.slices[i].st ≠ .active ∧ ¬ (blockOf page = .port ∧ o = 0x008)
    (s.slices[i].st ≠ .none → denied ∨ inactive → Answers c s fun t =>
      Only [.regs, .slices] s t ∧ RegsBut [at_ (slicePage i) 8] s t ∧ (¬ denied → t.regs = s.regs) ∧
      (denied → s.Canonical → Causes s t (slicePage i) [6]) ∧
        (∀ j : SliceId, j ≠ i → SliceKept s.slices[j] t.slices[j]) ∧
      SliceKept { s.slices[i] with
        winCause := s.slices[i].winCause ||| (if denied then 1 else 0) ||| (if inactive then 2 else 0) } t.slices[i])

/-- A write through BAR0 or by the management controller of wrong size or alignment is dropped; the first one since
GLOBAL.CAUSE.ACC_SIZE was cleared sets that cause and is recorded in ACC_SIZE_INFO, its offset, source, size and
direction. A 32-bit write that takes effect: to CAUSE it clears the bits written 1, but those set in the same cycle,
and FATAL until a hot reset has run; to CAUSE_EN it takes the bits the page defines; to INTSUM_EN, FW.ARG0 and a
Husk's PLIM, 5 to 50, it sets the field, and an illegal PLIM is refused with the page's CFG_BAD only. No other
register and nothing else changes. (spec/00_scope.md R14, spec/00_scope.md R13, spec/00_scope.md R11,
spec/15_register_map.md R394, spec/09_slices.md R277, spec/15_register_map.md R402, spec/13_firmware_and_settings.md
R373, spec/07_husk_power_path.md R247, spec/14_attention_and_errors.md R388, spec/14_attention_and_errors.md R379) -/
def Obligations.MmioWriteRules : Prop :=
  (∀ (src : Source) (ofs size : Nat) (v : BitVec 64) (pe : Bool) (s : State), (∀ i : SliceId, src ≠ .win i) →
    s.held = false → inPush ofs = false → sizeOk ofs size = false →
    Answers (.mmioWrite src ofs size v pe) s fun t =>
      Only [.regs, .ctl] s t ∧ RegsBut [at_ 0 8, at_ 0 0x12C] s t ∧
      (s.reaches src = true → t.ctl = { s.ctl with accSizeSeen := true }) ∧
        (s.ctl.accSizeSeen = true → t.regs = s.regs) ∧
      (s.reaches src = false → t.regs = s.regs ∧ t.ctl = s.ctl) ∧
      (s.Canonical → s.reaches src = true → s.ctl.accSizeSeen = false → Causes s t 0 [1] ∧
        t.reg (at_ 0 0x12C) =
          BitVec.ofNat 32 (ofs % 2 ^ 21 + srcCode src * 2 ^ 22 + min size 15 * 2 ^ 24 + 2 ^ 28))) ∧
  (∀ (src : Source) (page : Nat) (v : BitVec 64) (s : State), (∀ i : SliceId, src ≠ .win i) → s.Canonical →
    s.Takes src page 8 →
    Answers (.mmioWrite src (at_ page 8) 4 v false) s fun t =>
      Only [.regs, .ctl] s t ∧ RegsBut [at_ page 8] s t ∧
      t.reg (at_ page 8) = s.reg (at_ page 8) &&& ~~~(v.setWidth 32 &&& causeMask page &&& ~~~(s.causedNow page) &&&
        (if page = 0 ∧ s.ctl.fatalReset = false then ~~~0x100#32 else BitVec.allOnes 32)) ∧
      (page ≠ 0 → t.ctl = s.ctl) ∧
      (page = 0 → t.ctl = { s.ctl with
        accSizeSeen := s.ctl.accSizeSeen && !((v.setWidth 32 &&& ~~~(s.causedNow 0)).getLsbD 1)
        accOffSeen := s.ctl.accOffSeen && !((v.setWidth 32 &&& ~~~(s.causedNow 0)).getLsbD 2) })) ∧
  (∀ (src : Source) (page : Nat) (v : BitVec 64) (s : State), (∀ i : SliceId, src ≠ .win i) → s.Canonical →
    s.Takes src page 0xC → blockOf page ≠ .absent →
    Answers (.mmioWrite src (at_ page 0xC) 4 v false) s fun t =>
      Only [.regs] s t ∧ RegsBut [at_ page 0xC] s t ∧ t.reg (at_ page 0xC) = v.setWidth 32 &&& causeMask page) ∧
  (∀ (src : Source) (v : BitVec 64) (s : State), (∀ i : SliceId, src ≠ .win i) → s.Canonical → s.Takes src 0 0x110 →
    Answers (.mmioWrite src (at_ 0 0x110) 4 v false) s fun t =>
      Only [.regs] s t ∧ RegsBut [at_ 0 0x110] s t ∧ t.fld (at_ 0 0x110) 0 18 = bits v.toNat 0 18) ∧
  (∀ (src : Source) (v : BitVec 64) (s : State), (∀ i : SliceId, src ≠ .win i) → s.Canonical → s.Takes src 4 0x104 →
    Answers (.mmioWrite src (at_ 4 0x104) 4 v false) s fun t =>
      Only [.regs] s t ∧ RegsBut [at_ 4 0x104] s t ∧ t.reg (at_ 4 0x104) = v.setWidth 32) ∧
  (∀ (src : Source) (n : PortId) (v : BitVec 64) (s : State), (∀ i : SliceId, src ≠ .win i) → s.Canonical →
    s.Takes src (huskPage n) 0x108 → s.linkDown (regionOf n) = false →
    Answers (.mmioWrite src (at_ (huskPage n) 0x108) 4 v false) s fun t =>
      Only [.regs] s t ∧
      (5 ≤ bits v.toNat 0 6 ∧ bits v.toNat 0 6 ≤ 50 →
        RegsBut [at_ (huskPage n) 0x108] s t ∧ t.fld (at_ (huskPage n) 0x108) 0 6 = bits v.toNat 0 6) ∧
      (¬ (5 ≤ bits v.toNat 0 6 ∧ bits v.toNat 0 6 ≤ 50) →
        RegsBut [at_ (huskPage n) 8] s t ∧ Causes s t (huskPage n) [0]))

/-- While the access reaches the registers, the control die runs, the slice control block is on and the slice exists:
a write of the window's CAUSE clears the bits written 1 in WIN_CAUSE that were not set in the same cycle, and nothing
else; of CAUSE_EN it sets WIN_CAUSE_EN; of DEV_TABLE, where the slice is ACTIVE, it sets the low dword of the slice's
DEV_TABLE, or is refused with WIN_CAUSE.CFG_BUSY while a context of the slice is open. Nothing else changes. A write
of a queue pair's CAUSE_EN through the window of an ACTIVE slice that owns it sets it. (spec/09_slices.md R281,
spec/09_slices.md R280, spec/09_slices.md R279) -/
def Obligations.WindowWriteRules : Prop :=
  (∀ (i : SliceId) (v : BitVec 64) (s : State), s.reaches (.win i) = true → s.held = false → s.blockOff .slice = false →
    s.slices[i].st ≠ .none →
    (Answers (.windowWrite i 0x008 4 v) s fun t => Only [.slices] s t ∧
      (∀ j : SliceId, j ≠ i → SliceKept s.slices[j] t.slices[j]) ∧
      SliceKept { s.slices[i] with
          winCause := s.slices[i].winCause &&& ~~~(v.setWidth 32 &&& ~~~(s.causedNow (winCausePage i))) } t.slices[i]) ∧
    (Answers (.windowWrite i 0x00C 4 v) s fun t => Only [.slices] s t ∧
      (∀ j : SliceId, j ≠ i → SliceKept s.slices[j] t.slices[j]) ∧
      SliceKept { s.slices[i] with winEn := v.setWidth 32 &&& 0x1F } t.slices[i]) ∧
    (s.slices[i].st = .active → s.Canonical → (∀ x ∈ s.ctxs, x.owner ≠ some i) →
      Answers (.windowWrite i 0x040 4 v) s fun t => Only [.regs] s t ∧ RegsBut [at_ (slicePage i) 0x140] s t ∧
        t.fld (at_ (slicePage i) 0x140) 12 20 = bits v.toNat 12 20) ∧
    (s.slices[i].st = .active → (∃ x ∈ s.ctxs, x.owner = some i) →
      Answers (.windowWrite i 0x040 4 v) s fun t => Only [.slices] s t ∧
        (∀ j : SliceId, j ≠ i → SliceKept s.slices[j] t.slices[j]) ∧
        t.slices[i] = { s.slices[i] with winCause := s.slices[i].winCause ||| 4 })) ∧
  (∀ (i : SliceId) (q : QpId) (v : BitVec 64) (s : State), s.Takes (.win i) (qpPage q) 0xC → s.Canonical →
    Answers (.windowWrite i (0x200C + 0x100 * q.val) 4 v) s fun t => Only [.regs] s t ∧
      RegsBut [at_ (qpPage q) 0xC] s t ∧ t.reg (at_ (qpPage q) 0xC) = v.setWidth 32 &&& causeMask (qpPage q))

/-- A 32-bit read of any register of an unassigned page, PAGE_ID included, returns 0, and a write of it, wherever it
comes from, changes nothing and sets no cause. PAGE_ID reads 0 exactly on the unassigned pages, no block type is
0x0FF0, and no PAGE_ID is 0x0FF0_0FF0, the value an off block reads. (spec/15_register_map.md R393) -/
def Obligations.UnassignedPages : Prop :=
  (∀ (src : Source) (page o : Nat) (s : State), (∀ i : SliceId, src ≠ .win i) → blockOf page = .absent → o % 4 = 0 →
    o < 4096 → s.reaches src = true → s.held = false → s.Canonical →
    (Answers (.lowDwordLatch src (at_ page o) 4 false) s fun t => t.rd = .words [0] ∧ Only [.rd] s t) ∧
    ∀ v : BitVec 64, Answers (.mmioWrite src (at_ page o) 4 v false) s fun t => Only [] s t) ∧
  (∀ page : Nat, page < 512 → (pageId page = 0 ↔ blockOf page = .absent)) ∧
  (∀ page : Nat, page < 512 → blockOf page ≠ .absent → (pageId page).setWidth 16 ≠ 0x0FF0#16) ∧
  ∀ page : Nat, page < 512 → pageId page ≠ 0x0FF00FF0#32

/-- A parity error on a register access of good size drops a write and answers a read with a poisoned payload, which
over SMBus is a PEC error; either sets GLOBAL.CAUSE.PARITY, adds one to GLOBAL.PARITY_COUNT, which saturates, and
changes nothing else; over SMBus the transaction ends and SCL is released as ever. In an SMBus block of two dwords
whose first access has the error, the second is written all the same. (spec/14_attention_and_errors.md R386) -/
def Obligations.ParityErrors : Prop :=
  (∀ (src : Source) (ofs size : Nat) (v : BitVec 64) (s : State), s.reaches src = true → s.held = false → s.Canonical →
    sizeOk ofs size = true → pushAt src ofs = false →
    (Answers (.mmioWrite src ofs size v true) s fun t => Only [.regs] s t ∧ RegsBut [at_ 0 8, at_ 0 0x120] s t ∧
      Causes s t 0 [5] ∧ t.fld (at_ 0 0x120) 0 32 = min (s.fld (at_ 0 0x120) 0 32 + 1) (2 ^ 32 - 1))) ∧
  (∀ (src : Source) (ofs size : Nat) (s : State), s.reaches src = true → s.held = false → s.Canonical →
    sizeOk ofs size = true → pushAt src ofs = false →
    (Answers (.lowDwordLatch src ofs size true) s fun t => Only [.regs, .rd] s t ∧ t.rd = .poisoned ∧
      RegsBut [at_ 0 8, at_ 0 0x120] s t ∧ Causes s t 0 [5] ∧
      t.fld (at_ 0 0x120) 0 32 = min (s.fld (at_ 0 0x120) 0 32 + 1) (2 ^ 32 - 1))) ∧
  (∀ (pec : Bool) (ofs v : Word) (s : State), s.mcRuns = true → s.fw.served = true → s.Canonical → ofs.toNat < 2 ^ 21 →
    ofs.toNat % 4 = 0 →
    (Answers (.writeAt ⟨s.smbAddr, 1, 8, pec⟩ ofs [v] false 1) s fun t => Only [.regs, .ctl] s t ∧
      RegsBut [at_ 0 8, at_ 0 0x120] s t ∧ t.ctl = { s.ctl with sclHeld := false, smbTxn := false } ∧
      Causes s t 0 [5] ∧ t.fld (at_ 0 0x120) 0 32 = min (s.fld (at_ 0 0x120) 0 32 + 1) (2 ^ 32 - 1)) ∧
    (Answers (.readAt ⟨s.smbAddr, 2, 5, pec⟩ ofs 1 1) s fun t => Only [.regs, .ctl, .rd, .free] s t ∧
      (∃ w : Word, t.rd = .smb [w] (if pec then .bad else .absent)) ∧
      t.ctl = { s.ctl with sclHeld := false, smbTxn := false } ∧
      RegsBut [at_ 0 8, at_ 0 0x120] s t ∧ Causes s t 0 [5] ∧
      t.fld (at_ 0 0x120) 0 32 = min (s.fld (at_ 0 0x120) 0 32 + 1) (2 ^ 32 - 1))) ∧
  ∀ (page : Nat) (pec : Bool) (v w : Word) (s : State),
    s.mcRuns = true → s.fw.served = true → s.Canonical → page < 512 →
    blockOf page ≠ .absent → s.Takes .smbus page 0xC →
    Answers (.writeAt ⟨s.smbAddr, 1, 12, pec⟩ (BitVec.ofNat 32 (at_ page 8)) [v, w] false 1) s fun t =>
      Only [.regs, .ctl] s t ∧ RegsBut [at_ 0 8, at_ 0 0x120, at_ page 0xC] s t ∧ Causes s t 0 [5] ∧
      t.ctl = { s.ctl with sclHeld := false, smbTxn := false } ∧
      t.reg (at_ page 0xC) = w &&& causeMask page ∧
      t.fld (at_ 0 0x120) 0 32 = min (s.fld (at_ 0 0x120) 0 32 + 1) (2 ^ 32 - 1)

/-- A read of GLOBAL.FENCE, and of the fence register of a window whose slice exists, returns the SEQ of the most
recently committed record and changes nothing. (spec/01_device_organisation.md R46) -/
def Obligations.FenceReads : Prop :=
  (∀ (src : Source) (s : State), (∀ i : SliceId, src ≠ .win i) → s.reaches src = true → s.held = false → s.Canonical →
    Answers (.fenceRead src) s fun t => t.rd = .words [s.seq] ∧ Only [.rd] s t) ∧
  ∀ (i : SliceId) (s : State),
    s.reaches (.win i) = true → s.held = false → s.Canonical → s.blockOff .slice = false → s.slices[i].st ≠ .none →
    Answers (.fenceRead (.win i)) s fun t => t.rd = .words [s.seq] ∧ Only [.rd] s t

/-- A 32-bit read of the low dword of DTIME returns it and latches the high dword for that source; the next read of
the high dword returns the latched value and uses it up (log entry 33). A read while the control die is held, or that
does not reach the registers, is not answered. A read of a block that is off returns 0x0FF0_0FF0, and the first such
access since GLOBAL.CAUSE.ACC_OFF was cleared sets that cause and leaves its page and source in PWRDOM.ACC_OFF_PAGE. A
read of wrong size or alignment returns 0, and the first such access since GLOBAL.CAUSE.ACC_SIZE was cleared sets that
cause and leaves its offset, source and size in ACC_SIZE_INFO. A read of CAUSE_SET returns 0; of CAUSE and CAUSE_EN
what they hold. Over SMBus and by the management controller a read of a register that R277 gives them no authority
over returns 0 (log entry 30) and changes nothing. (spec/15_register_map.md R397, spec/12_power_domains.md R344,
spec/00_scope.md R14, spec/15_register_map.md R394, spec/06_frame_timing.md R210, spec/09_slices.md R277,
spec/12_power_domains.md R348, spec/15_register_map.md R402) -/
def Obligations.RegisterReads : Prop :=
  (∀ (src : Source) (s : State), (∀ i : SliceId, src ≠ .win i) → s.reaches src = true → s.held = false → s.Canonical →
    s.blockOff .time = false →
    (Answers (.lowDwordLatch src (at_ 5 0x100) 4 false) s fun t =>
      t.rd = .words [s.dtime.setWidth 32] ∧ Only [.rd, .latches] s t ∧
      t.latches.find? (fun l => l.1 == src && l.2.1 == at_ 5 0x104) = some (src, at_ 5 0x104,
        (s.dtime >>> 32).setWidth 32)) ∧
    ∀ v : Word, s.latches.find? (fun l => l.1 == src && l.2.1 == at_ 5 0x104) = some (src, at_ 5 0x104, v) →
      Answers (.lowDwordLatch src (at_ 5 0x104) 4 false) s fun t =>
        t.rd = .words [v] ∧ Only [.rd, .latches] s t ∧
        t.latches = s.latches.filter (fun l => !(l.1 == src && l.2.1 == at_ 5 0x104))) ∧
  (∀ (src : Source) (ofs size : Nat) (pe : Bool) (s : State), s.held = true ∨ s.reaches src = false →
    Answers (.lowDwordLatch src ofs size pe) s fun t => t.rd = .none ∧ Only [.rd] s t) ∧
  (∀ (src : Source) (ofs : Nat) (s : State), (∀ i : SliceId, src ≠ .win i) → s.reaches src = true → s.held = false →
    ofs % 4 = 0 →
    inPush ofs = false → s.blockOff (blockOf (ofs / 4096)) = true →
    Answers (.lowDwordLatch src ofs 4 false) s fun t =>
      t.rd = .words [0x0FF00FF0] ∧ Only [.rd, .regs, .ctl] s t ∧ RegsBut [at_ 0 8, at_ 3 0x288] s t ∧
      t.ctl = { s.ctl with accOffSeen := true } ∧ (s.ctl.accOffSeen = true → t.regs = s.regs) ∧
      (s.Canonical → s.ctl.accOffSeen = false → Causes s t 0 [2] ∧
        t.reg (at_ 3 0x288) = BitVec.ofNat 32 (ofs / 4096 + srcCode src * 2 ^ 12))) ∧
  (∀ (src : Source) (ofs size : Nat) (pe : Bool) (s : State), (∀ i : SliceId, src ≠ .win i) → s.reaches src = true →
    s.held = false →
    inPush ofs = false → sizeOk ofs size = false →
    Answers (.lowDwordLatch src ofs size pe) s fun t =>
      t.rd = .words [0] ∧ Only [.rd, .regs, .ctl] s t ∧ RegsBut [at_ 0 8, at_ 0 0x12C] s t ∧
      t.ctl = { s.ctl with accSizeSeen := true } ∧ (s.ctl.accSizeSeen = true → t.regs = s.regs) ∧
      (s.Canonical → s.ctl.accSizeSeen = false → Causes s t 0 [1] ∧
        t.reg (at_ 0 0x12C) = BitVec.ofNat 32 (ofs % 2 ^ 21 + srcCode src * 2 ^ 22 + min size 15 * 2 ^ 24))) ∧
  (∀ (src : Source) (page o : Nat) (s : State), (∀ i : SliceId, src ≠ .win i) → s.reaches src = true → s.held = false →
    s.Canonical → s.blockOff (blockOf page) = false → blockOf page ≠ .absent → (o = 8 ∨ o = 0xC ∨ o = 0x10) → mayRead src page o = true →
    Answers (.lowDwordLatch src (at_ page o) 4 false) s fun t =>
      t.rd = .words [if o = 0x10 then 0 else s.reg (at_ page o)] ∧ Only [.rd] s t) ∧
  (∀ (src : Source) (page o : Nat) (s : State), (∀ i : SliceId, src ≠ .win i) → s.reaches src = true → s.held = false →
    s.blockOff (blockOf page) = false → o % 4 = 0 → o < 4096 → ¬ (blockOf page = .qp ∧
      0x800 ≤ o) → mayRead src page o = false →
    Answers (.lowDwordLatch src (at_ page o) 4 false) s fun t => t.rd = .words [0] ∧ Only [.rd] s t)

/-- A CAUSE_SET write that takes effect sets the named cause bits that the page defines, FATAL excepted, and changes
no other register and no other state. It takes effect from BAR0, and over SMBus on every page but those of QP, DMCH
and CF, which R277 shuts to it, and but the further pages of SCHED and TE, which have no such register (log entry 30);
from the management controller and through a slice window it never does. (spec/15_register_map.md R395,
spec/09_slices.md R277) -/
def Obligations.CauseSetWrites : Prop :=
  (∀ (src : Source) (page : Fin 512) (v : Word) (s : State), s.Takes src page.val 0x010 → s.Canonical →
    Answers (.causeSetWrite src page v) s fun t =>
      Only [.regs] s t ∧ RegsBut [at_ page.val 8] s t ∧
      t.reg (at_ page.val 8) = s.reg (at_ page.val 8) |||
        (v &&& causeMask page.val &&& (if page.val = 0 then 0xFF#32 else BitVec.allOnes 32))) ∧
  (∀ (page : Fin 512) (s : State), s.reaches .bar0 = true → s.reaches .smbus = true →
    s.blockOff (blockOf page.val) = false → s.Takes .bar0 page.val 0x010 ∧
    (s.Takes .smbus page.val 0x010 ↔ blockOf page.val ∉ [Block.qp, .dmch, .cf] ∧
      (blockOf page.val = .sched → page.val = 0x050) ∧ (blockOf page.val = .te → page.val = 0x060)) ∧
        ¬ s.Takes .mc page.val 0x010 ∧
    ∀ i : SliceId, ¬ s.Takes (.win i) page.val 0x010)

/-- While the management controller runs and Acorn has started, a transaction to the strapped address 58h to 5Fh is
taken: WRITE_AT (code 01h) with a wrong PEC writes nothing and sets GLOBAL.CAUSE.PEC; with another code, a count that
is not 4 more than its dwords or a reserved offset bit it is not acknowledged; else each dword is written to its
offset as a register write over SMBus, here one dword to CAUSE_EN of a page. READ_AT (code 02h) of one dword returns
what the register reads, CAUSE_EN here, where R277 gives SMBus authority (log entry 30), and where the host clocks it
the PEC of the whole transaction, by the polynomial x^8 + x^2 + x + 1; another code, a bad count or length is not
acknowledged. Either releases SCL. Another address, or a controller that does not run, is not answered (log entry 32).
SCL held too long is released and nothing else changes. (spec/15_register_map.md R400, spec/16_pins_and_electrical.md
R426, spec/16_pins_and_electrical.md R413) -/
def Obligations.SmbusTransactions : Prop :=
  (∀ (h : SmbHead) (ofs : Word) (vals : List Word) (pe : BitVec 63) (s : State), s.mcRuns = true → s.fw.served = true →
    h.addr = s.smbAddr → h.code = 1 → h.pec = true →
    h.count = 4 + 4 * vals.length → 8 ≤ h.count → h.count ≤ 252 → smbOfsOk ofs = true → s.Canonical →
    Answers (.writeAt h ofs vals true pe) s fun t => Only [.regs, .ctl] s t ∧ RegsBut [at_ 0 8] s t ∧ Causes s t 0 [7] ∧
      t.ctl = { s.ctl with sclHeld := false, smbTxn := false }) ∧
  (∀ (h : SmbHead) (ofs : Word) (vals : List Word) (bad : Bool) (pe : BitVec 63) (s : State), s.mcRuns = true →
    s.fw.served = true → h.addr = s.smbAddr →
    (h.code ≠ 1 ∨ h.count < 8 ∨ 252 < h.count ∨ h.count ≠ 4 + 4 * vals.length ∨ smbOfsOk ofs = false) →
    Answers (.writeAt h ofs vals bad pe) s fun t => Only [.ctl, .rd] s t ∧ t.rd = .nack ∧
      t.ctl = { s.ctl with sclHeld := false, smbTxn := false }) ∧
  (∀ (page : Nat) (pec : Bool) (v : Word) (s : State), s.mcRuns = true → s.fw.served = true → page < 512 → s.Canonical →
    s.Takes .smbus page 0xC → blockOf page ≠ .absent →
    Answers (.writeAt ⟨s.smbAddr, 1, 8, pec⟩ (BitVec.ofNat 32 (at_ page 0xC)) [v] false 0) s fun t =>
      Only [.regs, .ctl] s t ∧ RegsBut [at_ page 0xC] s t ∧ t.reg (at_ page 0xC) = v &&& causeMask page ∧
      t.ctl = { s.ctl with sclHeld := false, smbTxn := false }) ∧
  (∀ (page : Nat) (h : SmbHead) (s : State), s.mcRuns = true → s.fw.served = true → page < 512 → s.Canonical →
    h.addr = s.smbAddr → h.code = 2 → h.count = 5 →
    s.blockOff (blockOf page) = false → blockOf page ≠ .absent → smbusSees page 0xC = true →
    Answers (.readAt h (BitVec.ofNat 32 (at_ page 0xC)) 1 0) s fun t =>
      t.rd = .smb [s.reg (at_ page 0xC)] (if h.pec then .good (pec (smbReadBytes h (BitVec.ofNat 32 (at_ page 0xC)) 1 ++
        leBytes 4 (s.reg (at_ page 0xC)).toNat)) else .absent) ∧
      Only [.rd, .ctl] s t ∧ t.ctl = { s.ctl with sclHeld := false, smbTxn := false }) ∧
  (∀ (h : SmbHead) (ofs : Word) (n : Nat) (pe : BitVec 63) (s : State), s.mcRuns = true → s.fw.served = true →
    h.addr = s.smbAddr → (h.code ≠ 2 ∨ h.count ≠ 5 ∨ n < 1 ∨ 63 < n ∨ smbOfsOk ofs = false) →
    Answers (.readAt h ofs n pe) s fun t => Only [.ctl, .rd] s t ∧ t.rd = .nack ∧
      t.ctl = { s.ctl with sclHeld := false, smbTxn := false }) ∧
  (∀ (h : SmbHead) (n : Nat) (ofs : Word) (vals : List Word) (bad : Bool) (pe : BitVec 63) (s : State),
    s.mcRuns = false ∨ h.addr ≠ s.smbAddr →
    (Answers (.writeAt h ofs vals bad pe) s fun t => Only [.rd] s t ∧ t.rd = .none) ∧
    (Answers (.readAt h ofs n pe) s fun t => Only [.rd] s t ∧ t.rd = .none)) ∧
  (∀ s : State, s.smbAddr.toNat = 0x58 + s.store.straps.toNat % 8) ∧
  ∀ s : State, Answers .smbusSclTimeout s fun t => Only [.ctl] s t ∧
    t.ctl = { s.ctl with sclHeld := false, smbTxn := false }

/-- PERST_N low, a thermal shutdown, a DEV_RESET that takes effect, a PCIe hot reset of a die that runs with HOST not
OFF and PERST_N high, and a loss of a lock of the root PLL each hold the control die in hot reset, each under its own
hold: every unit, queue and memory of the control die is at reset; the registers are at their Reset values but for RWS
fields, FATAL_INFO, PLL_LOCKS, the FATAL and PLL_LOST causes and what the power dies hold; SEQ, the store, the test
port, Husks, feeds and the level of INT_N are kept. A loss of lock first sets PLL_LOST, counts it in LOSSES and in
FATAL_INFO.COUNT, and records STRUCT 0x0F, die 0 and instance 0 where nothing is recorded. A PCIe hot reset of a die
already held, with HOST OFF or with PERST_N low, or a loss without a lock, changes nothing. That a thermal shutdown is
handled as a hot reset, and what a hot reset does to the port lines and CLK_AON, are the model's readings (log entry
6). (spec/01_device_organisation.md R52, spec/01_device_organisation.md R54, spec/01_device_organisation.md R438,
spec/01_device_organisation.md R27, spec/14_attention_and_errors.md R388, spec/15_register_map.md R404,
spec/15_register_map.md R396, spec/15_register_map.md R398) -/
def Obligations.HotResetsHoldTheDie : Prop :=
  (∀ s : State, s.Canonical → Answers .perstNAssert s fun t =>
    InHotReset s t ∧ RegsHotReset s t ∧ t.ctl.perstLow = true ∧ t.ctl.perstHold = true ∧
      t.ctl.timedHold = s.ctl.timedHold ∧
    t.ctl.thermHold = s.ctl.thermHold ∧ t.ctl.pllHold = s.ctl.pllHold) ∧
  (∀ s : State, s.Canonical → Answers .controlDieThermalShutdown s fun t =>
    InHotReset s t ∧ RegsHotReset s t ∧ t.ctl.thermHold = true ∧ t.ctl.timedHold = s.ctl.timedHold ∧
    t.ctl.perstLow = s.ctl.perstLow ∧ t.ctl.perstHold = s.ctl.perstHold ∧ t.ctl.pllHold = s.ctl.pllHold) ∧
  (∀ (src : Source) (s : State), s.Canonical → s.Takes src 0 0x014 → Answers (.devReset src) s fun t =>
    InHotReset s t ∧ RegsHotReset s t ∧ t.ctl.timedHold = true ∧ t.ctl.perstHold = false ∧ t.ctl.thermHold = false ∧
    t.ctl.pllHold = false ∧ t.ctl.perstLow = s.ctl.perstLow) ∧
  (∀ s : State, s.Canonical → s.held = false → s.ctl.perstLow = false → s.doms[domHOST].st ≠ .off →
    Answers .pcieHotReset s fun t =>
    InHotReset s t ∧ RegsHotReset s t ∧ t.ctl.timedHold = true ∧ t.ctl.perstHold = false ∧ t.ctl.thermHold = false ∧
    t.ctl.pllHold = false ∧ t.ctl.perstLow = s.ctl.perstLow) ∧
  (∀ s : State, (s.held = true ∨ s.ctl.perstLow = true ∨ s.doms[domHOST].st = .off) → Answers .pcieHotReset s fun t => Only [] s t) ∧
  (∀ s : State, s.Canonical → s.ctl.pllLock = true → Answers .pllLost s fun t =>
    InHotReset s t ∧ t.ctl.pllHold = true ∧ t.ctl.timedHold = s.ctl.timedHold ∧ t.ctl.perstHold = s.ctl.perstHold ∧
    t.ctl.perstLow = s.ctl.perstLow ∧ t.ctl.thermHold = s.ctl.thermHold ∧
    ∃ u : State, RegsHotReset u t ∧ RegsBut [at_ 2 8, at_ 2 0x104, at_ 0 0x128] s u ∧
      u.reg (at_ 2 8) = s.reg (at_ 2 8) ||| 0x010 ∧
      u.fld (at_ 2 0x104) 16 16 = min (s.fld (at_ 2 0x104) 16 16 + 1) 65535 ∧
      u.fld (at_ 2 0x104) 0 16 = s.fld (at_ 2 0x104) 0 16 ∧
      u.fld (at_ 0 0x128) 24 8 = min (s.fld (at_ 0 0x128) 24 8 + 1) 255 ∧
      (s.fld (at_ 0 0x128) 0 8 = 0 → u.fld (at_ 0 0x128) 0 8 = 0x0F ∧ u.fld (at_ 0 0x128) 8 3 = 0 ∧
        u.fld (at_ 0 0x128) 16 8 = 0) ∧
      (s.fld (at_ 0 0x128) 0 8 ≠ 0 → u.fld (at_ 0 0x128) 0 24 = s.fld (at_ 0 0x128) 0 24)) ∧
  (∀ s : State, s.ctl.pllLock = false → Answers .pllLost s fun t => Only [] s t)

/-- The end of a hold (PERST_N high after a reset that it asserted, the hold time over, the die cooled, the PLL locked
again) changes only that hold while another is in force. With no other the die is released: Acorn has started, the
Pods with a Husk in RAMP, SETTLE or ON are ON; with an image that passes its checks, no interrupted confirm and
BOOT_HOLD clear the Husks stay as they are and every port of a Husk in ON that was in POWER_OFF is DISCONNECTED; with
BOOT_HOLD set or no image the device is in ACORN_ONLY. That BOOT_HOLD gives the reason also where no image is valid is
the model's choice (log entry 46), and so is that the Pods of driven Husks come up ON (log entry 6). PERST_N high that
holds no die lets the link train only. A lock of the root PLL is counted, and changes nothing else where the die was
not held for it. (spec/01_device_organisation.md R438, spec/16_pins_and_electrical.md R419,
spec/01_device_organisation.md R27, spec/01_device_organisation.md R34, spec/15_register_map.md R404,
spec/01_device_organisation.md R54, spec/13_firmware_and_settings.md R353, spec/13_firmware_and_settings.md R355) -/
def Obligations.ReleasesOfTheDie : Prop :=
  (∀ (c : Instr) (s s' : State),
    ((c = .perstNRelease ∧ s.ctl.perstHold = true ∧
        s' = s.modCtl (fun x => { x with perstLow := false, perstHold := false })) ∨
     (c = .controlDieResetRelease ∧ s.ctl.timedHold = true ∧ s' = s.modCtl (fun x => { x with timedHold := false })) ∨
     (c = .controlDieCooled ∧ s.ctl.thermHold = true ∧ s' = s.modCtl (fun x => { x with thermHold := false })) ∨
     (c = .rootPllLock ∧ s.ctl.pllHold = true ∧ s.ctl.pllLock = false ∧ s.ctl.pllStopped = false ∧
      s' = (s.satF (at_ 2 0x104) 0 16 1).modCtl (fun x =>
        { x with pllLock := true, pllHold := false, pllWaits := false }))) →
    (s'.held = true → Answers c s fun t => Only [.ctl, .regs] s t ∧ RegsBut [at_ 2 0x104] s t ∧ t.ctl = s'.ctl) ∧
    (s'.held = false → Answers c s fun t => t.held = false ∧ t.fw.served = true ∧
      t.ctl = { s'.ctl with pllStopped := t.ctl.pllStopped, pllLock := t.ctl.pllLock, pllWaits := t.ctl.pllWaits } ∧
      Only [.ordinal, .regs, .seq, .qps, .wis, .park, .events, .ctxs, .closed, .ports, .husks, .regions, .doms, .store,
        .fw, .ctl, .cfs, .posted] s t ∧
      (∀ n : PortId, s.husks[n].driven = true → t.doms[podDom (podOf n)].st = .on) ∧
      (s.store.straps.getLsbD 4 = false → (s.store.img = .trial ∨ s.store.img = .confirmed) → s.store.imgCheck = 0 →
        t.fw.mc = .loader ∧ t.husks = s.husks ∧ t.ctl = s'.ctl ∧
        ∀ n : PortId, s.husks[n].st = .on → s.ports[n].st = .powerOff →
          t.ports[n].st = .disconnected ∧ t.ports[n].pgood = true ∧ t.ports[n].conn = false) ∧
      (s.store.straps.getLsbD 4 = true → t.fw.mc = .acornOnly ∧ t.fw.why = 2) ∧
      (s.store.straps.getLsbD 4 = false → s.store.img = .invalid → t.fw.mc = .acornOnly ∧ t.fw.why = 1))) ∧
  (∀ s : State, s.ctl.perstHold = false → Answers .perstNRelease s fun t => Only [.ctl] s t ∧
    t.ctl = { s.ctl with perstLow := false }) ∧
  (∀ s : State, s.ctl.pllHold = false → s.held = false → s.ctl.pllLock = false → s.ctl.pllStopped = false →
    s.Canonical → Answers .rootPllLock s fun t => Only [.ctl, .regs] s t ∧ RegsBut [at_ 2 0x104] s t ∧
      t.ctl = { s.ctl with pllLock := true, pllWaits := false } ∧
      t.fld (at_ 2 0x104) 0 16 = min (s.fld (at_ 2 0x104) 0 16 + 1) 65535)

/-- POWER_ON_RESET puts every register of the control die at its Reset value, SEQ to 0 and every queue, unit and
memory of the control die at reset, and latches the straps: each strap that was stable inside its window has its pin's
level, and one that was not has a free value. Only a die that is too hot stays held afterwards; PERST_N low keeps the
link from training only (log entry 6). Else Acorn has started, and has finished an interrupted confirm: the image is
CONFIRMED, the counter at its target, and the event with DETAIL 1 waits. The Husks, their claims and the settings that
the power dies hold stand until the reset frames reach the power dies. (spec/01_device_organisation.md R52,
spec/01_device_organisation.md R53, spec/16_pins_and_electrical.md R413, spec/16_pins_and_electrical.md R419,
spec/01_device_organisation.md R439, spec/17_bring_up.md R432, spec/13_firmware_and_settings.md R353,
spec/13_firmware_and_settings.md R365) -/
def Obligations.PowerOnReset : Prop :=
  ∀ (x : Straps) (s : State), Answers (.powerOnReset x) s fun t =>
    (∀ o : Nat, ofDie o = false → t.reg o = resetValue o) ∧
    (s.Canonical → ∀ o : Nat, ofDie o = true →
      t.reg o = if ∃ m : RegId, o ∈ dieSettings m then s.reg o else resetValue o) ∧
    t.seq = 0 ∧ t.wis = [] ∧ t.park = [] ∧ t.ctxs = [] ∧ t.posted = [] ∧ t.reads = [] ∧
    (∀ w ∈ t.events, w.page = 4 ∧ w.code = 2) ∧ ((∀ k : Nat, s.store.img ≠ .confirmStart k) → t.events = []) ∧
    (∀ k : Nat, s.store.img = .confirmStart k → t.held = false → t.store.img = .confirmed ∧
      t.store.secCount = max s.store.secCount k ∧
      ∃ w ∈ t.events, w.page = 4 ∧ w.code = 2 ∧ w.detail = 1 ∧ w.data = t.store.secCount) ∧
    (∀ e : DmId, t.dms[e].ram = []) ∧ t.refClk = Clk.init ∧ (∀ p : PortId, t.clks[p] = Clk.init) ∧ t.dtime = 0 ∧
    (∀ q : QpId, t.qps[q] = Qp.init) ∧ (∀ i : SliceId, t.slices[i] = Slice.init) ∧
    (∀ ch : ChId, t.dmchs[ch] = Dmch.init) ∧ (∀ k : CfId, t.cfs[k] = Cf.init) ∧
    (∀ d : DomId, t.doms[d] = Dom.init (decide (d.val < 8))) ∧ (∀ p : PortId, t.ports[p] = Port.init) ∧
    t.tap = State.reset.tap ∧ t.fatal = false ∧ t.pci.aerInternal = false ∧ t.att.intN = false ∧
    t.store.straps &&& ~~~x.unstable = x.pins &&& ~~~x.unstable ∧ t.store.debugFuse = x.debugFuse ∧
    t.held = s.ctl.thermHold ∧ t.ctl.perstLow = s.ctl.perstLow ∧ (t.held = false → t.fw.served = true) ∧
    ∀ n : PortId, t.husks[n].st = s.husks[n].st ∧ t.husks[n].claim = s.husks[n].claim

/-- A CLOCK.CTRL write that takes effect sets AON_XTAL as written, starting a qualification where it was 0 and becomes
1, and returning CLK_AON to the RC where it is written 0 (log entry 64); sets MC_CLK only while the PLL is locked,
else CLOCK.CAUSE records the refusal and MC_CLK keeps its value; and clears MC_CLK written 0. The end of a
qualification keeps the count and puts CLK_AON on the crystal for 4,056 to 4,136 RC cycles, else on the RC with its
cause. A crystal that stops puts CLK_AON back on the RC and sets the cause. Configuration requests: unanswered while
held, with PERST_N low or HOST not ON, or in L2; Retry Status before the link is ready; else they set the power state,
MSI-X, the vectors' masks, addresses and data, PASID Enable, AER mask and severity, the error message enables and the
base addresses of the two 64-bit BARs, clear the AER error, and read what the link and these bits hold (log entry 11).
L1 entry, PME_Turn_Off and L1 exit move the link; an exit while HOST is in RET starts its return. TRST_N low resets
the TAP; a rising TCK edge moves its state by TMS, a falling edge does not; the falling edge that ends Update-DR of a
debug register carries out the register access shifted in, as BAR0 does and whether or not the link is ready, where
DEBUG_EN is strapped high and the debug fuse is intact (log entry 12). (spec/01_device_organisation.md R36,
spec/15_register_map.md R405, spec/16_pins_and_electrical.md R419, spec/12_power_domains.md R334,
spec/12_power_domains.md R340, spec/14_attention_and_errors.md R375, spec/16_pins_and_electrical.md R429,
spec/00_scope.md R5, spec/09_slices.md R278, spec/15_register_map.md R391, spec/12_power_domains.md R336,
spec/17_bring_up.md R433) -/
def Obligations.ClocksAndLink : Prop :=
  (∀ (c : Instr) (src : Source) (v : Word) (s : State), (c = .aonXtalRequest src v ∨ c = .mcClkSelect src v) →
    s.Takes src 2 0x014 → s.Canonical → Answers c s fun t =>
      Only [.regs, .ctl, .regions] s t ∧ RegsBut [at_ 2 0x014, at_ 2 8] s t ∧
      t.flag (at_ 2 0x014) 0 = v.getLsbD 0 ∧ t.ctl.onXtal = (s.ctl.onXtal && v.getLsbD 0) ∧
      t.ctl.qual = (s.ctl.qual || (v.getLsbD 0 && !s.flag (at_ 2 0x014) 0)) ∧
      (v.getLsbD 1 = true → Only [.regs, .ctl] s t ∧ t.ctl = { s.ctl with qual := t.ctl.qual, onXtal := t.ctl.onXtal } ∧
        (s.ctl.pllLock = true → t.flag (at_ 2 0x014) 1 = true ∧ t.reg (at_ 2 8) = s.reg (at_ 2 8)) ∧
        (s.ctl.pllLock = false → t.flag (at_ 2 0x014) 1 = s.flag (at_ 2 0x014) 1 ∧ Causes s t 2 [3])) ∧
      (v.getLsbD 1 = false → t.flag (at_ 2 0x014) 1 = false ∧ t.reg (at_ 2 8) = s.reg (at_ 2 8))) ∧
  (∀ (n : BitVec 13) (s : State), s.held = false → s.ctl.qual = true → s.Canonical →
    Answers (.xtalQualDone n) s fun t => Only [.regs, .ctl] s t ∧ RegsBut [at_ 2 0x100, at_ 2 8] s t ∧
      t.reg (at_ 2 0x100) = n.setWidth 32 ∧ t.ctl.qual = false ∧
      (4056 ≤ n.toNat ∧ n.toNat ≤ 4136 → t.ctl.onXtal = true ∧ t.reg (at_ 2 8) = s.reg (at_ 2 8)) ∧
      (¬ (4056 ≤ n.toNat ∧ n.toNat ≤ 4136) → t.ctl.onXtal = false ∧ Causes s t 2 [1])) ∧
  (∀ s : State, s.held = false → s.ctl.onXtal = true → s.Canonical → Answers .xtalStop s fun t =>
    Only [.regs, .ctl] s t ∧ RegsBut [at_ 2 8] s t ∧ t.ctl = { s.ctl with onXtal := false } ∧ Causes s t 2 [2]) ∧
  (∀ (r : ConfigReq) (s : State),
    (s.held = true ∨ s.ctl.perstLow = true ∨ s.domOn domHOST = false ∨ s.pci.inL2 = true) →
    Answers (.configurationRequest r) s fun t => Only [.rd] s t ∧ t.rd = .none) ∧
  (∀ (r : ConfigReq) (s : State),
    s.held = false → s.ctl.perstLow = false → s.domOn domHOST = true → s.pci.inL2 = false →
    (s.pci.ready = false → (∀ (w : LinkWidth) (g : Fin 4), r ≠ .elapsed w g) →
      Answers (.configurationRequest r) s fun t => Only [.rd] s t ∧ t.rd = .retryStatus) ∧
    (s.pci.training = true → ∀ (w : LinkWidth) (g : Fin 4), Answers (.configurationRequest (.elapsed w g)) s fun t =>
      Only [.pci] s t ∧
      t.pci = { s.pci with training := false, ready := true, width := laneCount w, speed := g.val + 1 }) ∧
    (s.pci.ready = true →
      (∀ d : Bool, Answers (.configurationRequest (.powerState d)) s fun t => Only [.pci] s t ∧
        t.pci = { s.pci with d3hot := d }) ∧
      (∀ en m : Bool, Answers (.configurationRequest (.msix en m)) s fun t => Only [.pci] s t ∧
        t.pci = { s.pci with msixEn := en, msixMask := m }) ∧
      (∀ (i : Fin 33) (m : Bool), Answers (.configurationRequest (.vectorMask i m)) s fun t => Only [.pci] s t ∧
        ∀ j : Fin 33, t.pci.vecMask.getLsbD j.val = if j = i then m else s.pci.vecMask.getLsbD j.val) ∧
      (∀ (i : Fin 33) (a : BitVec 64) (d : Word), Answers (.configurationRequest (.vectorEntry i a d)) s fun t =>
        Only [.pci] s t ∧ t.pci.vecAddr[i] = a &&& ~~~3#64 ∧ t.pci.vecData[i] = d ∧
        AllBut i s.pci.vecAddr t.pci.vecAddr ∧ AllBut i s.pci.vecData t.pci.vecData) ∧
      (∀ b : Bool, Answers (.configurationRequest (.pasid b)) s fun t => Only [.pci] s t ∧
        t.pci = { s.pci with pasidEn := b }) ∧
      (∀ b : Bool, Answers (.configurationRequest (.aerMask b)) s fun t => Only [.pci] s t ∧
        t.pci = { s.pci with aerMasked := b }) ∧
      (∀ b : Bool, Answers (.configurationRequest (.aerSeverity b)) s fun t => Only [.pci] s t ∧
        t.pci = { s.pci with aerSevere := b }) ∧
      (∀ n f : Bool, Answers (.configurationRequest (.errorControl n f)) s fun t => Only [.pci] s t ∧
        t.pci = { s.pci with nonFatalEn := n, fatalEn := f }) ∧
      (∀ (n : Fin 6) (v : Word), Answers (.configurationRequest (.bar n v)) s fun t => Only [.pci] s t ∧
        t.pci = { s.pci with bar0 := t.pci.bar0, bar2 := t.pci.bar2 } ∧
        ∀ m : Fin 6, t.pci.bar m = if m = n ∧ m.val < 4 then
          (if m.val % 2 = 0 then (v &&& 0xFFE00000) ||| 4 else v) else s.pci.bar m) ∧
      (Answers (.configurationRequest .aerClear) s fun t => Only [.pci] s t ∧
        t.pci = { s.pci with aerInternal := false }) ∧
      ∀ q : ConfigReg, Answers (.configurationRequest (.read q)) s fun t => Only [.rd, .free] s t ∧
        ∃ w : Word, t.rd = .words (s.pci.cfg s.att.pend q w))) ∧
  (∀ s : State, s.held = false → s.domOn domHOST = true → s.pci.ready = true → s.pci.inL2 = false →
    (Answers .linkL1Entry s fun t => Only [.pci] s t ∧ t.pci = { s.pci with inL1 := true }) ∧
    Answers .pmeTurnOff s fun t => Only [.pci, .rd] s t ∧ t.pci = { s.pci with inL1 := false, inL2 := true } ∧
      t.rd = .pmeAck) ∧
  (∀ s : State, s.held = false → s.doms[domHOST].st = .on → s.doms[domHOST].phase = .none →
    Answers .hostL1Exit s fun t => Only [.pci] s t ∧ t.pci = { s.pci with inL1 := false }) ∧
  (∀ s : State, s.held = false → s.doms[domHOST].st = .ret → s.doms[domHOST].phase = .none → s.Canonical →
    Answers .hostL1Exit s fun t => Only [.pci, .doms, .ctl, .regs, .regions] s t ∧
      RegsBut [at_ 3 8, at_ 3 0x284] s t ∧ t.pci = { s.pci with inL1 := false } ∧ AllBut domHOST s.doms t.doms ∧
      t.doms[domHOST] = { s.doms[domHOST] with target := 0, st := .exiting, held := true } ∧
      Causes s t 3 [3] ∧ t.reg (at_ 3 0x284) = 0x103) ∧
  (∀ (rising tms tdi : Bool) (a : Option DebugAccess) (s : State),
    (Answers (.tckEdge rising tms ⟨tdi, a⟩ false) s fun t => Only [.tap] s t ∧ t.tap.st = .reset ∧ t.tap.ir = 1) ∧
    (Answers (.tckEdge true tms ⟨tdi, a⟩ true) s fun t => Only [.tap] s t ∧ t.tap.st = s.tap.st.next tms ∧
      t.tap.ir = s.tap.ir) ∧
    (a = none ∨ s.store.straps.getLsbD 3 = false ∨ s.store.debugFuse = false ∨ s.tap.st ≠ .updDr →
      Answers (.tckEdge false tms ⟨tdi, a⟩ true) s fun t => Only [.tap] s t ∧ t.tap.st = s.tap.st)) ∧
  (∀ (tms tdi : Bool) (a : DebugAccess) (s : State), s.store.straps.getLsbD 3 = true → s.store.debugFuse = true →
    s.tap.st = .updDr → s.tap.ir ≠ 0 → s.tap.ir ≠ 2 → s.reaches .bar0 = true →
    exec (.tckEdge false tms ⟨tdi, some a⟩ true) s =
      exec (if a.write then .mmioWrite .bar0 a.ofs a.size a.v false else .lowDwordLatch .bar0 a.ofs a.size false)
        { s with tap := s.tap.edge false tms tdi true }) ∧
  ∀ (tms tdi : Bool) (page : Nat) (v : BitVec 64) (s : State), s.store.straps.getLsbD 3 = true →
    s.store.debugFuse = true → s.tap.st = .updDr → s.tap.ir ≠ 0 → s.tap.ir ≠ 2 → s.held = false →
    s.blockOff (blockOf page) = false → blockOf page ≠ .absent → s.Canonical →
    Answers (.tckEdge false tms ⟨tdi, some ⟨true, at_ page 0xC, 4, v⟩⟩ true) s fun t => Only [.tap, .regs] s t ∧
      RegsBut [at_ page 0xC] s t ∧ t.reg (at_ page 0xC) = v.setWidth 32 &&& causeMask page

/-- In a block with power, a corrected error changes no state but its count, its cause and GLOBAL.ECC_LAST. An
uncorrectable error in a word that holds nothing live counts, records ECC_LAST and sets GLOBAL.CAUSE.ECC_UNCORR. In a
live word that an ACTIVE slice owns it faults the slice: FAULTED, a new generation, SLICE.CAUSE and LAST_FAULT. In a
live word no slice owns: of the Endpoint Buffer RAM, it ends an item with HOST_MEM_ERR and DETAIL 0x05, at once where
it is not on the wire and dispatch not paused, else at its transaction's end; of a capture FIFO, the FIFO is flushed
and CF.CAUSE.ECC_UNCORR sets; of program RAM, its channel, where that runs or waits, halts with PROG_ERR and DETAIL
0x08; of any other structure it is FATAL: FATAL is in force, its cause is set, FATAL_INFO names the structure and AER
reports it, by ERR_FATAL or ERR_NONFATAL where unmasked and enabled (log entry 11). A scrubber read that finds an
error does the same, and a corrected word of the Endpoint Buffer RAM is being written back until the next tick (log
entry 63); a clean one, and every error in a block without power, changes nothing. While FATAL is in force a live
error only counts and records ECC_LAST (log entry 37). (spec/14_attention_and_errors.md R383,
spec/14_attention_and_errors.md R384, spec/14_attention_and_errors.md R385, spec/14_attention_and_errors.md R387,
spec/09_slices.md R289, spec/09_slices.md R287) -/
def Obligations.EccErrors : Prop :=
  (∀ (k : EccStruct) (inst : Nat) (s : State), s.eccPowered k = true → s.Canonical →
    Answers (.eccCorrected k inst) s fun t => Only [.regs] s t ∧ t.fld (at_ 0 0x11C) 0 9 = eccId k ∧
      (k = .ebr → RegsBut [at_ 0 0x11C, at_ 0x070 0x118, at_ 0x070 8] s t ∧ Causes s t 0x070 [3] ∧
        t.fld (at_ 0x070 0x118) 0 32 = min (s.fld (at_ 0x070 0x118) 0 32 + 1) (2 ^ 32 - 1)) ∧
      (k ≠ .ebr → t.fld (at_ 0 0x114) 0 32 = min (s.fld (at_ 0 0x114) 0 32 + 1) (2 ^ 32 - 1)) ∧
      (∀ f : CfId, k = .captureFifo → inst = f.val →
        RegsBut [at_ 0 0x11C, at_ 0 0x114, at_ (cfPage f) 8] s t ∧ Causes s t (cfPage f) [5]) ∧
      (k ≠ .ebr → k ≠ .captureFifo → RegsBut [at_ 0 0x11C, at_ 0 0x114, at_ 0 8] s t ∧ Causes s t 0 [3])) ∧
  (∀ (k : EccStruct) (inst : Nat) (live : Bool) (s : State), s.eccPowered k = true → s.Canonical →
    (live = false ∨ s.eccOwner k inst = .nothing) →
    Answers (.eccUncorrectable k inst live) s fun t => Only [.regs] s t ∧
      RegsBut [at_ 0 0x11C, at_ 0 0x118, at_ 0 8, at_ 0x070 8] s t ∧ Causes s t 0 [4] ∧
      t.fld (at_ 0 0x118) 0 32 = min (s.fld (at_ 0 0x118) 0 32 + 1) (2 ^ 32 - 1) ∧
      t.fld (at_ 0 0x11C) 0 9 = eccId k + 256) ∧
  (∀ (k : EccStruct) (inst : Nat) (i : SliceId) (s : State), s.eccPowered k = true → s.Canonical → s.fatal = false →
    k ≠ .pram → s.eccOwner k inst = .slice i → s.slices[i].st = .active →
    Answers (.eccUncorrectable k inst true) s fun t =>
      Only [.ordinal, .regs, .seq, .qps, .wis, .park, .events, .ctxs, .closed, .ports, .slices, .dmchs, .cfs, .posted,
        .husks, .regions, .ctl] s t ∧
      t.slices[i].st = .faulted ∧ t.slices[i].gen = s.slices[i].gen + 1 ∧ t.slices[i].winCause.getLsbD 4 = true ∧
      t.slices[i].qps = s.slices[i].qps ∧ t.slices[i].ports = s.slices[i].ports ∧
      (Causes s t (slicePage i) [8] ∨ Causes s t (slicePage i) [8, 9]) ∧
      t.fld (at_ (slicePage i) 0x150) 0 4 = eccFault k) ∧
  (∀ (k : EccStruct) (inst : Nat) (s : State), k ≠ .ebr → k ≠ .captureFifo → k ≠ .pram → s.eccOwner k inst = .other →
    s.eccPowered k = true → s.Canonical → s.fatal = false → Answers (.eccUncorrectable k inst true) s fun t =>
      Only [.regs, .ctl, .pci] s t ∧ RegsBut [at_ 0 0x11C, at_ 0 0x118, at_ 0 8, at_ 0 0x128] s t ∧ t.fatal = true ∧
      t.ctl.fatalReset = false ∧ Causes s t 0 [8] ∧ t.pci = { s.pci with aerInternal := true } ∧
      (s.pci.aerMasked = false → s.pci.aerSevere = true → s.pci.fatalEn = true → 35 ∈ t.att.msgs) ∧
      (s.pci.aerMasked = false → s.pci.aerSevere = false → s.pci.nonFatalEn = true → 36 ∈ t.att.msgs) ∧
      t.fld (at_ 0 0x128) 24 8 = min (s.fld (at_ 0 0x128) 24 8 + 1) 255 ∧
      (s.fld (at_ 0 0x128) 0 8 = 0 → t.fld (at_ 0 0x128) 0 8 = eccId k)) ∧
  (∀ (it : Item) (s : State), s.eccPowered .ebr = true → s.Canonical → s.fatal = false → s.fw.paused = false →
    s.item? it.id = some it → it.inService = true → it.owner = none → s.Live it → it.x.iso = [] →
    s.onWire it = false → Answers (.eccUncorrectable .ebr it.id true) s fun t =>
      EndedWith s t it 5 5 it.xferLen ∧ Causes s t 0x070 [4] ∧
      Only [.ordinal, .regs, .seq, .qps, .wis, .park, .ctxs, .closed, .posted] s t ∧
      RegsOf [.qp, .sched, .slice, .global, .ebr] s t) ∧
  (∀ (it : Item) (s : State), s.eccPowered .ebr = true → s.Canonical → s.fatal = false →
    s.item? it.id = some it → it.inService = true → it.owner = none → it.x.iso = [] → it.ending = none →
    s.onWire it = true → Answers (.eccUncorrectable .ebr it.id true) s fun t =>
      t.Has it.id (fun x => x.ending = some (5, 5)) ∧ Causes s t 0x070 [4] ∧ t.posted = s.posted ∧ t.seq = s.seq) ∧
  (∀ (k : CfId) (s : State), s.eccPowered .captureFifo = true → s.Canonical → s.fatal = false → s.ownerCf k = none →
    Answers (.eccUncorrectable .captureFifo k.val true) s fun t => Only [.regs, .cfs] s t ∧
      RegsBut [at_ 0 0x11C, at_ 0 0x118, at_ (cfPage k) 8] s t ∧ Causes s t (cfPage k) [6] ∧ AllBut k s.cfs t.cfs ∧
      t.cfs[k].item = none ∧ t.cfs[k].fill = s.cfs[k].fill + s.cfs[k].readLeft ∧
      ∃ w : BitVec 64, t.cfs[k].words = [.marker w] ∧ markerKind w = 2) ∧
  (∀ (ch : ChId) (s : State), s.eccPowered .pram = true → s.Canonical → s.fatal = false →
    s.dmchs[ch].st ≠ .running → s.dmchs[ch].st ≠ .waiting →
    Answers (.eccUncorrectable .pram ch.val true) s fun t => Only [.regs] s t ∧
      RegsBut [at_ 0 0x11C, at_ 0 0x118] s t) ∧
  (∀ (ch : ChId) (s : State), s.eccPowered .pram = true → s.Canonical → s.fatal = false →
    s.dmchs[ch].st = .running ∨ s.dmchs[ch].st = .waiting →
    Answers (.eccUncorrectable .pram ch.val true) s fun t => Only [.regs, .dmchs] s t ∧ AllBut ch s.dmchs t.dmchs ∧
      t.dmchs[ch].st = .halted ∧ t.dmchs[ch].result = 6 ∧ t.dmchs[ch].detail = 8 ∧ Causes s t (dmchPage ch) [3]) ∧
  (∀ (k : EccStruct) (inst : Nat) (s : State), s.eccPowered k = true → s.Canonical → s.fatal = true →
    s.eccOwner k inst ≠ .nothing → Answers (.eccUncorrectable k inst true) s fun t => Only [.regs] s t ∧
      RegsBut [at_ 0 0x11C, at_ 0 0x118, at_ 0 0x128] s t ∧ t.fld (at_ 0 0x11C) 0 9 = eccId k + 256 ∧
      t.fld (at_ 0 0x128) 24 8 = min (s.fld (at_ 0 0x128) 24 8 + 1) 255) ∧
  (∀ (k : EccStruct) (inst : Nat) (live : Bool) (s : State),
    (Answers (.scrubPass k inst .clean) s fun t => Only [] s t) ∧
    (k ≠ .ebr → exec (.scrubPass k inst .corrected) s = exec (.eccCorrected k inst) s) ∧
    (k = .ebr → s.eccPowered .ebr = true → s.Canonical → Answers (.scrubPass k inst .corrected) s fun t =>
      Only [.regs, .ctl] s t ∧ RegsBut [at_ 0 0x11C, at_ 0x070 0x118, at_ 0x070 8] s t ∧ Causes s t 0x070 [3] ∧
      t.fld (at_ 0x070 0x118) 0 32 = min (s.fld (at_ 0x070 0x118) 0 32 + 1) (2 ^ 32 - 1) ∧
      t.ctl = { s.ctl with scrubWb := true }) ∧
    (s.eccPowered k = false → (Answers (.eccCorrected k inst) s fun t => Only [] s t) ∧
      (Answers (.eccUncorrectable k inst live) s fun t => Only [] s t) ∧
      Answers (.scrubPass k inst .corrected) s fun t => Only [] s t) ∧
    exec (.scrubPass k inst (.uncorrectable live)) s = exec (.eccUncorrectable k inst live) s)

/-- Each counter-clearing bit that takes effect clears the counters of its block, and no other register: wait
histograms, scheduler and engine counters, context and halt counts, buffer counts, port, Husk and region counts, Data
Mover and capture counts, domain counts, ECC and parity counts. PEAK_CLR, and CNT_CLR of EBR, CF and a Husk or region
page, also take the present value or 0 for their peaks (of EBR and CF the present one, log entry 49); EST_CLR clears
ESTIMATED and UNCERT; DATA_RST sets DATA_PTR to 0. (spec/03_dispatch_scheduler.md R127,
spec/04_transfer_engines_and_endpoints.md R161, spec/04_transfer_engines_and_endpoints.md R162, spec/05_root_ports.md
R191, spec/07_husk_power_path.md R247, spec/08_regions_feeds_budgets.md R266, spec/10_data_mover.md R315,
spec/10_data_mover.md R314, spec/11_capture.md R329, spec/12_power_domains.md R348, spec/15_register_map.md R402,
spec/06_frame_timing.md R218) -/
def Obligations.CounterClears : Prop :=
  (∀ (src : Source) (s : State), s.Takes src 0x050 0x014 →
    (Answers (.histClr src) s fun t => Only [.regs] s t ∧
      ∀ o : Nat, t.reg o = if at_ 0x054 0x100 ≤ o ∧ o < at_ 0x058 0 ∧ 0x100 ≤ o % 4096 then resetValue o else s.reg o) ∧
    (Answers (.peakClr src) s fun t => Only [.wisPeak, .flowPeak, .pfPeak, .slices] s t ∧ t.wisPeak = s.wis.length ∧
      t.flowPeak = s.flowsLive ∧ t.pfPeak = s.wisUse none ∧
      ∀ i : SliceId, SliceKept { s.slices[i] with peakUse := s.wisUse (some i) } t.slices[i]) ∧
    Answers (.schedCntClr src) s fun t => Only [.regs] s t ∧
      ∀ o : Nat, t.reg o = if o = at_ 0x050 0x120 ∨ o = at_ 0x050 0x124 ∨ o = at_ 0x050 0x128 ∨
        (∃ e : EngId, o = at_ 0x058 (0x108 + 16 * e.val)) then resetValue o else s.reg o) ∧
  (∀ (src : Source) (s : State), s.Takes src 0x060 0x014 → Answers (.teCntClr src) s fun t => Only [.regs] s t ∧
    ∀ o : Nat, t.reg o = if o ∈ [at_ 0x060 0x110, at_ 0x060 0x114, at_ 0x060 0x11C] then resetValue o else s.reg o) ∧
  (∀ (src : Source) (s : State), s.Takes src 0x070 0x014 → Answers (.ebrCntClr src) s fun t =>
    Only [.regs, .poolPeak] s t ∧ t.poolPeak = s.poolUsed ∧
    ∀ o : Nat, t.reg o = if o ∈ [at_ 0x070 0x114, at_ 0x070 0x118] then resetValue o else s.reg o) ∧
  (∀ (src : Source) (p : PortId) (s : State), s.Takes src (portPage p) 0x014 → Answers (.portCntClr src p) s fun t =>
    Only [.regs] s t ∧
    ∀ o : Nat, t.reg o = if o ∈ [at_ (portPage p) 0x118, at_ (portPage p) 0x11C] then resetValue o else s.reg o) ∧
  (∀ (src : Source) (n : PortId) (s : State), s.Takes src (huskPage n) 0x014 → s.Canonical →
    Answers (.huskCntClr src n) s fun t => Only [.regs] s t ∧
      RegsBut [at_ (huskPage n) 0x14C, at_ (huskPage n) 0x140] s t ∧ t.reg (at_ (huskPage n) 0x14C) = 0 ∧
      t.fld (at_ (huskPage n) 0x140) 16 16 = 0 ∧
      t.fld (at_ (huskPage n) 0x140) 0 16 = s.fld (at_ (huskPage n) 0x140) 0 16) ∧
  (∀ (src : Source) (m : RegId) (s : State), s.Takes src (regionPage m) 0x014 → s.Canonical →
    Answers (.regionCntClr src m) s fun t => Only [.regs] s t ∧
      RegsBut [at_ (regionPage m) 0x118, at_ (regionPage m) 0x10C] s t ∧ t.reg (at_ (regionPage m) 0x118) = 0 ∧
      t.fld (at_ (regionPage m) 0x10C) 16 16 = 0 ∧
      t.fld (at_ (regionPage m) 0x10C) 0 16 = s.fld (at_ (regionPage m) 0x10C) 0 16) ∧
  (∀ (src : Source) (ch : ChId) (s : State), s.Takes src (dmchPage ch) 0x014 → Answers (.dmchCntClr src ch) s fun t =>
    Only [.regs] s t ∧ ∀ o : Nat, t.reg o = if o = at_ (dmchPage ch) 0x058 then 0 else s.reg o) ∧
  (∀ (src : Source) (e : DmId) (s : State), s.Takes src (dmPage e) 0x014 → Answers (.dmCntClr src e) s fun t =>
    Only [.regs, .dms] s t ∧ AllBut e s.dms t.dms ∧ t.dms[e].ram = s.dms[e].ram ∧
    ∀ o : Nat, t.reg o = if o ∈ [at_ (dmPage e) 0x114, at_ (dmPage e) 0x118,
      at_ (dmPage e) 0x11C] then 0 else s.reg o) ∧
  (∀ (src : Source) (k : CfId) (s : State), s.Takes src (cfPage k) 0x014 → Answers (.cfCntClr src k) s fun t =>
    Only [.regs, .cfs] s t ∧ AllBut k s.cfs t.cfs ∧ t.cfs[k] = { s.cfs[k] with peak := s.cfs[k].words.length } ∧
    ∀ o : Nat, t.reg o = if o ∈ [at_ (cfPage k) 0x034, at_ (cfPage k) 0x038,
      at_ (cfPage k) 0x03C] then 0 else s.reg o) ∧
  (∀ (src : Source) (s : State), s.Takes src 0 0x014 → Answers (.globalCntClr src) s fun t => Only [.regs] s t ∧
    ∀ o : Nat, t.reg o = if o ∈ [at_ 0 0x114, at_ 0 0x118, at_ 0 0x120, at_ 0 0x124] then 0 else s.reg o) ∧
  (∀ (src : Source) (s : State), s.Takes src 3 0x014 → Answers (.pwrdomCntClr src) s fun t => Only [.doms] s t ∧
    ∀ d : DomId, t.doms[d] = { s.doms[d] with fails := 0, entries := 0 }) ∧
  (∀ (src : Source) (s : State), s.Takes src 5 0x014 → s.Canonical → Answers (.estClr src) s fun t =>
    Only [.regs] s t ∧ RegsBut [at_ 5 0x018, at_ 5 0x110] s t ∧ t.flag (at_ 5 0x018) 0 = false ∧
    t.reg (at_ 5 0x110) = 0) ∧
  (∀ (src : Source) (s : State), s.Takes src 4 0x014 → Answers (.dataRst src) s fun t => Only [.fw] s t ∧
    t.fw = { s.fw with ptr := 0 })

/-- A write of SQ_DB that reaches an enabled queue pair is accepted exactly if v < 2N, (v - SQ_HEAD) mod 2N is at most
N and not below (tail - SQ_HEAD) mod 2N. An accepted value becomes the tail and changes nothing else; any other value
changes only DB_RANGE, which it sets. To a queue pair that is not enabled a write of SQ_DB or a push changes only
DB_OFF, which it sets; a write of CQ_DB never sets it. (spec/02_queue_pairs_and_doorbells.md R62,
spec/02_queue_pairs_and_doorbells.md R64) -/
def Obligations.SqDoorbell : Prop :=
  ∀ (via : Source) (q : QpId) (v : Word) (s : State), s.Takes via (qpPage q) 0x130 → s.Canonical →
    (s.qpEn q = true →
      let n := s.sqN q
      let x := bits v.toNat 0 17
      let ok := x < 2 * n ∧ ringDist n (s.sqHead q) x ≤ n ∧
        ringDist n (s.sqHead q) s.qps[q].tail ≤ ringDist n (s.sqHead q) x
      (ok → Answers (.sqDbWrite via q v) s fun t => Only [.qps] s t ∧ AllBut q s.qps t.qps ∧
        t.qps[q] = { s.qps[q] with tail := x }) ∧
      (¬ ok → Answers (.sqDbWrite via q v) s fun t => Only [.regs] s t ∧ RegsBut [at_ (qpPage q) 8] s t ∧
        Causes s t (qpPage q) [1])) ∧
    (s.qpEn q = false →
      (Answers (.sqDbWrite via q v) s fun t => Only [.regs] s t ∧ RegsBut [at_ (qpPage q) 8] s t ∧
        Causes s t (qpPage q) [2]) ∧
      ∀ (ofs size : Nat) (data : BitVec 512), pushSizeOk ofs size = true →
        Answers (.pushWrite via q ofs size data) s fun t => Only [.regs] s t ∧ RegsBut [at_ (qpPage q) 8] s t ∧
          Causes s t (qpPage q) [2]) ∧
    (s.Takes via (qpPage q) 0x138 → Answers (.cqDbWrite via q v) s fun t =>
      t.flag (at_ (qpPage q) 8) 2 = s.flag (at_ (qpPage q) 8) 2)

/-- A write of CQ_DB is accepted exactly if v < 2N and (v - head) mod 2N is at most (CQ_TAIL - head) mod 2N: the head
becomes v, the slots between the old and the new head are no longer occupied, and nothing else changes. Any other
value changes only DB_RANGE, which it sets. The rule holds whether or not the queue pair is enabled.
(spec/02_queue_pairs_and_doorbells.md R63) -/
def Obligations.CqDoorbell : Prop :=
  ∀ (via : Source) (q : QpId) (v : Word) (s : State), s.Takes via (qpPage q) 0x138 → s.Canonical →
    let n := s.cqN q
    let x := bits v.toNat 0 17
    let head := s.qps[q].cqHead
    let ok := x < 2 * n ∧ ringDist n head x ≤ ringDist n head s.qps[q].cqTail
    (ok → Answers (.cqDbWrite via q v) s fun t => Only [.qps] s t ∧ AllBut q s.qps t.qps ∧
      t.qps[q] = { s.qps[q] with cqHead := x } ∧
      t.cqFree q = n - (ringDist n head s.qps[q].cqTail - ringDist n head x)) ∧
    (¬ ok → Answers (.cqDbWrite via q v) s fun t => Only [.regs] s t ∧ RegsBut [at_ (qpPage q) 8] s t ∧
      Causes s t (qpPage q) [1])

/-- A push of wrong size or alignment sets only PUSH_SIZE, one to a queue pair that is not enabled only DB_OFF, one
whose doorbell value is refused only DB_RANGE. An accepted push advances the tail by its entries; they join the push
buffer where it has room for all of them and are counted as taken, else they are counted as missed. The oldest pushed
entry is stored as an item when every lower index is and back-pressure lets it; a staged item, the oldest first, once
it lets that; after the last one the queue pair halts where the read behind them had failed.
(spec/02_queue_pairs_and_doorbells.md R77, spec/02_queue_pairs_and_doorbells.md R78,
spec/02_queue_pairs_and_doorbells.md R79, spec/02_queue_pairs_and_doorbells.md R64,
spec/02_queue_pairs_and_doorbells.md R75, spec/03_dispatch_scheduler.md R120, spec/02_queue_pairs_and_doorbells.md
R71, spec/03_dispatch_scheduler.md R124, spec/02_queue_pairs_and_doorbells.md R76) -/
def Obligations.Pushes : Prop :=
  (∀ (via : Source) (q : QpId) (ofs size : Nat) (data : BitVec 512) (s : State), s.Takes via (qpPage q) 0x130 →
    s.Canonical →
    let good := (size = 32 ∨ size = 64) ∧ ofs % size = 0
    let k := size / 32
    let n := s.sqN q
    let v := (s.qps[q].tail + k) % (2 * n)
    let fits := s.dbOk q v = true ∧ ringDist n (s.sqHead q) s.qps[q].tail + k ≤ n
    let es := [(s.qps[q].tail, (data.setWidth 256 : Entry)), ((s.qps[q].tail + 1) % (2 * n),
      (data >>> 256).setWidth 256)].take k
    (¬ good → Answers (.pushWrite via q ofs size data) s fun t =>
      Only [.regs] s t ∧ RegsBut [at_ (qpPage q) 8] s t ∧ Causes s t (qpPage q) [3]) ∧
    (good → s.qpEn q = false → Answers (.pushWrite via q ofs size data) s fun t =>
      Only [.regs] s t ∧ RegsBut [at_ (qpPage q) 8] s t ∧ Causes s t (qpPage q) [2]) ∧
    (good → s.qpEn q = true → ¬ fits → Answers (.pushWrite via q ofs size data) s fun t =>
      Only [.regs] s t ∧ RegsBut [at_ (qpPage q) 8] s t ∧ Causes s t (qpPage q) [1]) ∧
    (good → s.qpEn q = true → fits → s.qps[q].push.length + k ≤ 4 →
      Answers (.pushWrite via q ofs size data) s fun t => Only [.regs, .qps] s t ∧ AllBut q s.qps t.qps ∧
        t.qps[q] = { s.qps[q] with tail := v, push := s.qps[q].push ++ es } ∧ RegsBut [at_ (qpPage q) 0x14C] s t ∧
        t.reg (at_ (qpPage q) 0x14C) = s.reg (at_ (qpPage q) 0x14C) + BitVec.ofNat 32 k) ∧
    (good → s.qpEn q = true → fits → 4 < s.qps[q].push.length + k →
      Answers (.pushWrite via q ofs size data) s fun t => Only [.regs, .qps] s t ∧ AllBut q s.qps t.qps ∧
        t.qps[q] = { s.qps[q] with tail := v } ∧ RegsBut [at_ (qpPage q) 0x150] s t ∧
        t.reg (at_ (qpPage q) 0x150) = s.reg (at_ (qpPage q) 0x150) + BitVec.ofNat 32 k)) ∧
  (∀ (q : QpId) (e : Entry) (rest : List (Nat × Entry)) (s : State), s.held = false → s.fatal = false →
    s.rootOn domSCHED = true →
    s.qpEn q = true → s.qps[q].halted = false → s.qps[q].fetch = none → s.qps[q].staged = [] →
    s.qps[q].push = (s.qps[q].fetchPtr, e) :: rest →
    (s.pressure q = .free ∨ (s.pressure q = .maintOnly ∧ maintEntry e = true)) → s.Canonical →
    Answers (.pushBufferStore q) s fun t => Stored s t q true e [] ∧ AllBut q s.qps t.qps ∧
      t.qps[q] = { s.qps[q] with
        push := rest, fetchPtr := (s.qps[q].fetchPtr + 1) % (2 * s.sqN q) } ∧
      Only [.nextId, .ordinal, .regs, .qps, .wis, .wisPeak, .flowPeak, .pfPeak, .slices] s t ∧ RegsOf [.sched] s t) ∧
  ∀ (q : QpId) (e : Entry) (rest : List Entry) (more : List (List Entry)) (s : State),
    s.held = false → s.fatal = false →
    s.rootOn domSCHED = true → s.qps[q].staged = (e :: rest) :: more →
    (s.pressure q = .free ∨ (s.pressure q = .maintOnly ∧ maintEntry e = true)) → s.Canonical →
    Answers (.stagedEntryStore q) s fun t => Stored s t q false e rest ∧ AllBut q s.qps t.qps ∧
      Only [.nextId, .ordinal, .regs, .qps, .wis, .wisPeak, .flowPeak, .pfPeak, .slices] s t ∧
      (s.qps[q].failDue = false ∨ more ≠ [] → RegsOf [.sched] s t ∧ t.qps[q] = { s.qps[q] with
        staged := more, fetchPtr := (s.qps[q].fetchPtr + (rest.length + 1)) % (2 * s.sqN q) }) ∧
      (s.qps[q].failDue = true → more = [] → RegsOf [.sched, .qp] s t ∧ Causes s t (qpPage q) [6] ∧
        t.qps[q] = { s.qps[q] with
          staged := [], failDue := false, halted := true,
          fetchPtr := (s.qps[q].fetchPtr + (rest.length + 1)) % (2 * s.sqN q) })

/-- Enabling a disabled queue pair sets EN and starts it with its indices at 0 and nothing held, a mirror write being
due where an index was not 0; it is refused in ACORN_ONLY, which FW.CAUSE.ACORN_REFUSED shows, with CFG_BUSY while it
is not idle, and with PARK_ADMIT where the Completion Park has no room for it, and then EN stays 0. Disabling clears
EN, discards what was fetched or pushed but not stored, what waits in the staging register among it (log entry 59),
and sends every stored item that is not in SERVICE to the retire list with status ABORTED, whatever status it carried.
A write that leaves EN as it is has neither effect. In each case EVENT_Q, MIRROR_EN and NOSNOOP take the values
written; EVENT_Q written 1 clears it on every other queue pair of the owner, and EVENT_WAIT sets on an enabled queue
pair where an event of the owner waits. (spec/02_queue_pairs_and_doorbells.md R59,
spec/02_queue_pairs_and_doorbells.md R84, spec/02_queue_pairs_and_doorbells.md R90,
spec/02_queue_pairs_and_doorbells.md R94, spec/02_queue_pairs_and_doorbells.md R97,
spec/02_queue_pairs_and_doorbells.md R99, spec/13_firmware_and_settings.md R355, spec/02_queue_pairs_and_doorbells.md
R91) -/
def Obligations.QueuePairControl : Prop :=
  ∀ (c : Instr) (src : Source) (q : QpId) (v : Word) (s : State),
    (c = .qpEnable src q v ∨ c = .qpDisable src q v ∨ c = .eventQSet src q v) → s.Takes src (qpPage q) 0x014 →
    s.Canonical →
    (Answers c s fun t =>
      t.fld (at_ (qpPage q) 0x14) 1 2 = bits v.toNat 1 2 ∧ t.flag (at_ (qpPage q) 0x14) 3 = v.getLsbD 3 ∧
      (v.getLsbD 3 = true → (∀ r : QpId, r ≠ q → t.flag (at_ (qpPage r) 0x14) 3 =
          (s.flag (at_ (qpPage r) 0x14) 3 && decide (s.ownerQp r ≠ s.ownerQp q))) ∧
        (t.qpEn q = true → (∃ w ∈ s.events, s.eventOwner w.page = s.ownerQp q) → Causes s t (qpPage q) [8]))) ∧
    (v.getLsbD 0 = true → s.qpEn q = false →
      (s.fw.mc ≠ .acornOnly → s.qpIdle q = true → s.parkAdmits q = true → Answers c s fun t =>
        Only [.regs, .qps] s t ∧ RegsOf [.qp] s t ∧ (v.getLsbD 3 = false → RegsBut [at_ (qpPage q) 0x14] s t) ∧
        AllBut q s.qps t.qps ∧ t.qpEn q = true ∧
        t.qps[q] = { Qp.init with opened := true, mirrorDue := decide (s.sqHead q ≠ 0 ∨ s.qps[q].cqTail ≠ 0) }) ∧
      (s.fw.mc = .acornOnly → Answers c s fun t => Only [.regs] s t ∧ RegsOf [.qp, .fw] s t ∧ t.qpEn q = false ∧
        Causes s t 0x004 [4] ∧ (v.getLsbD 3 = false → RegsBut [at_ (qpPage q) 0x14, at_ 0x004 8] s t)) ∧
      (s.fw.mc ≠ .acornOnly → s.qpIdle q = false → Answers c s fun t => Only [.regs] s t ∧ RegsOf [.qp] s t ∧
        t.qpEn q = false ∧ Causes s t (qpPage q) [5] ∧
        (v.getLsbD 3 = false → RegsBut [at_ (qpPage q) 0x14, at_ (qpPage q) 8] s t)) ∧
      (s.fw.mc ≠ .acornOnly → s.qpIdle q = true → s.parkAdmits q = false → Answers c s fun t => Only [.regs] s t ∧
        RegsOf [.qp] s t ∧ t.qpEn q = false ∧ Causes s t (qpPage q) [7] ∧
        (v.getLsbD 3 = false → RegsBut [at_ (qpPage q) 0x14, at_ (qpPage q) 8] s t))) ∧
    (v.getLsbD 0 = false → s.qpEn q = true → Answers c s fun t =>
      Only [.regs, .qps, .wis, .ordinal] s t ∧ RegsOf [.qp, .sched] s t ∧ AllBut q s.qps t.qps ∧ t.qpEn q = false ∧
      t.qps[q] = { s.qps[q] with
        push := [], staged := [], failDue := false, fetch := none, chainWait := none, visits := 0 } ∧
      t.wis.map Item.stored = s.wis.map Item.stored ∧
      ∀ x ∈ t.wis, x.qp = q → x.inService = true ∨ (x.st = .ready ∧ x.retire = some (0x0C, 0))) ∧
    (v.getLsbD 0 = s.qpEn q → Answers c s fun t => Only [.regs] s t ∧ RegsOf [.qp] s t ∧ t.qpEn q = s.qpEn q ∧
      (v.getLsbD 3 = false → RegsBut [at_ (qpPage q) 0x14] s t))

/-- A visit of the Ring Interface Unit, where some SQ without a read outstanding is eligible and has a visit left, or
none has a visit left and one has a WEIGHT, asks for ring slots of one eligible SQ from FETCH_PTR: as many as the tail
gives and the lesser of BURST and the room under the caps lets it fetch items, in two reads where the ring wraps.
Within a round the queue pairs come in ascending number; an SQ that is not eligible loses its visits, and each takes
WEIGHT visits into a new round. A returned entry, or a chain of up to 64 entries whose end has come, with those of it
that an earlier read of the visit brought, is stored as one item if back-pressure lets it, else it waits in the
staging register behind those there, nothing being read again. The entries of a chain without an end are kept while
slots up to the tail and items of the visit are left, and the visit reads on; where the tail does not cover the end
they are not kept and wait for the tail to move. A failed read halts the SQ and sets its cause, once what was read
before it is stored. When eligibility is judged, and that an SQ with a read outstanding is passed, is the model's
choice (log entry 58). (spec/02_queue_pairs_and_doorbells.md R70, spec/02_queue_pairs_and_doorbells.md R71,
spec/02_queue_pairs_and_doorbells.md R73, spec/02_queue_pairs_and_doorbells.md R74,
spec/02_queue_pairs_and_doorbells.md R76, spec/02_queue_pairs_and_doorbells.md R69, spec/03_dispatch_scheduler.md
R120, spec/03_dispatch_scheduler.md R121, spec/03_dispatch_scheduler.md R124, spec/02_queue_pairs_and_doorbells.md
R56) -/
def Obligations.RingFetches : Prop :=
  (∀ s : State, s.held = false → s.rootOn domSCHED = true → s.fatal = false →
    ((∃ q : QpId, s.fetchOk q = true ∧ s.qps[q].fetch = none ∧ 0 < s.qps[q].visits) ∨
     ((∀ q : QpId, s.fetchOk q = true → s.qps[q].visits = 0) ∧
      ∃ q : QpId, s.fetchOk q = true ∧ s.qps[q].fetch = none ∧ 0 < s.fld (at_ (qpPage q) 0x11C) 0 5)) →
    Answers .fetchVisit s fun t => Only [.qps, .visitPtr, .reads] s t ∧ ∃ q : QpId, s.fetchOk q = true ∧
      s.qps[q].fetch = none ∧ t.visitPtr = q.val ∧
      let room := min (s.fld (at_ (qpPage q) 0x11C) 8 7) (min (s.fld (at_ (qpPage q) 0x124) 0 13 - s.sqUse q)
        (min ((if s.flag (at_ (qpPage q) 0x14) 3 then s.wisQuota (s.ownerQp q)
          else s.wisQuota (s.ownerQp q) - s.reserve (s.ownerQp q)) - s.wisUse (s.ownerQp q)) (4096 - s.wis.length)))
      let cnt := min (s.fetchable q) room
      let slot := s.qps[q].fetchPtr % s.sqN q
      let base := s.reg64 (at_ (qpPage q) 0x100)
      let read (src len : Nat) : ReadReq :=
        { kind := .ring q (BitVec.ofNat 64 src) (32 * len), owner := s.ownerQp q, noSnoop := false,
          pasid := s.pasidOf (s.ownerQp q), since := s.now }
      t.qps[q] = { s.qps[q] with
        fetch := some ⟨s.qps[q].fetchPtr, cnt, s.fetchable q - cnt, s.qps[q].tail, [], room⟩,
          visits := t.qps[q].visits } ∧
      (∀ r : QpId, r ≠ q → t.qps[r] = { s.qps[r] with visits := t.qps[r].visits }) ∧
      (∀ r : QpId, t.qps[r].visits + (if r = q then 1 else 0) =
        if s.fetchOk r = false then 0
        else if ∀ x : QpId, s.fetchOk x = true → s.qps[x].visits = 0 then s.fld (at_ (qpPage r) 0x11C) 0 5
        else s.qps[r].visits) ∧
      (∀ r : QpId, s.fetchOk r = true → s.qps[r].fetch = none → 0 < s.qps[r].visits → s.visitPtr < r.val →
        s.visitPtr < q.val ∧ q.val ≤ r.val) ∧
      t.reads = s.reads ++ (if slot + cnt ≤ s.sqN q then [read (base + 32 * slot) cnt]
        else [read (base + 32 * slot) (s.sqN q - slot), read base (cnt - (s.sqN q - slot))])) ∧
  (∀ (q : QpId) (f : Fetch) (e : Entry) (rest es : List Entry) (s : State), s.held = false → s.fatal = false →
    s.rootOn domSCHED = true → s.qps[q].fetch = some f → f.part ++ es = e :: rest → es ≠ [] → es.length = f.cnt →
    (∀ x ∈ (e :: rest).dropLast, eChain x = true) → eChain ((e :: rest).getLast?.getD e) = false →
    (rest = [] ∨ opOf (eOp e) = some .bulkOut ∨ opOf (eOp e) = some .bulkIn) → rest.length < 64 →
    (f.rest = 0 ∨ f.left ≤ 1) → s.qps[q].staged = [] → s.Canonical →
    (s.pressure q = .free ∨ (s.pressure q = .maintOnly ∧ maintEntry e = true) →
      Answers (.ringFetchDone q { entries := es, failed := false }) s fun t =>
        Stored s t q false e rest ∧ AllBut q s.qps t.qps ∧
        t.qps[q] = { s.qps[q] with
          fetch := none, fetchPtr := (s.qps[q].fetchPtr + (rest.length + 1)) % (2 * s.sqN q) } ∧
        Only [.nextId, .ordinal, .regs, .qps, .wis, .wisPeak, .flowPeak, .pfPeak, .slices] s t ∧ RegsOf [.sched] s t) ∧
    (s.pressure q = .held ∨ (s.pressure q = .maintOnly ∧ maintEntry e = false) →
      Answers (.ringFetchDone q { entries := es, failed := false }) s fun t => Only [.qps] s t ∧ AllBut q s.qps t.qps ∧
        t.qps[q] = { s.qps[q] with fetch := none, staged := [e :: rest] })) ∧
  (∀ (q : QpId) (f : Fetch) (es : List Entry) (s : State), s.held = false → s.fatal = false →
    s.rootOn domSCHED = true → s.qps[q].fetch = some f → f.part = [] → es.length = f.cnt →
    (∀ x ∈ es, eChain x = false) → (f.rest = 0 ∨ f.left ≤ es.length) → s.pressure q = .held →
    Answers (.ringFetchDone q { entries := es, failed := false }) s fun t => Only [.qps] s t ∧ AllBut q s.qps t.qps ∧
      t.qps[q] = { s.qps[q] with fetch := none, staged := s.qps[q].staged ++ es.map (fun x => [x]) }) ∧
  (∀ (q : QpId) (f : Fetch) (e : Entry) (rest es : List Entry) (s : State), s.held = false → s.fatal = false →
    s.rootOn domSCHED = true → s.qps[q].fetch = some f → f.part ++ es = e :: rest → es.length = f.cnt →
    (∀ x ∈ e :: rest, eChain x = true) → (opOf (eOp e) = some .bulkOut ∨ opOf (eOp e) = some .bulkIn) →
    rest.length < 63 →
    (f.rest = 0 → s.qps[q].push = [] → Answers (.ringFetchDone q { entries := es, failed := false }) s fun t =>
      Only [.qps] s t ∧ AllBut q s.qps t.qps ∧ t.qps[q] = { s.qps[q] with
        fetch := none
        chainWait := some ((f.idx + f.cnt + 2 * s.sqN q - (rest.length + 1)) % (2 * s.sqN q), f.tail) }) ∧
    (0 < f.rest → 0 < f.left → Answers (.ringFetchDone q { entries := es, failed := false }) s fun t =>
      Only [.qps, .reads] s t ∧ AllBut q s.qps t.qps ∧ s.reads.length < t.reads.length ∧ t.qps[q] = { s.qps[q] with
        fetch := some ⟨(f.idx + f.cnt) % (2 * s.sqN q), min f.rest f.left, f.rest - min f.rest f.left, f.tail,
          e :: rest,
          f.left⟩ })) ∧
  (∀ (q : QpId) (f : Fetch) (s : State), s.held = false → s.fatal = false → s.rootOn domSCHED = true →
    s.qps[q].fetch = some f → 0 < f.cnt → f.part.length < 64 → (∀ x ∈ f.part, eChain x = true) →
    (∀ x ∈ f.part.head?, opOf (eOp x) = some .bulkOut ∨ opOf (eOp x) = some .bulkIn) → s.Canonical →
    (s.qps[q].staged = [] → Answers (.ringFetchDone q { entries := [], failed := true }) s fun t =>
      Only [.qps, .regs] s t ∧ AllBut q s.qps t.qps ∧
      t.qps[q] = { s.qps[q] with fetch := none, failDue := false, halted := true } ∧
      RegsBut [at_ (qpPage q) 8] s t ∧ Causes s t (qpPage q) [6]) ∧
    (s.qps[q].staged ≠ [] → Answers (.ringFetchDone q { entries := [], failed := true }) s fun t =>
      Only [.qps] s t ∧ AllBut q s.qps t.qps ∧ t.qps[q] = { s.qps[q] with fetch := none, failDue := true }))

/-- Given an enabled event CQ with credit, the earliest event of a source commits: its record takes the next SEQ,
which the source's SEQ_LAST shows, and goes to the CQ, or last into the Park where the CQ is full or parks records;
the event no longer waits. The Park writes a CQ's oldest record into the next slot once one is free. A due mirror is
written at MIRROR_ADDR with the head, the tail, the SEQ and the count of mirror writes. At the coalescing count, and
at the timer, CQ_NEW sets and both restart, a mirror write that is due going first. (spec/01_device_organisation.md
R29, spec/01_device_organisation.md R48, spec/02_queue_pairs_and_doorbells.md R56,
spec/02_queue_pairs_and_doorbells.md R83, spec/02_queue_pairs_and_doorbells.md R84,
spec/02_queue_pairs_and_doorbells.md R91, spec/02_queue_pairs_and_doorbells.md R93,
spec/02_queue_pairs_and_doorbells.md R95, spec/02_queue_pairs_and_doorbells.md R440) -/
def Obligations.CommitsToHostMemory : Prop :=
  (∀ (page : Fin 512) (w : Waiting) (q : QpId) (s : State), s.held = false → s.fatal = false →
    s.rootOn domSCHED = true → s.events.find? (fun x => x.page = page.val) = some w →
    s.eventQ (s.eventOwner page.val) = some q → s.credit q ≠ 0 →
    s.recordStale (s.eventOwner page.val) (s.genOf (s.eventOwner page.val)) = false → s.Canonical →
    Answers (.eventCommit page) s fun t =>
      Only [.seq, .regs, .qps, .park, .posted, .events] s t ∧ RegsBut [at_ page.val 0x1C, at_ page.val 8] s t ∧
      t.seq = s.seq + 1 ∧ t.reg (at_ page.val 0x1C) = s.seq + 1 ∧
      t.events = s.events.filter (fun x => !(x.page == page.val && x.code == w.code)) ∧
      (s.cqFree q = 0 ∨ s.parked q ≠ 0 → t.posted = s.posted ∧ t.qps = s.qps ∧
        t.park = s.park ++ [{ qp := q, owner := s.eventOwner page.val, gen := s.genOf (s.eventOwner page.val),
                              record := eventRecord w q (s.seq + 1) }]) ∧
      (s.cqFree q ≠ 0 → s.parked q = 0 → t.park = s.park ∧ AllBut q s.qps t.qps ∧
        t.qps[q].cqTail = (s.qps[q].cqTail + 1) % (2 * s.cqN q) ∧ t.qps[q].lastCqSeq = s.seq + 1 ∧
        t.posted = s.posted ++ [{ kind := s.cqWrite q (s.qps[q].cqTail % s.cqN q) (eventRecord w q (s.seq + 1)),
                                  owner := s.eventOwner page.val, gen := s.genOf (s.eventOwner page.val),
                                  noSnoop := false, since := s.now,
                                  pasid := s.pasidOf (s.eventOwner page.val) }])) ∧
  (∀ (q : QpId) (r : Parked) (s : State), s.held = false → s.fatal = false → s.rootOn domSCHED = true →
    s.park.find? (fun x => x.qp = q) = some r → s.cqFree q ≠ 0 →
    (s.recordStale r.owner r.gen = false → r.gen = s.genOf r.owner → Answers (.parkWrite q) s fun t =>
      Only [.park, .qps, .posted] s t ∧ t.park = s.park.erase r ∧ AllBut q s.qps t.qps ∧
      t.qps[q].cqTail = (s.qps[q].cqTail + 1) % (2 * s.cqN q) ∧
      t.qps[q].coalCount = (if s.coalMax q ≤ s.qps[q].coalCount + 1 then 0 else s.qps[q].coalCount + 1) ∧
      (s.coalMax q ≤ s.qps[q].coalCount + 1 → t.qps[q].coalHit = true ∧ t.qps[q].coalStart = none) ∧
      t.posted = s.posted ++ [{ kind := s.cqWrite q (s.qps[q].cqTail % s.cqN q) r.record, owner := r.owner,
                                gen := r.gen, noSnoop := false, since := s.now, pasid := s.pasidOf r.owner }]) ∧
    (∀ i : SliceId, r.owner = some i → s.recordStale r.owner r.gen = true → s.Canonical →
      Answers (.parkWrite q) s fun t => Only [.park, .regs] s t ∧ t.park = s.park.erase r ∧
        RegsBut [at_ (slicePage i) 0x148, at_ (slicePage i) 8] s t ∧ Causes s t (slicePage i) [9])) ∧
  (∀ (q : QpId) (s : State), s.held = false → s.fatal = false → s.rootOn domSCHED = true → s.qps[q].mirrorDue = true →
    s.flag (at_ (qpPage q) 0x14) 1 = true → s.recordStale (s.ownerQp q) (s.genOf (s.ownerQp q)) = false →
    Answers (.mirrorWrite q) s fun t => Only [.qps, .posted] s t ∧ AllBut q s.qps t.qps ∧
      t.qps[q] = { s.qps[q] with mirrorDue := false, mirrorWrites := s.qps[q].mirrorWrites + 1 } ∧
      t.posted = s.posted ++
        [{ kind := .mirror q (BitVec.ofNat 64 (s.reg64 (at_ (qpPage q) 0x110)))
             (mirrorRecord (s.sqHead q) s.qps[q].cqTail s.qps[q].lastCqSeq (s.qps[q].mirrorWrites + 1)),
           owner := s.ownerQp q, gen := s.genOf (s.ownerQp q), noSnoop := false, since := s.now,
           pasid := s.pasidOf (s.ownerQp q) }]) ∧
  (∀ (c : Instr) (q : QpId) (s : State), s.held = false → s.rootOn domSCHED = true → s.Canonical →
    ((c = .coalCountReached q ∧ (s.coalMax q ≤ s.qps[q].coalCount ∨ s.qps[q].coalHit = true)) ∨
     (c = .coalTimerExpiry q ∧ s.fld (at_ (qpPage q) 0x128) 8 16 ≠ 0 ∧ s.qps[q].coalStart.isSome = true)) →
    Answers c s fun t => Causes s t (qpPage q) [0] ∧ t.qps[q].coalHit = false ∧
      (c = .coalTimerExpiry q ∨ s.coalMax q ≤ s.qps[q].coalCount →
        t.qps[q].coalCount = 0 ∧ t.qps[q].coalStart = none) ∧
      (c = .coalCountReached q → s.qps[q].coalCount < s.coalMax q →
        t.qps[q].coalCount = s.qps[q].coalCount ∧ t.qps[q].coalStart = s.qps[q].coalStart) ∧
      (s.qps[q].mirrorDue = false ∨ s.flag (at_ (qpPage q) 0x14) 1 = false →
        Only [.qps, .regs] s t ∧ AllBut q s.qps t.qps ∧ RegsBut [at_ (qpPage q) 8] s t ∧
        t.qps[q] = { s.qps[q] with
          coalCount := t.qps[q].coalCount, coalHit := false, coalStart := t.qps[q].coalStart }) ∧
      (s.fatal = false → s.qps[q].mirrorDue = true → s.flag (at_ (qpPage q) 0x14) 1 = true →
        s.recordStale (s.ownerQp q) (s.genOf (s.ownerQp q)) = false →
        Only [.qps, .regs, .posted] s t ∧ AllBut q s.qps t.qps ∧ RegsBut [at_ (qpPage q) 8] s t ∧
        t.qps[q] = { s.qps[q] with
          coalCount := t.qps[q].coalCount, coalHit := false, coalStart := t.qps[q].coalStart, mirrorDue := false,
          mirrorWrites := s.qps[q].mirrorWrites + 1 } ∧
        t.posted = s.posted ++
          [{ kind := .mirror q (BitVec.ofNat 64 (s.reg64 (at_ (qpPage q) 0x110)))
               (mirrorRecord (s.sqHead q) s.qps[q].cqTail s.qps[q].lastCqSeq (s.qps[q].mirrorWrites + 1)),
             owner := s.ownerQp q, gen := s.genOf (s.ownerQp q), noSnoop := false, since := s.now,
             pasid := s.pasidOf (s.ownerQp q) }]))

/-- Placement puts an eligible item into an empty Pip: a periodic one if any is eligible, else a guarded one if any is
eligible, else one of no higher effective rank than the head of any ready list; the engine could start it at once if
any empty one could, and then has the fewest items in SERVICE of those. An engine that takes its Pip item returns it
to READY, ends it, or puts it into SERVICE as the port's acceptance table says; a MAINT item takes no slot, a transfer
the lowest free one. Recall returns a CONTROL or BULK item to READY, before the head of its list, where another engine
with an empty Pip could start it. The retire list is served in its order, items without credit left aside. Where an
item that waits stands in its list, and that a port opcode counts in SERVICE until its record commits, are the model's
choices (log entry 60). (spec/03_dispatch_scheduler.md R107, spec/03_dispatch_scheduler.md R108,
spec/03_dispatch_scheduler.md R109, spec/03_dispatch_scheduler.md R110, spec/03_dispatch_scheduler.md R111,
spec/03_dispatch_scheduler.md R112, spec/03_dispatch_scheduler.md R113, spec/05_root_ports.md R166,
spec/02_queue_pairs_and_doorbells.md R58, spec/04_transfer_engines_and_endpoints.md R131, spec/09_slices.md R275) -/
def Obligations.DispatchOfItems : Prop :=
  (∀ s : State, s.held = false → s.fatal = false → s.fw.paused = false → s.rootOn domSCHED = true →
    (∃ it ∈ s.wis, s.eligible it = true) → (∃ e : EngId, s.pipItem e = none) →
    Answers .pipPlacement s fun t => Only [.wis, .regs, .perPtr, .rrPtr] s t ∧ RegsOf [.sched] s t ∧
      ∃ it ∈ s.wis, s.eligible it = true ∧ OthersKept s t it.id ∧
        ((∃ x ∈ s.wis, s.eligible x = true ∧ x.op.isPeriodic = true) → it.op.isPeriodic = true) ∧
        (it.op.isPeriodic = false → (∃ x ∈ s.wis, s.eligible x = true ∧ s.isGuarded x = true) → s.isGuarded it = true) ∧
        (it.op.isPeriodic = false → (∀ x ∈ s.wis, s.eligible x = true → s.isGuarded x = false) →
          ∀ x ∈ s.wis, s.eligible x = true →
            (∀ y ∈ s.wis, s.eligible y = true → y.port = x.port → y.op.cls = x.op.cls → y ≠ x →
              x.readyNo < y.readyNo) → s.rank it ≤ s.rank x) ∧
        ∃ e : EngId, s.pipItem e = none ∧ t.Has it.id (fun x => x.st = .pip e ∧ x.pipAt = s.now ∧
            x.noSnoop = s.flag (at_ (qpPage it.qp) 0x14) 2) ∧
          ((∃ f : EngId, s.pipItem f = none ∧ s.couldStart f it.op = true) → s.couldStart e it.op = true ∧
            ∀ f : EngId, s.pipItem f = none → s.couldStart f it.op = true → s.inSvc e ≤ s.inSvc f)) ∧
  (∀ (e : EngId) (it : Item) (s : State), s.held = false → s.fatal = false → s.fw.paused = false →
    s.rootOn domSCHED = true → s.pipItem e = some it →
    (s.itemVerdict it = .wait → Answers (.engineTake e) s fun t => Only [.wis] s t ∧ OthersKept s t it.id ∧
      t.Has it.id (fun x => x = { it with st := .ready })) ∧
    (∀ st d : Nat, s.itemVerdict it = .ends st d → s.Live it → it.listDone → s.Canonical → Answers (.engineTake e) s fun t =>
      Ended s t it st d 0 s.posted ∧
      Only [.ordinal, .regs, .seq, .qps, .wis, .park, .ctxs, .closed, .posted] s t ∧ RegsOf [.qp, .sched] s t) ∧
    (s.itemVerdict it = .run → s.couldStart e it.op = true → Answers (.engineTake e) s fun t =>
      Only [.wis, .regs, .reads] s t ∧ RegsOf [.sched, .te] s t ∧ OthersKept s t it.id ∧
      t.reads = (if (it.op.isTransfer || it.op.isEpOp) && !s.ctxCached it then (s.askTable it).reads else s.reads) ∧
      t.Has it.id (fun x => x.st = .service e (if it.op.isMaint then none else s.freeSlot e) ∧ x.svcAt = s.now ∧
        x.x.running = false ∧ x.x.done = 0 ∧ x.x.powerOk = s.powerAllowed it ∧
        x.x.ctxReady = (!(it.op.isTransfer || it.op.isEpOp) || s.ctxCached it))) ∧
    (s.itemVerdict it = .run → s.couldStart e it.op = false → Answers (.engineTake e) s fun t => Only [] s t)) ∧
  (∀ (e f : EngId) (it : Item) (s : State), s.held = false → s.fatal = false → s.pipItem e = some it → f ≠ e →
    (it.op.isBulk = true ∨ it.op = .control) → s.pipItem f = none → s.couldStart f it.op = true → s.Canonical →
    Answers (.pipRecall e) s fun t => Only [.wis, .regs] s t ∧ OthersKept s t it.id ∧
      t.Has it.id (fun x => x = { it with st := .ready, readyNo := x.readyNo } ∧
        ∀ y ∈ s.wis, y.st = .ready → y.retiring = false → y.port = it.port → y.op.cls = it.op.cls →
          x.readyNo < y.readyNo) ∧ RegsBut [at_ 0x050 0x124] s t ∧
      t.reg (at_ 0x050 0x124) = s.reg (at_ 0x050 0x124) + 1) ∧
  (∀ (it : Item) (s : State), s.held = false → s.fatal = false → s.rootOn domSCHED = true → it ∈ s.wis →
    it.st = .ready → it.retiring = true → 1 ≤ s.credit it.qp → s.Live it → it.listDone → s.Canonical →
    (∀ x ∈ s.wis, x ≠ it → x.st = .ready → x.retiring = true → 1 ≤ s.credit x.qp → it.readyNo < x.readyNo) →
    Answers .retireListService s fun t =>
      Ended s t it (it.retire.getD (0, 0)).1 (it.retire.getD (0, 0)).2 it.xferLen s.posted ∧
      Only [.ordinal, .regs, .seq, .qps, .wis, .park, .ctxs, .closed, .posted] s t ∧ RegsOf [.qp, .sched] s t)

/-- A waiting periodic item is released to READY for its service; an isochronous one whose packets have all passed
goes to the retire list as MISSED_SERVICE 2. At a service cut-off the port is past its cut-off, and an interrupt item
released for this boundary that is not in SERVICE, be it READY or in a Pip, goes to the retire list as MISSED_SERVICE:
3 while dispatch is paused, else 4 while the port drains for suspend, else 1. Each miss counts once in PER_MISS_COUNT.
Aging marks a READY non-periodic item older than AGE_LIMIT, and guards one older than 4 times that. The end of a
counter window latches every engine's figures and counts, and the measured word-clock frequencies, those of the latest
readings, show (log entry 68). (spec/03_dispatch_scheduler.md R108, spec/03_dispatch_scheduler.md R115,
spec/03_dispatch_scheduler.md R116, spec/03_dispatch_scheduler.md R126, spec/06_frame_timing.md R212) -/
def Obligations.ReleaseAgeAndWindows : Prop :=
  (∀ (it : Item) (p : PortId) (s : State), s.held = false → s.fatal = false → s.rootOn domTIME = true →
    s.item? it.id = some it → it.st = .frameWait → portId? it.port = some p →
    (s.isoPassed it = false → Answers (.periodicRelease it.id) s fun t => Only [.wis, .ordinal] s t ∧
      OthersKept s t it.id ∧ t.Has it.id (fun x => x.st = .ready ∧ x.readyAt = s.now ∧ x.retire = it.retire ∧
        x.cutoffAt = (s.services p it).2)) ∧
    (s.isoPassed it = true → s.Canonical → Answers (.periodicRelease it.id) s fun t =>
      Only [.wis, .ordinal, .regs] s t ∧ RegsOf [.sched] s t ∧ Causes s t 0x050 [4] ∧
      t.wis.map Item.stored = s.wis.map Item.stored ∧
      ((s.wis.map (fun x => x.id)).Nodup → it.retire = none →
        t.reg (at_ 0x050 0x120) = s.reg (at_ 0x050 0x120) + BitVec.ofNat 32
          ((t.wis.filter (fun x => x.retire.isSome)).length - (s.wis.filter (fun x => x.retire.isSome)).length)) ∧
      t.Has it.id (fun x => x.st = .ready ∧ x.retire = some (6, 2)))) ∧
  (∀ (p : PortId) (s : State), s.held = false → s.fatal = false → s.rootOn domTIME = true → s.Canonical →
    Answers (.serviceCutoff p) s fun t => Only [.wis, .ordinal, .regs, .ports] s t ∧ RegsOf [.sched] s t ∧
      AllBut p s.ports t.ports ∧ t.ports[p] = { s.ports[p] with cutPassed := true } ∧
      t.wis.map Item.stored = s.wis.map Item.stored ∧
      ((s.wis.map (fun x => x.id)).Nodup →
        t.reg (at_ 0x050 0x120) = s.reg (at_ 0x050 0x120) + BitVec.ofNat 32
          ((t.wis.filter (fun x => x.retire.isSome)).length - (s.wis.filter (fun x => x.retire.isSome)).length)) ∧
      ∀ it ∈ s.wis, (∀ x ∈ s.wis, x.id = it.id → x = it) → it.port = p.val → it.op.isIntr = true →
        it.retire = none → it.ending = none → (it.st = .ready ∨ ∃ e : EngId, it.st = .pip e) →
        it.cutoffAt ≤ s.clks[p].count →
        Causes s t 0x050 [4] ∧ t.Has it.id (fun x => x.st = .ready ∧
          x.retire = some (6, if s.fw.paused then 3 else if s.ports[p].suspPend then 4 else 1))) ∧
  (∀ (id : Nat) (s : State), s.held = false →
    (Answers (.agePromotion id) s fun t => Only [.wis] s t ∧ t.wis = s.wis.map (fun x =>
      if x.id = id ∧ x.st = .ready ∧ x.retiring = false ∧ x.op.isPeriodic = false ∧
        s.fld (at_ 0x050 0x100) 0 32 < s.usSince x.readyAt then { x with aged := true } else x)) ∧
    Answers (.ageGuard id) s fun t => Only [.wis] s t ∧ t.wis = s.wis.map (fun x =>
      if x.id = id ∧ x.st = .ready ∧ x.retiring = false ∧ x.op.isPeriodic = false ∧
        4 * s.fld (at_ 0x050 0x100) 0 32 < s.usSince x.readyAt then
        { x with aged := true, guarded := true } else x)) ∧
  ∀ s : State, s.timeRuns = true → s.rootOn domSCHED = true → s.ctl.windowOff = false →
    s.Canonical → Answers .counterWindowEnd s fun t => Only [.engs, .regs] s t ∧
      RegsBut [at_ 0x050 0x12C, at_ 5 0x130, at_ 5 0x134, at_ 5 0x138, at_ 5 0x13C] s t ∧
      t.reg (at_ 0x050 0x12C) = s.reg (at_ 0x050 0x12C) + 1 ∧
      (∀ i : Fin 4, t.reg (at_ 5 (0x130 + 4 * i.val)) = s.ctl.awclk[i]) ∧
      ∀ e : EngId, t.engs[e] = { busy := 0, occ := 0, lastBusy := s.engs[e].busy, lastOcc := s.engs[e].occ }

/-- A context read that returns, of the context at block + (EP × 2 + DIR) × 32, readies its item, and the cache then
holds its endpoint; one that failed ends it with HOST_MEM and reason 0x03 and sets TE.CAUSE.CTX_ERR, and one whose
device entry is not valid ends it with reason 0x04; a CONTROL item carries its stage in DETAIL. CTX_FLUSH written 1
starts the flush; its end leaves every context as it was but clean, writes each dirty one of its owner's present
generation to its address in host memory, in their order and behind the writes that wait, and moves nothing else.
(spec/04_transfer_engines_and_endpoints.md R131, spec/04_transfer_engines_and_endpoints.md R132,
spec/04_transfer_engines_and_endpoints.md R133, spec/04_transfer_engines_and_endpoints.md R134,
spec/04_transfer_engines_and_endpoints.md R145, spec/04_transfer_engines_and_endpoints.md R161) -/
def Obligations.ContextReadsAndFlush : Prop :=
  (∀ (id : Nat) (it : Item) (s : State),
    s.serving id = some it → it.x.ctxReady = false → s.Live it → it.listDone → s.Canonical →
    (Answers (.contextReadDone id .failed) s fun t => Ended s t it 5 (it.detail 3) 0 s.posted ∧ Causes s t 0x060 [2] ∧
      Only [.ordinal, .regs, .seq, .qps, .wis, .park, .ctxs, .closed, .posted] s t ∧ RegsOf [.qp, .sched, .te] s t) ∧
    (Answers (.contextReadDone id .notValid) s fun t => Ended s t it 5 (it.detail 4) 0 s.posted ∧
      Only [.ordinal, .regs, .seq, .qps, .wis, .park, .ctxs, .closed, .posted] s t ∧ RegsOf [.qp, .sched] s t) ∧
    ∀ (b : BitVec 54) (w : Entry) (p : PortId), portId? it.port = some p →
      Answers (.contextReadDone id (.ok b w)) s fun t => Only [.wis, .ctxs, .closed, .posted, .regs, .reads] s t ∧
      t.reads = s.reads ++ [{ kind := .context (BitVec.ofNat 64 (b.toNat * 1024 + (eEp it.entry * 2 + b2n it.keyDir) * 32)),
                              owner := it.owner, noSnoop := false, pasid := s.pasidOf it.owner, since := s.now }] ∧
                                RegsOf [.slice] s t ∧ OthersKept s t id ∧
      t.Has id (fun x => x.x = { it.x with ctxReady := true } ∧ x.st = it.st) ∧ t.ctxCached it = true) ∧
  (∀ (src : Source) (s : State), s.Takes src 0x060 0x014 → Answers (.ctxFlush src) s fun t =>
    Only [] { s with flushing := true } t) ∧
  (∀ s : State, s.flushing = true → s.held = false → s.fatal = false → Answers .ctxFlushDone s fun t =>
    Only [.flushing, .ctxs, .posted, .regs] s t ∧ RegsOf [.slice] s t ∧ t.flushing = false ∧
    t.ctxs = s.ctxs.map (fun x => { x with dirty := false }) ∧
    t.posted = s.posted ++ (s.ctxs.filter (fun x => x.dirty && decide (x.gen = s.genOf x.owner))).map (fun x =>
      { kind := .context (ctxAddr x.block x.ep x.dir) x.port x.addr x.ep x.dir (ctxDw x), owner := x.owner,
         gen := x.gen, noSnoop := false, since := s.now, pasid := s.pasidOf x.owner }))

/-- A CONTROL, BULK, INTERRUPT or ISOCHRONOUS item in SERVICE whose context is loaded starts: it runs, and its context
is in use; the packet list of an isochronous item is asked for, and the first packet of a BULK OUT item where the
shared pool has a granule for it. It ends at once with STALL and reason 0x02 where its endpoint is closed, with STALL
and reason 0x01 where it is HALTED, and with BAD_ENTRY 0x05 where a segment before the last of its chain is no
multiple of the maximum packet size; a CONTROL item carries its stage in DETAIL. An opcode of another type than its
endpoint was opened with runs as that opcode, which is the model's choice (log entry 69).
(spec/01_device_organisation.md R30, spec/02_queue_pairs_and_doorbells.md R69,
spec/04_transfer_engines_and_endpoints.md R140, spec/04_transfer_engines_and_endpoints.md R143,
spec/04_transfer_engines_and_endpoints.md R144, spec/04_transfer_engines_and_endpoints.md R145,
spec/04_transfer_engines_and_endpoints.md R146, spec/04_transfer_engines_and_endpoints.md R147,
spec/04_transfer_engines_and_endpoints.md R148, spec/04_transfer_engines_and_endpoints.md R153) -/
def Obligations.TransfersStart : Prop :=
  ∀ (c : Instr) (id : Nat) (o : Op) (it : Item) (s : State),
    ((c = .control id ∧ o = .control) ∨ (c = .bulkOut id ∧ o = .bulkOut) ∨ (c = .bulkIn id ∧ o = .bulkIn) ∨
     (c = .intrOut id ∧ o = .intrOut) ∨ (c = .intrIn id ∧ o = .intrIn) ∨ (c = .isocOut id ∧ o = .isocOut) ∨
     (c = .isocIn id ∧ o = .isocIn)) →
    s.serving id = some it → it.op = o → it.x.ctxReady = true → it.x.running = false → s.Canonical →
    (∀ x : Ctx, s.ctxOf it = some x → x.halted = false →
      (∀ n ∈ (eLength it.entry :: it.segs.map (fun g => g.2)).dropLast, n % x.mps = 0) →
      Answers c s fun t => Only [.wis, .ctxs, .reads, .regs, .poolPeak, .poolWaits] s t ∧ RegsOf [.ebr] s t ∧
        OthersKept s t id ∧ t.Has id (fun y => y.x.running = true ∧ y.st = it.st ∧ y.x.done = it.x.done) ∧
        t.ctxs.map (fun y => { y with used := 0 }) = s.ctxs.map (fun y => { y with used := 0 }) ∧
        (o = .bulkIn ∨ o = .intrIn → Only [.wis, .ctxs] s t) ∧
        (o.isIsoc = true → Only [.wis, .ctxs, .reads] s t ∧ t.reads = s.reads ++
          [{ kind := .pktList (BitVec.ofNat 64 (ePktList it.entry)) (8 * ePktCount it.entry), owner := it.owner,
             noSnoop := false, pasid := s.pasidOf it.owner, since := s.now }]) ∧
        (o = .bulkOut → it.x = { Xfer.init with ctxReady := true, nextSvc := it.x.nextSvc, powerOk := it.x.powerOk } →
          it.ending = none → 0 < it.length → s.poolUsed < s.poolSize → Only [.wis, .ctxs, .reads, .poolPeak] s t ∧
          t.reads = s.reads ++ [{ kind := .data (it.dataAddr 0) (min x.mps it.length), owner := it.owner,
                                  noSnoop := it.noSnoop, pasid := s.pasidOf it.owner, since := s.now }])) ∧
    (s.Live it → it.listDone →
      (s.ctxOf it = none → Answers c s fun t => Ended s t it 2 (it.detail 2) 0 s.posted ∧
        Only [.ordinal, .regs, .seq, .qps, .wis, .park, .ctxs, .closed, .posted] s t ∧ RegsOf [.qp, .sched] s t) ∧
      (∀ x : Ctx, s.ctxOf it = some x → x.halted = true → Answers c s fun t =>
        Ended s t it 2 (it.detail 1) 0 s.posted ∧
        Only [.ordinal, .regs, .seq, .qps, .wis, .park, .ctxs, .closed, .posted] s t ∧ RegsOf [.qp, .sched] s t) ∧
      ∀ x : Ctx, s.ctxOf it = some x → x.halted = false →
        (∃ n ∈ (eLength it.entry :: it.segs.map (fun g => g.2)).dropLast, n % x.mps ≠ 0) → Answers c s fun t =>
          Ended s t it 9 5 0 s.posted ∧
          Only [.ordinal, .regs, .seq, .qps, .wis, .park, .ctxs, .closed, .posted] s t ∧ RegsOf [.qp, .sched] s t)

/-- EP_OPEN ends with BAD_ENTRY 0x08 where the hub address and DEV_SPEED do not fit the port, with 0x06 for a
combination that is not allowed, a split isochronous packet above its limit included. Else a CONTROL or BULK endpoint
opens: the context is OPEN with toggle DATA0 and no claim. For a periodic one the placement is that of the lowest
highest load on the root port, the first of PHASE and SPLIT_Y winning ties (that the translator takes no part in it is
the model's choice, log entry 22). It ends with NO_BANDWIDTH 0x01 where no placement keeps every index it uses within
the limit of the port, 48,000 or 10,800, with 0x02 where a frame of its translator would pass 10,800, with NO_BUFFER
0x01 where the granules go beyond the pool's rest and 0x02 where beyond the owner's quota; else it opens there with
its charge and granules. Behind a hub the speed is DEV_SPEED. EP_CLOSE removes the context with its claim and writes
it CLOSED; toggle reset and halt clear change that bit alone, or end with STALL 0x02 where the endpoint is closed.
Where the cache is full another context leaves it to make room and stays open. NOP and FENCE_MARK end OK at the head
of the retire list. (spec/02_queue_pairs_and_doorbells.md R68, spec/03_dispatch_scheduler.md R113,
spec/04_transfer_engines_and_endpoints.md R135, spec/04_transfer_engines_and_endpoints.md R136,
spec/04_transfer_engines_and_endpoints.md R137, spec/04_transfer_engines_and_endpoints.md R138,
spec/04_transfer_engines_and_endpoints.md R139, spec/04_transfer_engines_and_endpoints.md R140,
spec/04_transfer_engines_and_endpoints.md R153, spec/04_transfer_engines_and_endpoints.md R157) -/
def Obligations.EndpointCommands : Prop :=
  (∀ (id : Nat) (it : Item) (p : PortId) (s : State), s.serving id = some it → it.op = .epOpen →
    it.x.ctxReady = true → it.x.running = false → portId? it.port = some p → s.Live it → it.listDone → s.Canonical →
    let e := it.entry
    let hs := s.ports[p].speed = 0
    let hub := eHubAddr e
    let split := hs ∧ hub ≠ 0
    let speed := if hub = 0 then s.ports[p].speed else (s.dw7 it).2.1
    let periodic := eType e = 1 ∨ eType e = 3
    let wrong := (hub ≠ 0 ∧ ¬ hs) ∨ (hub ≠ 0 ∧ (s.dw7 it).2.1 = 0) ∨ (hub = 0 ∧ (s.dw7 it).2.1 ≠ 0)
    let bad := epComboOk speed (eType e) (eLength e) (eMult e) (eInterval e) = false ∨
      (hub ≠ 0 ∧ eType e = 1 ∧ (if it.keyDir then 564 else 188) < eLength e)
    let c : Ctx :=
      { port := p, addr := eAddr e, ep := eEp e, dir := it.keyDir, owner := it.owner, gen := it.gen, halted := false,
         typ := eType e, speed := speed, toggle := false, mult := eMult e, interval := eInterval e, mps := eLength e,
         hubAddr := hub, hubPort := eHubPort e, phase := 0, splitY := 0,
         charge := if periodic then portCharge (decide (hub ≠ 0)) speed (eType e) (eLength e) (eMult e) it.keyDir else 0,
         bufId := 0, granules := if periodic then granulesOf (eLength e) (eMult e) else 0, iface := (s.dw7 it).1,
         devSpeed := (s.dw7 it).2.1, nextAt := 0, svcAt := 0, svcUsed := 0, errs := 0, snooped := false,
         block := (s.dw7 it).2.2, dirty := true, cached := true, used := s.ordinal }
    let others := s.ctxs.filter (fun d => !d.same c)
    let mine := s.ctxs.filter (fun d => d.port == p && !d.same c)
    let at' (ph y : Nat) : Ctx := { c with phase := ph, splitY := y }
    let place (ph y : Nat) : Prop := ph < min (2 ^ eInterval e) (if hs ∧ hub = 0 then 256 else 32) ∧
      (if split then y < 4 else y = 0)
    let load (ph y : Nat) : Nat := highest mine (at' ph y) (decide hs)
    let fits (ph y : Nat) : Prop := ∀ i : Nat, i < (if hs then 256 else 32) → (at' ph y).load (decide hs) i ≠ 0 →
      mine.foldl (fun n d => n + d.load (decide hs) i) ((at' ph y).load (decide hs) i) ≤ if hs then 48000 else 10800
    let best (ph y : Nat) : Prop := place ph y ∧ ∀ ph' y' : Nat, place ph' y' →
      load ph y < load ph' y' ∨ (load ph y = load ph' y' ∧ (ph < ph' ∨ (ph = ph' ∧ y ≤ y')))
    let ttFull (ph y : Nat) : Prop := split ∧ ∃ f : Nat, f < 32 ∧ (at' ph y).ttLoad f ≠ 0 ∧
      10800 < (mine.filter (fun d => d.hubAddr == hub)).foldl (fun n d => n + d.ttLoad f) ((at' ph y).ttLoad f)
    let room := (s.ctxs.filter (fun d => d.cached)).length + s.closed.length < 2048
    let opens (t : State) (d : Ctx) : Prop := EndedWith s t it 0 0 0 ∧
      (∃ l : List Ctx, t.ctxs = l ++ [d] ∧ l.map Ctx.bare = others.map Ctx.bare) ∧
      (room → Ended s t it 0 0 0 s.posted ∧ t.ctxs = others ++ [d])
    let refuses (st d : Nat) : Prop := Answers (.epOpen id) s fun t => Ended s t it st d 0 s.posted ∧ t.ctxs = s.ctxs ∧
      Only [.ordinal, .regs, .seq, .qps, .wis, .park, .ctxs, .closed, .posted] s t ∧ RegsOf [.qp, .sched] s t
    (wrong → refuses 9 8) ∧ (¬ wrong → bad → refuses 9 6) ∧
    (¬ wrong → ¬ bad → ¬ periodic → Answers (.epOpen id) s fun t => opens t c ∧
      Only [.ordinal, .regs, .seq, .qps, .wis, .park, .ctxs, .closed, .posted] s t ∧ RegsOf [.qp, .sched, .slice] s t) ∧
    (¬ wrong → ¬ bad → periodic →
      ((∀ ph y : Nat, place ph y → ¬ fits ph y) → refuses 7 1) ∧
      ∀ ph y : Nat, best ph y → fits ph y →
        let free := 6144 - s.fld (at_ 0x070 0x100) 0 13
        let all := s.perAlloc (fun d => !d.same c) + c.granules
        let own := s.perAlloc (fun d => !d.same c && d.owner == it.owner) + c.granules
        (ttFull ph y → refuses 7 2) ∧
        (¬ ttFull ph y → free < all → refuses 8 1) ∧
        (¬ ttFull ph y → all ≤ free → s.granQuota it.owner < own → refuses 8 2) ∧
        (¬ ttFull ph y → all ≤ free → own ≤ s.granQuota it.owner → Answers (.epOpen id) s fun t =>
          Only [.ordinal, .free, .regs, .seq, .qps, .wis, .park, .ctxs, .closed, .posted] s t ∧
          RegsOf [.qp, .sched, .slice] s t ∧ ∃ b n : Nat, 1 ≤ b ∧ b < 2 ^ 13 ∧
            opens t { at' ph y with bufId := b, nextAt := n }))) ∧
  (∀ (id : Nat) (it : Item) (c : Instr) (o : Op) (s : State),
    ((c = .epClose id ∧ o = .epClose) ∨ (c = .epResetToggle id ∧ o = .epResetToggle) ∨
     (c = .epClearHalt id ∧ o = .epClearHalt)) → s.serving id = some it → it.op = o → it.x.ctxReady = true →
    it.x.running = false → s.Live it → it.listDone → s.Canonical →
    (s.ctxOf it = none → Answers c s fun t => (if o = .epClose then Ended s t it 0 0 0 s.posted
        else Ended s t it 2 2 0 s.posted) ∧ t.ctxs = s.ctxs ∧
      Only [.ordinal, .regs, .seq, .qps, .wis, .park, .ctxs, .closed, .posted] s t ∧ RegsOf [.qp, .sched] s t) ∧
    ∀ x : Ctx, s.ctxOf it = some x → x.gen = s.genOf x.owner → Answers c s fun t =>
      (o = .epClose → Ended s t it 0 0 0 (s.posted ++
          [{ kind := .context (ctxAddr x.block x.ep x.dir) x.port x.addr x.ep x.dir 0, owner := x.owner, gen := x.gen,
             noSnoop := false, since := s.now, pasid := s.pasidOf x.owner }]) ∧
        t.ctxs = s.ctxs.filter (fun d => !d.same x)) ∧
      (o ≠ .epClose → Ended s t it 0 0 0 s.posted ∧ t.ctxs = s.ctxs.map (fun d => if d.same x then
          (if o = .epResetToggle then { d with toggle := false, dirty := true, used := s.ordinal }
           else { d with halted := false, dirty := true, used := s.ordinal }) else d)) ∧
      Only [.ordinal, .regs, .seq, .qps, .wis, .park, .ctxs, .closed, .posted] s t ∧ RegsOf [.qp, .sched] s t) ∧
  (∀ (c : Instr) (id : Nat) (it : Item) (s : State),
    ((c = .nop id ∧ it.op = .nop) ∨ (c = .fenceMark id ∧ it.op = .fenceMark)) → it ∈ s.wis → it.id = id →
    s.held = false → s.fatal = false → s.rootOn domSCHED = true → it.retire = none → it.st = .ready →
    s.credit it.qp ≠ 0 →
    (∀ x ∈ s.wis, x ≠ it → x.st = .ready → x.retiring = true → 1 ≤ s.credit x.qp → it.readyNo < x.readyNo) →
    s.Live it → it.listDone → s.Canonical → Answers c s fun t => Ended s t it 0 0 0 s.posted ∧
      Only [.ordinal, .regs, .seq, .qps, .wis, .park, .ctxs, .closed, .posted] s t ∧ RegsOf [.qp, .sched] s t)

/-- On a port that runs with nothing on the wire and a ready transaction, a periodic one goes first, and none that
would end past EOF1. The item goes on the wire and the port remembers its token and what it sends; or a CONTROL or
BULK item that needs a granule for the wire finds the shared pool empty, waits for one, is counted and sets
EBR.CAUSE.POOL_WAIT. A waiting item gets a granule while the pool has one: its outbound data are read into it, or it
is for the wire. At the end of NAK_GAP the item may go on; in the activation pause that waits for the engines. The
packet lengths behind the EOF1 test are those of USB 2.0 (log entry 61), and that the end of NAK_GAP is held in the
pause is the model's choice (log entry 66). (spec/04_transfer_engines_and_endpoints.md R129,
spec/04_transfer_engines_and_endpoints.md R142, spec/04_transfer_engines_and_endpoints.md R143,
spec/04_transfer_engines_and_endpoints.md R144, spec/04_transfer_engines_and_endpoints.md R145, spec/05_root_ports.md
R180, spec/11_capture.md R317, spec/13_firmware_and_settings.md R359) -/
def Obligations.TransactionsStart : Prop :=
  (∀ (p : PortId) (s : State), s.portRuns p = true → s.ports[p].wire = none → s.Canonical →
    (∃ x ∈ s.wis, x.port = p.val ∧ s.txReady p x = true) →
    Answers (.transactionStart p) s fun t => Only [.regs, .wis, .poolPeak, .poolWaits, .ports, .ctxs, .reads] s t ∧
      RegsBut [at_ 0x070 0x114, at_ 0x070 8] s t ∧ ∃ it ∈ s.wis, ∃ c : Ctx, it.port = p.val ∧ s.txReady p it = true ∧
        s.ctxOf it = some c ∧ s.fits p it c = true ∧ OthersKept s t it.id ∧
        ((∃ x ∈ s.wis, x.port = p.val ∧ s.txReady p x = true ∧ x.op.isPeriodic = true) → it.op.isPeriodic = true) ∧
        t.ctxs.map (fun d => { d with snooped := false, svcAt := 0, svcUsed := 0 }) =
          s.ctxs.map (fun d => { d with snooped := false, svcAt := 0, svcUsed := 0 }) ∧
        let bare := it.op.isPeriodic = false ∧ ¬ (it.sends = true ∧ it.nextBytes c.mps ≠ 0) ∧ it.x.wireBuf = false
        (¬ bare ∨ s.poolUsed < s.poolSize →
          AllBut p s.ports t.ports ∧ (0 < c.mps → t.regs = s.regs ∧ t.poolWaits = s.poolWaits) ∧
          t.ports[p] = { s.ports[p] with
            wire := some it.id, turn := s.ports[p].turn + 2, tx := some (s.txOf p it c), wireCtx := some c,
            token := some (eAddr it.entry, some (eEp it.entry)) }) ∧
        (bare → s.poolSize ≤ s.poolUsed →
          t.ports = s.ports ∧ t.ctxs = s.ctxs ∧ t.reads = s.reads ∧ t.poolWaits = s.poolWaits ++ [it.id] ∧
          Causes s t 0x070 [2] ∧ t.reg (at_ 0x070 0x114) = s.reg (at_ 0x070 0x114) + 1 ∧
          t.Has it.id (fun x => x.x.wantGranule = true))) ∧
  (∀ (id : Nat) (it : Item) (s : State), s.serving id = some it → it.x.wantGranule = true →
    (s.poolUsed < s.poolSize → Answers (.poolGranuleGrant id) s fun t => Only [.wis, .poolPeak, .poolWaits,
      .reads] s t ∧
      OthersKept s t id ∧ t.poolWaits = s.poolWaits.erase id ∧ t.Has id (fun x => x.x.wantGranule = false) ∧
      ∀ c : Ctx, s.ctxOf it = some c →
        (it.lacksData c.mps = false → t.reads = s.reads ∧
          t.Has id (fun x => x.x = { it.x with wantGranule := false, wireBuf := true })) ∧
        (it.lacksData c.mps = true → it.op.isPeriodic = false → it.x.running = true → it.x.fetching = false →
          it.x.nextReady = false → it.ending = none → t.Has id (fun x => x.x.fetching = true) ∧
          t.reads = s.reads ++ [{ kind := .data (it.dataAddr it.x.done) (it.nextBytes c.mps), owner := it.owner,
                                  noSnoop := it.noSnoop, pasid := s.pasidOf it.owner, since := s.now }])) ∧
    (s.poolSize ≤ s.poolUsed → Answers (.poolGranuleGrant id) s fun t => Only [] s t)) ∧
  (∀ (id : Nat) (s : State), s.held = false → (s.fw.paused = false ∨ s.fatal = true) →
    Answers (.nakGapExpiry id) s fun t => Only [.wis] s t ∧
      t.wis = s.wis.map (fun x => if x.id = id then { x with x := { x.x with nakWait := false } } else x)) ∧
  ∀ (id : Nat) (s : State), s.held = false → s.fatal = false → s.fw.paused = true →
    Answers (.nakGapExpiry id) s fun t => Only [.late] s t ∧
      t.late = if s.late.contains (.nakGap id) then s.late else s.late ++ [.nakGap id]

/-- For an item on the wire with an open context, the wire is free afterwards and: an ACK of a data packet adds its
bytes and, CONTROL apart, flips the toggle unless a snooped request reset it meanwhile; the last one ends a BULK or
INTERRUPT item OK; an ACK moves a CONTROL item from setup to its data or status stage and from its last data to the
status stage, whose end completes it, with SHORT_PACKET where bytes are missing and SHORT_OK is 0; an ACK of PING lets
the data go. STALL clears the error count and ends the item with STALL 0, a BULK or INTERRUPT endpoint being halted
and counted; an end for an ECC error in its data stands. NAK clears the count too and puts a BULK or CONTROL item
aside for NAK_GAP; of an INTERRUPT one it ends the service. A corrupt response or none is counted and tried again, a
complete-split of a CONTROL or BULK item as such; the third in a row ends the item with XACT_ERROR and halts a BULK or
INTERRUPT endpoint. An invalid PID is such an error of reason 3. A received packet with the PID expected is written to
the buffer with the item's no-snoop attribute, a short or last one ends the item or the data stage; a repeat of the
last one is dropped; one above MPS or the room left ends the item BABBLE 1 or 2 and halts a BULK or INTERRUPT
endpoint. An isochronous packet reports OK, ERROR or BABBLE in its descriptor, and the last one ends the item with the
most severe status and the count of packets not OK. The start-split that was taken makes the complete-split due; ERR
is an error of reason 4; NYET repeats it. In the activation pause the end is held for the engines.
(spec/04_transfer_engines_and_endpoints.md R129, spec/04_transfer_engines_and_endpoints.md R130,
spec/04_transfer_engines_and_endpoints.md R145, spec/04_transfer_engines_and_endpoints.md R146,
spec/04_transfer_engines_and_endpoints.md R147, spec/04_transfer_engines_and_endpoints.md R150,
spec/04_transfer_engines_and_endpoints.md R152, spec/04_transfer_engines_and_endpoints.md R153,
spec/04_transfer_engines_and_endpoints.md R157, spec/05_root_ports.md R181, spec/05_root_ports.md R185,
spec/13_firmware_and_settings.md R359) -/
def Obligations.TransactionsEnd : Prop :=
  (∀ (p : PortId) (id : Nat) (it : Item) (x x0 : Ctx) (s : State), s.held = false → s.fatal = false →
    s.fw.paused = false → s.ports[p].wire = some id → s.ports[p].wireCtx = some x0 → s.item? id = some it →
    s.ctxOf it = some x → it.x.expired = false → it.port = p.val → it.inService = true → s.Live it → s.Canonical →
    let wire (t : State) : Prop := AllBut p s.ports t.ports ∧
      t.ports[p] = { s.ports[p] with wire := none, wireCtx := none, ledPulse := t.ports[p].ledPulse }
    let goes (t : State) (z : Xfer) : Prop := Only [.wis, .ctxs, .ports, .posted, .reads, .regs, .poolPeak,
      .poolWaits] s t ∧
      wire t ∧ OthersKept s t id ∧ t.Has id (fun y => y = { it with x := { z with
        fetching := y.x.fetching, dataIdx := y.x.dataIdx, wantGranule := y.x.wantGranule } })
    let ends (t : State) : Prop := wire t ∧
      Only [.ports, .ordinal, .regs, .seq, .qps, .wis, .park, .ctxs, .closed, .posted] s t
    let ctxs (f : Ctx → Ctx) : List Ctx := s.ctxs.map (fun d => if d.same x then f d else d)
    let errs (n : Nat) : List Ctx := ctxs (fun d => { d with errs := n })
    let flip : List Ctx := ctxs (fun d => { d with
      errs := 0, toggle := if x.snooped then d.toggle else !d.toggle, dirty := d.dirty || !x.snooped })
    let n := it.nextBytes x.mps
    let z : Xfer := { it.x with wireBuf := false, drain := false }
    let halts := it.op.isBulk = true ∨ it.op.isIntr = true
    let split := x.hubAddr ≠ 0 ∧ s.ports[p].speed = 0
    let direct := ¬ split ∨ it.x.csplit = true
    let short := it.x.done < eLength it.entry ∧ eShortOk it.entry = false
    let total := eLength it.entry
    let spent := it.x.served || decide (x.mult + 1 ≤ it.x.svcTx)
    let isIn := bitAt (eReqType it.entry) 7 = true
    let write (ofs len : Nat) : List Posted := if len = 0 then [] else
      [{ kind := .data (it.dataAddr ofs) len, owner := it.owner, gen := it.gen, noSnoop := it.noSnoop,
         relaxed := Config.dataRelaxed (it.dataAddr ofs), since := s.now, pasid := s.pasidOf it.owner }]
    (it.ending = none → direct → it.x.ping = false →
      (it.op = .bulkOut → it.x.done + n < it.length → Answers (.transactionEnd p .ack) s fun t =>
        goes t { z with
          done := it.x.done + n, csplit := false, nakWait := false, dataReady := it.x.nextReady, nextReady := false } ∧
        t.ctxs = flip ∧ t.posted = s.posted ∧ RegsOf [.ebr] s t) ∧
      (it.op = .intrOut → it.x.done + n < it.length → Answers (.transactionEnd p .ack) s fun t =>
        goes t { z with
          done := it.x.done + n, csplit := false, nakWait := false, svcMoved := !spent, nakSvc := 0, served := spent,
          dataReady := it.x.dataReady && !spent } ∧
        t.ctxs = flip ∧ t.posted = s.posted ∧ RegsOf [.ebr] s t) ∧
      (it.op = .bulkOut ∨ it.op = .intrOut → it.length ≤ it.x.done + n → it.listDone →
        Answers (.transactionEnd p .ack) s fun t => Ended s t it 0 0 (it.x.done + n) s.posted ∧ ends t ∧
          RegsOf [.qp, .sched] s t) ∧
      (it.op = .control → it.x.stage = 0 → Answers (.transactionEnd p .ack) s fun t =>
        goes t { z with
          csplit := false, nakWait := false, dataReady := it.x.nextReady, nextReady := false,
          stage := if total = 0 then 2 else 1 } ∧ t.ctxs = errs 0 ∧ t.posted = s.posted ∧ RegsOf [.ebr] s t) ∧
      (it.op = .control → it.x.stage = 1 → ¬ isIn → Answers (.transactionEnd p .ack) s fun t =>
        goes t { z with
          done := it.x.done + n, csplit := false, nakWait := false, dataReady := it.x.nextReady, nextReady := false,
          stage := if it.x.done + n < total then 1 else 2 } ∧ t.ctxs = errs 0 ∧ t.posted = s.posted ∧
          RegsOf [.ebr] s t) ∧
      (it.op = .control → it.x.stage = 2 → it.listDone →
        (isIn → total ≠ 0 → Answers (.transactionEnd p .ack) s fun t =>
          Ended s t it (if short then 1 else 0) 0 it.x.done s.posted ∧ ends t ∧ RegsOf [.qp, .sched] s t) ∧
        (¬ isIn ∨ total = 0 → Answers (.transactionEnd p (.data 1 0)) s fun t =>
          Ended s t it (if short then 1 else 0) 0 it.x.done s.posted ∧ ends t ∧ RegsOf [.qp, .sched] s t))) ∧
    (it.ending = none → direct → it.x.ping = true →
      (it.op = .bulkOut ∨ (it.op = .control ∧ it.x.stage = 1 ∧ ¬ isIn)) → Answers (.transactionEnd p .ack) s fun t =>
        goes t { z with ping := false } ∧ t.ctxs = errs 0 ∧ t.posted = s.posted ∧ RegsOf [.ebr] s t) ∧
    (it.ending = none → direct → it.op.isIsoc = false → it.op.isTransfer = true → it.listDone →
      Answers (.transactionEnd p .stall) s fun t => Ended s t it 2 (it.detail 0) it.x.done s.posted ∧ ends t ∧
        (halts → Causes s t 0x060 [3] ∧ t.reg (at_ 0x060 0x11C) = s.reg (at_ 0x060 0x11C) + 1 ∧
          t.ctxs = ctxs (fun d => { d with errs := 0, halted := true, dirty := true }) ∧
          RegsOf [.qp, .sched, .te] s t) ∧
        (it.op = .control → t.ctxs = errs 0 ∧ RegsOf [.qp, .sched] s t)) ∧
    (it.ending = some (5,
      5) → direct → it.op.isBulk = true → it.listDone → Answers (.transactionEnd p .stall) s fun t =>
      Ended s t it 5 5 it.x.done s.posted ∧ ends t ∧ t.ctxs = errs 0 ∧ RegsOf [.qp, .sched] s t) ∧
    (it.ending = none →
      (it.op.isBulk = true ∨ (it.op = .control ∧ it.x.stage ≠ 0) →
        Answers (.transactionEnd p .nak) s fun t => goes t { z with
          nakWait := true, csplit := false, ping := it.x.ping || (decide (x.speed = 0) && it.sends) } ∧
          t.ctxs = errs 0 ∧ t.posted = s.posted ∧ RegsOf [.ebr] s t) ∧
      (it.op.isIntr = true → direct → Answers (.transactionEnd p .nak) s fun t => goes t { z with
          served := true, csplit := false, svcMoved := false, dataReady := it.x.dataReady && !it.x.svcMoved,
          nakSvc := if it.x.svcMoved then 0 else it.x.nakSvc + 1 } ∧
          t.ctxs = errs 0 ∧ t.posted = s.posted ∧ RegsOf [.ebr] s t)) ∧
    (∀ (c : Instr) (reason : Nat) (again : Bool),
        ((c = .responseTimeout p ∧ reason = 2 ∧ again = true) ∨
         (c = .transactionEnd p (.crcErr 0) ∧ reason = 1 ∧ again = true) ∨
         (c = .transactionEnd p .badPid ∧ reason = 3 ∧ again = true) ∨
         (c = .transactionEnd p .ttErr ∧ split ∧ it.x.csplit = true ∧ reason = 4 ∧ again = false)) →
      it.ending = none → it.op.isIsoc = false → it.op.isTransfer = true →
      (x.errs < 2 → Answers c s fun t => goes t { z with
          csplit := it.x.csplit && again && !it.op.isIntr, svcMoved := false, nakSvc := 0,
            served := it.x.served || it.op.isIntr,
          dataReady := it.x.dataReady && !(it.op.isIntr && it.x.svcMoved) } ∧
        t.ctxs = errs (x.errs + 1) ∧ t.posted = s.posted ∧ RegsOf [.ebr, .port] s t ∧
        t.reg (at_ (portPage p) 0x118) = s.reg (at_ (portPage p) 0x118) + 1) ∧
      (2 ≤ x.errs → it.listDone → Answers c s fun t => Ended s t it 3 (it.detail reason) it.x.done s.posted ∧ ends t ∧
        t.reg (at_ (portPage p) 0x118) = s.reg (at_ (portPage p) 0x118) + 1 ∧
        (halts → t.ctxs = ctxs (fun d => { d with errs := 0, halted := true, dirty := true })) ∧
        (it.op = .control → t.ctxs = errs 0) ∧ RegsOf [.qp, .sched, .port, .te] s t)) ∧
    (∀ (pid : Fin 4) (len : Nat), it.ending = none → direct →
      (it.op = .bulkIn ∨ it.op = .intrIn → pid.val = b2n it.x.wireToggle → len ≤ x.mps → it.x.done + len ≤ it.length →
        (len = x.mps → it.x.done + len < it.length → Answers (.transactionEnd p (.data pid len)) s fun t =>
          goes t (if it.op.isIntr then { z with
              done := it.x.done + len, csplit := false, drain := decide (len ≠ 0), svcMoved := !spent, nakSvc := 0,
              served := spent, dataReady := it.x.dataReady && !spent }
            else { z with done := it.x.done + len, csplit := false, drain := decide (len ≠ 0) }) ∧
          t.ctxs = flip ∧ t.posted = s.posted ++ write it.x.done len ∧ RegsOf [.ebr] s t) ∧
        (len < x.mps ∨ it.length ≤ it.x.done + len → it.listDone →
          Answers (.transactionEnd p (.data pid len)) s fun t =>
            Ended s t it (if it.length ≤ it.x.done + len ∨ eShortOk it.entry = true then 0 else 1) 0 (it.x.done + len)
              (s.posted ++ write it.x.done len) ∧ ends t ∧ RegsOf [.qp, .sched] s t)) ∧
      (it.op = .control → it.x.stage = 1 → isIn → (pid.val = if it.x.done / x.mps % 2 = 0 then 1 else 0) → len ≤ x.mps →
        it.x.done + len ≤ total → Answers (.transactionEnd p (.data pid len)) s fun t =>
          goes t { z with
            done := it.x.done + len, csplit := false, drain := decide (len ≠ 0),
            stage := if len < x.mps ∨ total ≤ it.x.done + len then 2 else 1,
            ping := it.x.ping && decide (¬ (len < x.mps ∨ total ≤ it.x.done + len)) } ∧
          t.ctxs = errs 0 ∧ t.posted = s.posted ++ write it.x.done len ∧ RegsOf [.ebr] s t)) ∧
    (∀ (pid : Fin 4) (len : Nat), it.ending = none → direct → it.op.isIsoc = false → it.op.isTransfer = true →
      it.sends = false → pid.val < 2 →
      let want : Nat := if it.op ≠ .control then b2n it.x.wireToggle
        else if it.x.stage = 1 ∧ it.x.done / x.mps % 2 ≠ 0 then 0 else 1
      let room : Nat := if it.op ≠ .control then it.length - it.x.done
        else if it.x.stage = 1 then total - it.x.done else 0
      (x.mps < len ∨ (pid.val = want ∧ room < len) → it.listDone →
        Answers (.transactionEnd p (.data pid len)) s fun t =>
          Ended s t it 4 (it.detail (if x.mps < len then 1 else 2)) it.x.done s.posted ∧ ends t ∧
          (halts → t.ctxs = ctxs (fun d => { d with halted := true, dirty := true }) ∧ RegsOf [.qp, .sched, .te] s t) ∧
          (it.op = .control → t.ctxs = s.ctxs ∧ RegsOf [.qp, .sched] s t)) ∧
      (len ≤ x.mps → pid.val ≠ want → Answers (.transactionEnd p (.data pid len)) s fun t =>
        goes t (if it.op.isIntr then { z with
            csplit := false, svcMoved := !spent, nakSvc := 0, served := spent, dataReady := it.x.dataReady && !spent }
          else { z with csplit := false }) ∧
        t.ctxs = errs 0 ∧ t.posted = s.posted ∧ RegsOf [.ebr] s t)) ∧
    (∀ (k : IsoPkt) (c : Instr) (len st : Nat), it.ending = none → ¬ split → it.x.isoReady = true →
      it.x.iso[it.x.isoIdx]? = some k → k.served = false →
      ((it.op = .isocIn ∧ x.mult = 0 ∧ (∃ pid : Fin 4, pid.val < 2 ∧ c = .transactionEnd p (.data pid len)) ∧ st = 0 ∧
          len ≤ x.mps ∧ k.act + len ≤ k.req) ∨
       (it.op = .isocIn ∧ x.mult = 0 ∧ st = 2 ∧ ∃ (pid : Fin 4) (n : Nat), pid.val < 2 ∧
          c = .transactionEnd p (.data pid n) ∧ (x.mps < n ∨ k.req - k.act < n) ∧ len = min (k.req - k.act) n) ∨
       (it.op = .isocIn ∧ c = .transactionEnd p (.crcErr len) ∧ st = 1 ∧ k.act + len ≤ k.req) ∨
       (it.op = .isocIn ∧ c = .responseTimeout p ∧ st = 1 ∧ len = 0) ∨
       (it.op = .isocOut ∧ c = .transactionEnd p .sent ∧ k.req ≤ it.x.svcTx * x.mps ∧ st = 0 ∧ k.act = 0 ∧
         len = k.req)) →
      let k' : IsoPkt := { k with act := k.act + len, pst := st, served := true }
      let iso := it.x.iso.set it.x.isoIdx k'
      let posted := s.posted ++ (if it.op = .isocIn then write (k.ofs + k.act) len else []) ++
        [{ kind := .pktList (BitVec.ofNat 64 (ePktList it.entry + 8 * it.x.isoIdx + 4)) (pktDw1 k'), owner := it.owner,
           gen := it.gen, noSnoop := false, since := s.now, pasid := s.pasidOf it.owner }]
      ((∃ d ∈ iso, d.served = false) → Answers c s fun t =>
        goes t { it.x with iso := iso, served := true, dataReady := false } ∧ t.posted = posted ∧ t.ctxs = s.ctxs ∧
        RegsOf [.ebr, .port] s t ∧
          t.reg (at_ (portPage p) 0x118) = s.reg (at_ (portPage p) 0x118) + (if st = 1 then 1 else 0)) ∧
      let bad := iso.filter (fun d => decide (d.pst ≠ 0))
      let worst : Nat := if bad = [] then 0 else if ∃ d ∈ bad, d.pst = 4 then 5 else if ∃ d ∈ bad, d.pst = 2 then 4
        else if ∃ d ∈ bad, d.pst = 1 then 3 else 6
      ((∀ d ∈ iso, d.served = true) → Answers c s fun t =>
        Ended s t { it with x := { it.x with iso := iso } } worst (min 255 bad.length) (iso.map (fun d => d.act)).sum
          posted ∧ ends t ∧ t.ctxs = s.ctxs ∧ RegsOf [.qp, .sched, .port] s t ∧
        t.reg (at_ (portPage p) 0x118) = s.reg (at_ (portPage p) 0x118) + (if st = 1 then 1 else 0))) ∧
    (split → it.ending = none → it.x.csplit = false →
      (it.op.isBulk = true ∨ it.op = .control → Answers (.transactionEnd p .ack) s fun t =>
        goes t { z with csplit := true } ∧ t.ctxs = errs 0 ∧ t.posted = s.posted ∧ RegsOf [.ebr] s t) ∧
      (it.op.isIntr = true ∨ it.op = .isocIn → Answers (.transactionEnd p .sent) s fun t =>
        goes t { it.x with csplit := true } ∧ t.ctxs = s.ctxs ∧ t.posted = s.posted ∧ RegsOf [.ebr] s t)) ∧
    (split → it.ending = none → it.x.csplit = true →
      (it.op.isBulk = true ∨ it.op = .control → Answers (.transactionEnd p .nyet) s fun t =>
        goes t { z with nakWait := true } ∧ t.ctxs = errs 0 ∧ t.posted = s.posted ∧ RegsOf [.ebr] s t) ∧
      (it.op.isIntr = true → s.clks[p].frindex.toNat % 8 < x.splitY + 4 → Answers (.transactionEnd p .nyet) s fun t =>
        goes t z ∧ t.ctxs = errs 0 ∧ t.posted = s.posted ∧ RegsOf [.ebr] s t))) ∧
  ∀ (p : PortId) (r : Resp) (s : State), s.held = false → s.fatal = false → s.fw.paused = true →
    s.ports[p].wire.isSome = true → s.late = [] →
    (Answers (.transactionEnd p r) s fun t => Only [.late] s t ∧ t.late = [.tx p (some r)]) ∧
    Answers (.responseTimeout p) s fun t => Only [.late] s t ∧ t.late = [.tx p none]

/-- Data read for an item are in its buffer, or those of its next transaction are where the present ones wait there;
data of an isochronous packet not yet served make it ready; a failed read ends a BULK or CONTROL item with HOST_MEM
and reason 0x01, at its transaction boundary if it is on the wire. A packet list that failed ends its isochronous item
with HOST_MEM 0x02; one with a bad descriptor with BAD_ENTRY 0x04. The time limit ends a CONTROL or BULK item with
XFER_TIMEOUT and the bytes moved, the NAK limit an interrupt item with XFER_TIMEOUT 0x03; an item on the wire ends so
at its transaction boundary, where its transaction does not end it. (spec/04_transfer_engines_and_endpoints.md R130,
spec/04_transfer_engines_and_endpoints.md R144, spec/04_transfer_engines_and_endpoints.md R145,
spec/04_transfer_engines_and_endpoints.md R147, spec/04_transfer_engines_and_endpoints.md R148,
spec/04_transfer_engines_and_endpoints.md R155, spec/04_transfer_engines_and_endpoints.md R156,
spec/04_transfer_engines_and_endpoints.md R160) -/
def Obligations.ServiceTimersAndReads : Prop :=
  (∀ (id : Nat) (it : Item) (s : State), s.serving id = some it → it.x.fetching = true →
    (it.op.isIsoc = false → Answers (.hostDataReadDone id true) s fun t => Only [.wis] s t ∧ OthersKept s t id ∧
      t.Has id (fun y => y = { it with x := if it.x.dataReady then { it.x with fetching := false, nextReady := true }
                                            else { it.x with fetching := false, dataReady := true } })) ∧
    (it.op.isIsoc = true → (it.x.iso.getD it.x.dataIdx ⟨0, 0, 0, 0, true⟩).served = false →
      Answers (.hostDataReadDone id true) s fun t => Only [.wis] s t ∧ OthersKept s t id ∧
        t.Has id (fun y => y = { it with x := { it.x with fetching := false, dataReady := true } })) ∧
    (it.op.isIsoc = false → s.onWire it = true → Answers (.hostDataReadDone id false) s fun t =>
      Only [.wis] s t ∧ OthersKept s t id ∧ t.Has id (fun y => y = { it with
        ending := some (it.ending.getD (5, it.detail 1)), x := { it.x with fetching := false } })) ∧
    (it.op.isIsoc = false → s.onWire it = false → it.eccEnd = none → s.Live it → it.listDone → s.Canonical →
      Answers (.hostDataReadDone id false) s fun t => Ended s t it 5 (it.detail 1) it.xferLen s.posted ∧
        Only [.ordinal, .regs, .seq, .qps, .wis, .park, .ctxs, .closed, .posted] s t ∧ RegsOf [.qp, .sched] s t)) ∧
  (∀ (id : Nat) (it : Item) (s : State), s.serving id = some it → it.op.isIsoc = true → it.x.running = true →
    it.x.isoReady = false → s.Live it → it.listDone → s.Canonical →
    (Answers (.packetListReadDone id none) s fun t => Ended s t it 5 2 0 s.posted ∧
      Only [.ordinal, .regs, .seq, .qps, .wis, .park, .ctxs, .closed, .posted] s t ∧ RegsOf [.qp, .sched] s t) ∧
    ∀ (l : List (BitVec 64)) (x : Ctx), s.ctxOf it = some x → l.length = ePktCount it.entry →
      ((∃ d ∈ l, eLength it.entry < (pktOf d).ofs + (pktOf d).req ∨ x.mps * (x.mult + 1) < (pktOf d).req ∨
          pktReserved d = true) →
        Answers (.packetListReadDone id (some l)) s fun t => Ended s t it 9 4 0 s.posted ∧
          Only [.ordinal, .regs, .seq, .qps, .wis, .park, .ctxs, .closed, .posted] s t ∧ RegsOf [.qp, .sched] s t) ∧
      ((∀ d ∈ l, ¬ (eLength it.entry < (pktOf d).ofs + (pktOf d).req ∨ x.mps * (x.mult + 1) < (pktOf d).req ∨
          pktReserved d = true)) →
        Answers (.packetListReadDone id (some l)) s fun t => (∀ y ∈ t.wis, y.id = id → y.x.isoReady = true) ∧
          Only [.ordinal, .regs, .seq, .qps, .wis, .park, .ctxs, .closed, .posted, .reads, .poolPeak] s t ∧
          RegsOf [.qp, .sched, .te, .slice] s t)) ∧
  (∀ (id : Nat) (it : Item) (s : State), s.serving id = some it → (it.op.isBulk = true ∨ it.op = .control) →
    (s.onWire it = true → Answers (.xferTimeout id) s fun t => Only [.wis] s t ∧ OthersKept s t id ∧
      t.Has id (fun y => y = { it with x := { it.x with expired := true } })) ∧
    (s.onWire it = false → it.ending = none → s.Live it → it.listDone → s.Canonical → Answers (.xferTimeout id) s fun t =>
      Ended s t it 0x0E (it.detail (if it.op = .control then 1 else 2)) it.x.done s.posted ∧
      Only [.ordinal, .regs, .seq, .qps, .wis, .park, .ctxs, .closed, .posted] s t ∧ RegsOf [.qp, .sched] s t)) ∧
  (∀ (id : Nat) (it : Item) (s : State), s.serving id = some it → it.op.isIntr = true →
    s.fld (at_ 0x060 0x104) 0 8 ≤ it.x.nakSvc →
    (s.onWire it = true → Answers (.intrNakLimit id) s fun t => Only [.wis] s t ∧ OthersKept s t id ∧
      t.Has id (fun y => y = { it with ending := some (it.ending.getD (0x0E, 3)) })) ∧
    (s.onWire it = false → it.eccEnd = none → s.Live it → it.listDone → s.Canonical → Answers (.intrNakLimit id) s fun t =>
      Ended s t it 0x0E 3 it.x.done s.posted ∧
      Only [.ordinal, .regs, .seq, .qps, .wis, .park, .ctxs, .closed, .posted] s t ∧ RegsOf [.qp, .sched] s t)) ∧
  (∀ (p : PortId) (id : Nat) (it : Item) (x x0 : Ctx) (st d : Nat) (s : State), s.held = false → s.fatal = false →
    s.fw.paused = false → s.ports[p].wire = some id → s.ports[p].wireCtx = some x0 → s.item? id = some it →
    s.ctxOf it = some x → it.port = p.val → it.inService = true → s.Live it → it.listDone → s.Canonical →
    it.op.isBulk = true ∨ it.op = .control ∨ it.op.isIntr = true →
    (it.ending = some (st, d) ∨
      (it.ending = none ∧ it.x.expired = true ∧ st = 0x0E ∧ d = it.detail (if it.op = .control then 1 else 2))) →
    let ends (t : State) (n : Nat) : Prop := Ended s t it st d n s.posted ∧ AllBut p s.ports t.ports ∧
      t.ports[p].wire = none ∧ Only [.ports, .ordinal, .regs, .seq, .qps, .wis, .park, .ctxs, .closed, .posted] s t
    let direct := x.hubAddr = 0 ∨ s.ports[p].speed ≠ 0 ∨ it.x.csplit = true
    (direct → (it.op = .control → it.x.stage ≠ 0) → Answers (.transactionEnd p .nak) s fun t => ends t it.x.done ∧
      RegsOf [.qp, .sched] s t) ∧
    (x.errs < 2 → Answers (.responseTimeout p) s fun t => ends t it.x.done ∧ RegsOf [.qp, .sched, .port] s t ∧
      t.reg (at_ (portPage p) 0x118) = s.reg (at_ (portPage p) 0x118) + 1) ∧
    (direct → it.op = .bulkOut ∨ it.op = .intrOut → it.x.ping = false → it.x.done + it.nextBytes x.mps < it.length →
      Answers (.transactionEnd p .ack) s fun t => ends t (it.x.done + it.nextBytes x.mps) ∧ RegsOf [.qp, .sched] s t))

/-- A quota, POOL_MIN, power mask, budget or SOF_TRIM write that takes effect sets its field and changes nothing else,
but that a Work Item Store quota lowered to its owner's use sets OWNER_FULL, or changes nothing but the causes of its
refusal: CFG_BAD for a value outside its range; WIS_ADMIT where the sum of the quotas would pass 4,096; CFG_BUSY where
POOL_MIN would be raised above 6,144 less what periodic buffers hold; WIS_ADMIT or GRAN_ADMIT for a quota of a slice
that exists which does not fit, the first in SCHED too; MASK_BAD for a power mask, low or high dword, outside the
ports of a slice that exists; LINK_DOWN for a Pod or region budget while the link is lost. A quota of a slice in NONE,
which has no owner, and a power mask in NONE are taken as they come. (spec/03_dispatch_scheduler.md R118,
spec/03_dispatch_scheduler.md R120, spec/04_transfer_engines_and_endpoints.md R142, spec/09_slices.md R274,
spec/09_slices.md R275, spec/08_regions_feeds_budgets.md R256, spec/08_regions_feeds_budgets.md R258,
spec/06_frame_timing.md R205, spec/09_slices.md R273) -/
def Obligations.SettingsRefusedWhole : Prop :=
  (∀ (src : Source) (v : Word) (s : State), s.Takes src 0x050 0x104 → s.Canonical →
    let n := bits v.toNat 0 13
    (n ≤ 4096 → s.quotaSum - s.wisQuota none + n ≤ 4096 → Answers (.pfWisQuotaWrite src v) s fun t =>
      Only [.regs] s t ∧ RegsBut [at_ 0x050 0x104, at_ 0x050 8] s t ∧ t.fld (at_ 0x050 0x104) 0 13 = n ∧
      t.reg (at_ 0x050 8) = s.reg (at_ 0x050 8) |||
        (if s.wisUse none < s.wisQuota none ∧ n ≤ s.wisUse none then 4 else 0)) ∧
    (4096 < n → Answers (.pfWisQuotaWrite src v) s fun t => Only [.regs] s t ∧ RegsBut [at_ 0x050 8] s t ∧
      Causes s t 0x050 [1]) ∧
    (n ≤ 4096 → 4096 < s.quotaSum - s.wisQuota none + n → Answers (.pfWisQuotaWrite src v) s fun t =>
      Only [.regs] s t ∧ RegsBut [at_ 0x050 8] s t ∧ Causes s t 0x050 [0])) ∧
  (∀ (src : Source) (v : Word) (s : State), s.Takes src 0x070 0x100 → s.Canonical →
    let n := bits v.toNat 0 13
    (512 ≤ n → n ≤ 6144 → (n ≤ s.fld (at_ 0x070 0x100) 0 13 ∨ n + s.perAlloc (fun _ => true) ≤ 6144) →
      Answers (.poolMinWrite src v) s fun t => Only [.regs] s t ∧ RegsBut [at_ 0x070 0x100] s t ∧
        t.fld (at_ 0x070 0x100) 0 13 = n) ∧
    ((n < 512 ∨ 6144 < n) → Answers (.poolMinWrite src v) s fun t => Only [.regs] s t ∧ RegsBut [at_ 0x070 8] s t ∧
      Causes s t 0x070 [0]) ∧
    (512 ≤ n → n ≤ 6144 → s.fld (at_ 0x070 0x100) 0 13 < n → 6144 < n + s.perAlloc (fun _ => true) →
      Answers (.poolMinWrite src v) s fun t => Only [.regs] s t ∧ RegsBut [at_ 0x070 8] s t ∧ Causes s t 0x070 [1])) ∧
  (∀ (src : Source) (i : SliceId) (v : Word) (s : State), s.Canonical →
    (s.Takes src (slicePage i) 0x130 → bits v.toNat 0 13 ≤ 4096 →
      (s.slices[i].st = .none ∨ s.wisFits i (bits v.toNat 0 13) = true →
        Answers (.sliceQuotaWrite src i .wis v) s fun t => Only [.regs] s t ∧
          RegsBut [at_ (slicePage i) 0x130, at_ 0x050 8] s t ∧
          t.fld (at_ (slicePage i) 0x130) 0 13 = bits v.toNat 0 13 ∧
          t.reg (at_ 0x050 8) = s.reg (at_ 0x050 8) |||
            (if s.slices[i].st ≠ .none ∧ s.wisUse (some i) < s.wisQuota (some i) ∧
                bits v.toNat 0 13 ≤ s.wisUse (some i) then 4 else 0)) ∧
      (s.slices[i].st ≠ .none → s.wisFits i (bits v.toNat 0 13) = false →
        Answers (.sliceQuotaWrite src i .wis v) s fun t => Only [.regs] s t ∧
          RegsBut [at_ (slicePage i) 8, at_ 0x050 8] s t ∧ Causes s t (slicePage i) [4] ∧ Causes s t 0x050 [0])) ∧
    (s.Takes src (slicePage i) 0x138 → bits v.toNat 0 13 ≤ 6144 →
      (s.slices[i].st = .none ∨ s.granFits i (bits v.toNat 0 13) = true →
        Answers (.sliceQuotaWrite src i .gran v) s fun t => Only [.regs] s t ∧
          RegsBut [at_ (slicePage i) 0x138] s t ∧ t.fld (at_ (slicePage i) 0x138) 0 13 = bits v.toNat 0 13) ∧
      (s.slices[i].st ≠ .none → s.granFits i (bits v.toNat 0 13) = false →
        Answers (.sliceQuotaWrite src i .gran v) s fun t => Only [.regs] s t ∧
          RegsBut [at_ (slicePage i) 8] s t ∧ Causes s t (slicePage i) [5])) ∧
    (s.Takes src (slicePage i) 0x130 → 4096 < bits v.toNat 0 13 → Answers (.sliceQuotaWrite src i .wis v) s fun t =>
      Only [.regs] s t ∧ RegsBut [at_ (slicePage i) 8] s t ∧ Causes s t (slicePage i) [0]) ∧
    (s.Takes src (slicePage i) 0x138 → 6144 < bits v.toNat 0 13 → Answers (.sliceQuotaWrite src i .gran v) s fun t =>
      Only [.regs] s t ∧ RegsBut [at_ (slicePage i) 8] s t ∧ Causes s t (slicePage i) [0]) ∧
    (s.Takes src (slicePage i) 0x134 → 1024 < bits v.toNat 0 11 → Answers (.sliceQuotaWrite src i .park v) s fun t =>
      Only [.regs] s t ∧ RegsBut [at_ (slicePage i) 8] s t ∧ Causes s t (slicePage i) [0]) ∧
    (s.Takes src (slicePage i) 0x134 → bits v.toNat 0 11 ≤ 1024 → Answers (.sliceQuotaWrite src i .park v) s fun t =>
      Only [.regs] s t ∧ RegsBut [at_ (slicePage i) 0x134] s t ∧
      t.fld (at_ (slicePage i) 0x134) 0 11 = bits v.toNat 0 11) ∧
    (s.Takes src (slicePage i) 0x118 →
      (s.slices[i].st = .none ∨ v &&& ~~~(s.reg (at_ (slicePage i) 0x110)) = 0 →
        Answers (.pwrMaskWrite src i false v) s fun t => Only [.regs] s t ∧
          RegsBut [at_ (slicePage i) 0x118] s t ∧ t.reg (at_ (slicePage i) 0x118) = v) ∧
      (s.slices[i].st ≠ .none → v &&& ~~~(s.reg (at_ (slicePage i) 0x110)) ≠ 0 →
        Answers (.pwrMaskWrite src i false v) s fun t => Only [.regs] s t ∧
          RegsBut [at_ (slicePage i) 8] s t ∧ Causes s t (slicePage i) [3])) ∧
    (s.Takes src (slicePage i) 0x11C →
      (s.slices[i].st = .none ∨ (v &&& 0xFFFF) &&& ~~~(s.reg (at_ (slicePage i) 0x114)) = 0 →
        Answers (.pwrMaskWrite src i true v) s fun t => Only [.regs] s t ∧
          RegsBut [at_ (slicePage i) 0x11C] s t ∧ t.fld (at_ (slicePage i) 0x11C) 0 16 = bits v.toNat 0 16) ∧
      (s.slices[i].st ≠ .none → (v &&& 0xFFFF) &&& ~~~(s.reg (at_ (slicePage i) 0x114)) ≠ 0 →
        Answers (.pwrMaskWrite src i true v) s fun t => Only [.regs] s t ∧
          RegsBut [at_ (slicePage i) 8] s t ∧ Causes s t (slicePage i) [3]))) ∧
  (∀ (src : Source) (v : Word) (s : State), s.Canonical →
    (∀ m : RegId, s.Takes src (regionPage m) 0x104 →
      (s.linkDown m = false → bits v.toNat 0 11 ≤ 1600 → Answers (.budgetWrite src (.region m) v) s fun t =>
        Only [.regs] s t ∧ RegsBut [at_ (regionPage m) 0x104] s t ∧ t.budget (.region m) = bits v.toNat 0 11) ∧
      (s.linkDown m = true → Answers (.budgetWrite src (.region m) v) s fun t =>
        Only [.regs] s t ∧ RegsBut [at_ (regionPage m) 8] s t ∧ Causes s t (regionPage m) [8]) ∧
      (s.linkDown m = false → 1600 < bits v.toNat 0 11 → Answers (.budgetWrite src (.region m) v) s fun t =>
        Only [.regs] s t ∧ RegsBut [at_ (regionPage m) 8] s t ∧ Causes s t (regionPage m) [0])) ∧
    (∀ k : PodId, s.Takes src (podPage k) (podAt k 0 % 4096) →
      (s.linkDown ⟨k.val / 3, by omega⟩ = false → bits v.toNat 0 10 ≤ 840 →
        Answers (.budgetWrite src (.pod k) v) s fun t =>
          Only [.regs] s t ∧ RegsBut [podAt k 0] s t ∧ t.budget (.pod k) = bits v.toNat 0 10) ∧
      (s.linkDown ⟨k.val / 3, by omega⟩ = true → Answers (.budgetWrite src (.pod k) v) s fun t =>
        Only [.regs] s t ∧ RegsBut [at_ (podPage k) 8] s t ∧ Causes s t (podPage k) [5]) ∧
      (s.linkDown ⟨k.val / 3, by omega⟩ = false → 840 < bits v.toNat 0 10 →
        Answers (.budgetWrite src (.pod k) v) s fun t =>
          Only [.regs] s t ∧ RegsBut [at_ (podPage k) 8] s t ∧ Causes s t (podPage k) [0])) ∧
    ∀ system : Bool,
      let o := if system then 0x104 else 0x100
      let l : Level := if system then .system else .package
      s.Takes src 6 o →
      (bits v.toNat 0 13 ≤ 4800 → Answers (.budgetWrite src l v) s fun t =>
        Only [.regs] s t ∧ RegsBut [at_ 6 o] s t ∧ t.budget l = bits v.toNat 0 13) ∧
      (4800 < bits v.toNat 0 13 → Answers (.budgetWrite src l v) s fun t =>
        Only [.regs] s t ∧ RegsBut [at_ 6 8] s t ∧ Causes s t 6 [0])) ∧
  (∀ (src : Source) (p : PortId) (v : Word) (s : State), s.Takes src (portPage p) 0x208 → s.Canonical →
    ((signed 12 (bits v.toNat 0 12)).natAbs ≤ 1920 → Answers (.sofTrimWrite src p v) s fun t =>
      Only [.regs] s t ∧ RegsBut [at_ (portPage p) 0x208] s t ∧
      t.fld (at_ (portPage p) 0x208) 0 12 = bits v.toNat 0 12) ∧
    (1920 < (signed 12 (bits v.toNat 0 12)).natAbs → Answers (.sofTrimWrite src p v) s fun t =>
      Only [.regs] s t ∧ RegsBut [at_ (portPage p) 8] s t ∧ Causes s t (portPage p) [1]))

/-- With the port's Pod ON and its clock running: PORT_RESET that the port's state accepts, on a port that sends SOFs,
waits for the reset start point; else, and at that point, the port goes to RESETTING with nothing on the wire, every
other item of the port ends, and all its contexts close. Where the state no longer accepts it PORT_RESET ends as the
acceptance table says, or has not begun. A chirp is seen, ends before 7 ms or fails, and needs three pairs. The end of
the reset decides the speed: high after a good handshake, else full, or low where the pull-up is on D-; a failed
handshake is counted and sets its cause. The recovery interval ends. (spec/04_transfer_engines_and_endpoints.md R141,
spec/05_root_ports.md R164, spec/05_root_ports.md R166, spec/05_root_ports.md R170, spec/05_root_ports.md R171,
spec/05_root_ports.md R172, spec/05_root_ports.md R173) -/
def Obligations.PortResets : Prop :=
  (∀ (id : Nat) (it : Item) (p : PortId) (s : State), s.serving id = some it → it.op = .portReset →
    it.x.ctxReady = true → it.x.running = false → portId? it.port = some p → s.Canonical →
    (s.verdict p .reset = .run → s.ports[p].sends = true → Answers (.portReset id) s fun t => Only [.wis, .ports] s t ∧
      OthersKept s t id ∧ t.Has id (fun x => x.x.running = true) ∧ AllBut p s.ports t.ports ∧
      t.ports[p] = { s.ports[p] with resetWait := true }) ∧
    (s.verdict p .reset = .run → s.ports[p].sends = false →
      (∀ x ∈ s.wis, x.port = p.val → x.op = .portReset → x.id ≠ id → x.inService = false) →
      Answers (.portReset id) s fun t => Only [.ordinal, .regs, .seq, .qps, .wis, .park, .ctxs, .closed, .posted,
        .ports] s t ∧ RegsOf [.qp, .sched, .te, .slice] s t ∧
        AllBut p s.ports t.ports ∧
        t.ports[p] = { s.ports[p].quiet with st := .resetting, wire := none, wireCtx := none } ∧
        PortEnds t p (some id) ∧ ∀ x ∈ t.ctxs, x.port ≠ p) ∧
    (∀ st d : Nat, s.verdict p .reset = .ends st d → s.Live it → it.listDone → Answers (.portReset id) s fun t =>
      Ended s t it st d 0 s.posted ∧ Only [.ordinal, .regs, .seq, .qps, .wis, .park, .ctxs, .closed, .posted] s t ∧
        RegsOf [.qp, .sched] s t) ∧
    (s.verdict p .reset = .wait → Answers (.portReset id) s fun t => Only [.wis] s t ∧ OthersKept s t id ∧
      t.Has id (fun x => x = it))) ∧
  (∀ (p : PortId) (it : Item) (s : State), s.portLive p = true → s.ports[p].resetWait = true →
    s.portItem p .portReset = some it → s.Canonical → Answers (.resetStart p) s fun t =>
      Only [.ordinal, .regs, .seq, .qps, .wis, .park, .ctxs, .closed, .posted, .ports] s t ∧
        RegsOf [.qp, .sched, .te, .slice] s t ∧ AllBut p s.ports t.ports ∧
      t.ports[p] = { s.ports[p].quiet with st := .resetting, wire := none, wireCtx := none } ∧
      PortEnds t p (some it.id) ∧ ∀ x ∈ t.ctxs, x.port ≠ p) ∧
  (∀ (p : PortId) (b : Bool) (n : Nat) (s : State), s.portLive p = true → s.ports[p].st = .resetting →
    s.ports[p].resetEnded = false →
    (s.ports[p].chirp = .none → Answers (.chirpKQualified p) s fun t => Only [.ports] s t ∧ AllBut p s.ports t.ports ∧
      t.ports[p] = { s.ports[p] with chirp := .seen }) ∧
    (s.ports[p].chirp = .seen → Answers (.chirpKEnd p b) s fun t => Only [.ports] s t ∧ AllBut p s.ports t.ports ∧
      t.ports[p] = { s.ports[p] with chirp := if b then .pairs else .failed }) ∧
    (s.ports[p].chirp = .pairs → Answers (.chirpSequenceEnd p n) s fun t => Only [.ports] s t ∧
      AllBut p s.ports t.ports ∧ t.ports[p] = { s.ports[p] with chirp := if 3 ≤ n then .good else .failed }) ∧
    ((s.ports[p].chirp = .none ∨ s.ports[p].chirp = .good) → Answers (.resetEnd p) s fun t => Only [.ports] s t ∧
      AllBut p s.ports t.ports ∧ t.ports[p] = { s.ports[p] with
        resetEnded := true, speed := if s.ports[p].chirp = .good then 0 else if s.ports[p].lowPull then 2 else 1 }) ∧
    (s.ports[p].chirp ≠ .none → s.ports[p].chirp ≠ .good → s.Canonical → Answers (.resetEnd p) s fun t =>
      Only [.ports, .regs] s t ∧ AllBut p s.ports t.ports ∧ t.ports[p] = { s.ports[p] with
        resetEnded := true, speed := if s.ports[p].lowPull then 2 else 1, chirp := .failed } ∧
      RegsBut [at_ (portPage p) 0x11C, at_ (portPage p) 8] s t ∧ Causes s t (portPage p) [4] ∧
      t.fld (at_ (portPage p) 0x11C) 16 8 = min (s.fld (at_ (portPage p) 0x11C) 16 8 + 1) 255)) ∧
  ∀ (p : PortId) (s : State), s.portLive p = true → Answers (.recoveryEnd p) s fun t => Only [.ports] s t ∧
    AllBut p s.ports t.ports ∧ t.ports[p] = { s.ports[p] with recovering := false }

/-- With the port's Pod ON and its clock running: PORT_SUSPEND ends OK on a suspended port; on an enabled one it
starts the drain, and every periodic item of the port in SERVICE ends. When no other item is in SERVICE the bus idles;
3.0 ms of idle bus make the port SUSPENDED, with its event and the record OK; a drain that is late ends the item with
XFER_TIMEOUT 0x04. PORT_RESUME ends OK on an enabled port and drives resume K on a suspended one; in any other state
either waits or ends as the acceptance table says. A device's wake is answered where wake is enabled, else counted;
during a host resume it is noted. (spec/05_root_ports.md R164, spec/05_root_ports.md R166, spec/05_root_ports.md R174,
spec/05_root_ports.md R175, spec/05_root_ports.md R176, spec/05_root_ports.md R178, spec/12_power_domains.md R333) -/
def Obligations.SuspendAndResume : Prop :=
  (∀ (id : Nat) (it : Item) (p : PortId) (s : State), s.serving id = some it → it.op = .portSuspend →
    it.x.ctxReady = true → it.x.running = false → portId? it.port = some p → s.Canonical →
    (s.portOn p = true → s.ports[p].st = .suspended → s.Live it → it.listDone → Answers (.portSuspend id) s fun t => Ended s t it 0 0 0 s.posted ∧
      Only [.ordinal, .regs, .seq, .qps, .wis, .park, .ctxs, .closed, .posted] s t ∧ RegsOf [.qp, .sched] s t) ∧
    (s.portOn p = true → s.ports[p].st = .enabled → Answers (.portSuspend id) s fun t => Only [.ordinal, .regs, .seq,
      .qps, .wis, .park, .ctxs, .closed, .posted, .ports] s t ∧
      RegsOf [.qp, .sched, .te, .slice] s t ∧ AllBut p s.ports t.ports ∧
      t.ports[p] = { s.ports[p] with suspPend := true } ∧
      ∀ x ∈ t.wis, x.port = p.val → x.op.isPeriodic = true → x.inService = true → x.ending.isSome = true) ∧
    (s.verdict p .suspend = .wait → Answers (.portSuspend id) s fun t => Only [.wis] s t ∧
      OthersKept s t id ∧ t.Has id (fun x => x = it)) ∧
    (∀ st d : Nat, s.verdict p .suspend = .ends st d → s.Live it → it.listDone → Answers (.portSuspend id) s fun t =>
      Ended s t it st d 0 s.posted ∧ Only [.ordinal, .regs, .seq, .qps, .wis, .park, .ctxs, .closed, .posted] s t ∧
        RegsOf [.qp, .sched] s t)) ∧
  (∀ (p : PortId) (s : State), s.portLive p = true → s.ports[p].suspPend = true →
    (∀ x ∈ s.wis, x.port = p.val → x.inService = true → x.op.noFlow = true ∨ x.op = .portSuspend) →
    Answers (.suspendDrainDone p) s fun t => Only [.ports] s t ∧ AllBut p s.ports t.ports ∧
      t.ports[p] = { s.ports[p] with suspIdle := true }) ∧
  (∀ (p : PortId) (it : Item) (s : State), s.portLive p = true → s.fatal = false → s.ports[p].suspPend = true →
    s.portItem p .portSuspend = some it → s.Live it → it.listDone → s.Canonical →
    (s.ports[p].st = .enabled → s.ports[p].suspIdle = true → Answers (.suspendIdleEnd p) s fun t =>
      Only [.ordinal, .regs, .seq, .qps, .wis, .park, .events, .ctxs, .closed, .posted, .ports] s t ∧
        RegsOf [.port, .qp, .sched, .te, .slice] s t ∧ AllBut p s.ports t.ports ∧
      t.ports[p] = { s.ports[p].quiet with st := .suspended } ∧ Raised s t (portPage p) 6 0 0 ∧
      EndedWith s t it 0 0 0) ∧
    (s.ports[p].suspIdle = false → Answers (.suspendTimeout p) s fun t => Ended s t it 0x0E 4 0 s.posted ∧
      Only [.ordinal, .regs, .seq, .qps, .wis, .park, .ctxs, .closed, .posted, .ports] s t ∧
        RegsOf [.qp, .sched] s t ∧ AllBut p s.ports t.ports ∧
      t.ports[p] = { s.ports[p] with suspPend := false })) ∧
  (∀ (id : Nat) (it : Item) (p : PortId) (s : State), s.serving id = some it → it.op = .portResume →
    it.x.ctxReady = true → it.x.running = false → portId? it.port = some p → s.Canonical →
    (s.portOn p = true → s.ports[p].st = .enabled → s.Live it → it.listDone → Answers (.portResume id) s fun t => Ended s t it 0 0 0 s.posted ∧
      Only [.ordinal, .regs, .seq, .qps, .wis, .park, .ctxs, .closed, .posted] s t ∧ RegsOf [.qp, .sched] s t) ∧
    (s.portOn p = true → s.ports[p].st = .suspended → Answers (.portResume id) s fun t => Only [.wis, .ports] s t ∧
      OthersKept s t id ∧
      t.Has id (fun x => x.x.running = true) ∧ AllBut p s.ports t.ports ∧ t.ports[p] =
        { s.ports[p].quiet with st := .resuming, remote := false, wakeSeen := t.ports[p].wakeSeen } ∧
      (s.ports[p].line = .k → s.ports[p].kQual = false → t.ports[p].wakeSeen = true) ∧
      (s.ports[p].kAt = none → (s.ports[p].line ≠ .k ∨ s.ports[p].kQual = true) → t.ports[p].wakeSeen = false)) ∧
    (s.verdict p .resume = .wait → Answers (.portResume id) s fun t => Only [.wis] s t ∧
      OthersKept s t id ∧ t.Has id (fun x => x = it)) ∧
    (∀ st d : Nat, s.verdict p .resume = .ends st d → s.Live it → it.listDone → Answers (.portResume id) s fun t =>
      Ended s t it st d 0 s.posted ∧ Only [.ordinal, .regs, .seq, .qps, .wis, .park, .ctxs, .closed, .posted] s t ∧
        RegsOf [.qp, .sched] s t)) ∧
  ∀ (p : PortId) (s : State), s.portLive p = true →
    (s.ports[p].st = .resuming → Answers (.resumeKEnd p) s fun t => Only [.ports] s t ∧ AllBut p s.ports t.ports ∧
      t.ports[p] = { s.ports[p] with resumeEnded := true }) ∧
    (s.ports[p].st = .suspended → s.flag (at_ (portPage p) 0x14) 1 = true → Answers (.remoteWake p) s fun t =>
      Only [.regs, .seq, .qps, .park, .events, .posted, .ports] s t ∧ RegsOf [.port, .qp, .slice] s t ∧
        AllBut p s.ports t.ports ∧
      t.ports[p] = { s.ports[p].quiet with st := .resuming, remote := true } ∧ Raised s t (portPage p) 8 0 0) ∧
    (s.ports[p].st = .suspended → s.flag (at_ (portPage p) 0x14) 1 = false → s.Canonical →
      Answers (.remoteWake p) s fun t => Only [.regs, .ports] s t ∧ AllBut p s.ports t.ports ∧
        t.ports[p] = { s.ports[p] with kQual := true } ∧
        RegsBut [at_ (portPage p) 0x11C, at_ (portPage p) 8] s t ∧ Causes s t (portPage p) [5] ∧
        t.fld (at_ (portPage p) 0x11C) 24 8 = min (s.fld (at_ (portPage p) 0x11C) 24 8 + 1) 255) ∧
    (s.ports[p].st = .resuming → s.ports[p].remote = false → s.ports[p].resumeEnded = false →
      Answers (.remoteWake p) s fun t => Only [.ports] s t ∧ AllBut p s.ports t.ports ∧
        t.ports[p] = { s.ports[p] with wakeSeen := true })

/-- With the port's Pod ON and its clock running: a qualified attach sets CONN, is counted and raises CONNECT with the
pull-up; a data charging port ignores it. A detach that the port detects makes it DISCONNECTED, closes all its
contexts, and raises DISCONNECT where CONN was 1. A detach and a babble cut-off close the open capture items of the
port. The babble cut-off ends the item on the wire with BABBLE, puts the port into DISABLED_ERROR, ends its items, and
raises, counts and records it. CTRL.DISABLE takes an ENABLED, SUSPENDED or RESUMING port to DISCONNECTED with CONN 1
and ends its items; in other states it has no effect. A line change and the end of the LED pulse change only that.
(spec/04_transfer_engines_and_endpoints.md R141, spec/05_root_ports.md R167, spec/05_root_ports.md R168,
spec/05_root_ports.md R173, spec/05_root_ports.md R180, spec/05_root_ports.md R182, spec/05_root_ports.md R190,
spec/05_root_ports.md R191, spec/11_capture.md R321) -/
def Obligations.AttachDetachBabble : Prop :=
  (∀ (p : PortId) (low : Bool) (s : State),
    s.portLive p = true → s.ports[p].st = .disconnected → s.ports[p].conn = false →
    s.ports[p].line = (if low then .k else .j) → s.Canonical →
    (s.isDcp p = false → Answers (.attachQualified p) s fun t => Only [.regs, .seq, .qps, .park, .events, .posted,
      .ports] s t ∧
      RegsOf [.port, .qp, .slice] s t ∧ AllBut p s.ports t.ports ∧
      t.ports[p] = { s.ports[p] with conn := true, lowPull := low } ∧
        Raised s t (portPage p) 1 0 (if low then 2 else 1) ∧
      t.fld (at_ (portPage p) 0x11C) 0 8 = min (s.fld (at_ (portPage p) 0x11C) 0 8 + 1) 255) ∧
    (s.isDcp p = true → Answers (.attachQualified p) s fun t => Only [] s t)) ∧
  (∀ (p : PortId) (s : State), s.portLive p = true → s.Canonical →
    (s.ports[p].detects = true → Answers (.detachDetected p) s fun t => Only [.ordinal, .regs, .seq, .qps, .wis,
      .park, .events, .ctxs, .closed, .posted, .ports, .cfs] s t ∧
      RegsOf [.port, .qp, .sched, .te, .slice, .cf] s t ∧ (∀ k : CfId, s.cfPort k ≠ p.val → t.cfs[k] = s.cfs[k]) ∧
      (∀ k : CfId, s.capRuns = true → s.cfPort k = p.val → t.cfs[k].item = none) ∧ AllBut p s.ports t.ports ∧
      t.ports[p] = { s.ports[p].quiet with st := .disconnected, conn := false } ∧ (∀ x ∈ t.ctxs, x.port ≠ p) ∧
      (s.ports[p].conn = true → Raised s t (portPage p) 2 0 0) ∧
      ((s.ports[p].st = .enabled ∨ s.ports[p].st = .suspended ∨ s.ports[p].st = .resuming) → PortEnds t p none)) ∧
    (s.ports[p].detects = false → Answers (.detachDetected p) s fun t => Only [] s t)) ∧
  (∀ (p : PortId) (s : State), s.portLive p = true → s.ports[p].st = .enabled → s.ports[p].resetWait = false →
    s.Canonical → Answers (.babbleCutoff p) s fun t => Only [.ordinal, .regs, .seq, .qps, .wis, .park, .events,
      .ctxs, .closed, .posted, .ports, .cfs] s t ∧
      RegsOf [.port, .qp, .sched, .te, .slice, .cf] s t ∧
        (∀ k : CfId, s.capRuns = true → s.cfPort k = p.val → t.cfs[k].item = none) ∧ AllBut p s.ports t.ports ∧
      t.ports[p] = { s.ports[p].quiet with st := .disabledError, wire := none, wireCtx := none } ∧
      (Causes s t (portPage p) [3] ∨ Causes s t (portPage p) [0, 3]) ∧
      t.fld (at_ (portPage p) 0x11C) 8 8 = min (s.fld (at_ (portPage p) 0x11C) 8 8 + 1) 255 ∧
      Raised s t (portPage p) 9 0 s.clks[p].frindex.toNat ∧ PortEnds t p none ∧
      ∀ it : Item, s.ports[p].wire = some it.id → s.item? it.id = some it → s.Live it → s.fatal = false →
        EndedWith s t it 4 (it.detail 3) it.xferLen) ∧
  (∀ (src : Source) (p : PortId) (s : State), s.Takes src (portPage p) 0x014 → s.Canonical →
    ((s.ports[p].st = .enabled ∨ s.ports[p].st = .suspended ∨ s.ports[p].st = .resuming) →
      Answers (.portDisable src p) s fun t => Only [.ordinal, .regs, .seq, .qps, .wis, .park, .events, .ctxs,
        .closed, .posted, .ports] s t ∧ RegsOf [.port, .qp, .sched, .te, .slice] s t ∧
        AllBut p s.ports t.ports ∧ t.ports[p] = { s.ports[p].quiet with st := .disconnected, conn := true } ∧
        PortEnds t p none ∧ Raised s t (portPage p) 4 0 1) ∧
    (s.ports[p].st ≠ .enabled → s.ports[p].st ≠ .suspended → s.ports[p].st ≠ .resuming →
      Answers (.portDisable src p) s fun t => Only [] s t)) ∧
  ∀ (p : PortId) (l : Line) (s : State), s.held = false →
    (Answers (.lineStateChange p l) s fun t => Only [.ports] s t ∧ AllBut p s.ports t.ports ∧
      t.ports[p] = { s.ports[p] with line := l, kAt := t.ports[p].kAt, kQual := t.ports[p].kQual } ∧
      (s.ports[p].st = .suspended → s.ports[p].line = .k → l ≠ .k → s.ports[p].kQual = false →
        t.ports[p].kAt = some s.now)) ∧
    Answers (.ledPulseEnd p) s fun t => Only [.ports] s t ∧ AllBut p s.ports t.ports ∧
      t.ports[p] = { s.ports[p] with ledPulse := false }

/-- CHG.ROLE takes the roles 0 to 2 on a port without a device or without power, changing only the role and the CDP
drive, which only role 1 keeps; 3 sets CFG_BAD; on any other port the write sets CFG_BUSY, and CFG_BAD too where it is
3; while the Pod is ENTERING a write of CDP that would refuse the entry is dropped. With CDP the port drives D- while
D+ is high. TEST.MODE 1 to 5 puts a disconnected port that is no DCP, or a suspended one, into TEST: its contexts
close, its items end, and PORT_DISABLED is raised with its data; written 0 it leaves TEST for DISCONNECTED; in other
states it sets CFG_BUSY, and above 5 in any state CFG_BAD; while the Pod or TIME is not ON the write is dropped. That
a write refused as busy shows CFG_BAD too, and that the write is dropped so, are the model's reading (log entries 31
and 62). (spec/05_root_ports.md R186, spec/05_root_ports.md R187, spec/12_power_domains.md R347) -/
def Obligations.RolesAndTests : Prop :=
  (∀ (src : Source) (p : PortId) (v : Word) (s : State), s.Takes src (portPage p) 0x10C → s.Canonical →
    let r := bits v.toNat 0 2
    let vacant := s.ports[p].st = .powerOff ∨ (s.ports[p].st = .disconnected ∧ s.ports[p].conn = false)
    let dropped := s.doms[podDom (podOf p)].st = .entering ∧ r = 1 ∧ s.ports[p].pgood = true
    (r ≠ 3 → vacant → dropped → Answers (.chgRoleWrite src p v) s fun t => Only [] s t) ∧
    (r ≠ 3 → vacant → ¬ dropped →
      Answers (.chgRoleWrite src p v) s fun t => Only [.regs, .ports] s t ∧ RegsBut [at_ (portPage p) 0x10C] s t ∧
        t.fld (at_ (portPage p) 0x10C) 0 2 = r ∧ AllBut p s.ports t.ports ∧
        t.ports[p] = { s.ports[p] with cdpDrive := s.ports[p].cdpDrive && decide (r = 1) }) ∧
    (r = 3 → vacant → Answers (.chgRoleWrite src p v) s fun t => Only [.regs] s t ∧
      t.reg (at_ (portPage p) 8) = s.reg (at_ (portPage p) 8) ||| 2 ∧ RegsBut [at_ (portPage p) 8] s t) ∧
    (¬ vacant →
      Answers (.chgRoleWrite src p v) s fun t => Only [.regs] s t ∧ RegsBut [at_ (portPage p) 8] s t ∧
        Causes s t (portPage p) (if r = 3 then [1, 2] else [2]))) ∧
  (∀ (p : PortId) (s : State), s.portLive p = true →
    (s.ports[p].st = .disconnected → s.fld (at_ (portPage p) 0x10C) 0 2 = 1 → Answers (.cdpDplusHigh p) s fun t =>
      Only [.ports] s t ∧ AllBut p s.ports t.ports ∧ t.ports[p] = { s.ports[p] with cdpDrive := true }) ∧
    Answers (.cdpDplusLow p) s fun t => Only [.ports] s t ∧ AllBut p s.ports t.ports ∧
      t.ports[p] = { s.ports[p] with cdpDrive := false }) ∧
  ∀ (src : Source) (p : PortId) (v : Word) (s : State), s.Takes src (portPage p) 0x110 → s.Canonical →
    let m := bits v.toNat 0 3
    let takes := s.ports[p].st = .test ∨ s.ports[p].st = .suspended ∨ (s.ports[p].st = .disconnected ∧
      s.isDcp p = false)
    (5 < m → Answers (.testModeWrite src p v) s fun t => Only [.regs] s t ∧ RegsBut [at_ (portPage p) 8] s t ∧
      (takes → Causes s t (portPage p) [1]) ∧ (¬ takes → Causes s t (portPage p) [1, 2])) ∧
    (m = 0 → s.ports[p].st = .test → Answers (.testModeWrite src p v) s fun t => Only [.regs, .ports] s t ∧
      RegsBut [at_ (portPage p) 0x110] s t ∧ t.fld (at_ (portPage p) 0x110) 0 3 = 0 ∧ AllBut p s.ports t.ports ∧
      t.ports[p] = { s.ports[p].quiet with st := .disconnected, conn := false }) ∧
    (m = 0 → s.ports[p].st ≠ .test → Answers (.testModeWrite src p v) s fun t => Only [] s t) ∧
    (1 ≤ m → m ≤ 5 → s.ports[p].st = .test → Answers (.testModeWrite src p v) s fun t => Only [.regs, .ports] s t ∧
      RegsBut [at_ (portPage p) 0x110] s t ∧ t.fld (at_ (portPage p) 0x110) 0 3 = m ∧ AllBut p s.ports t.ports ∧
      t.ports[p] = { s.ports[p] with speed := if m = 5 then 0 else s.ports[p].speed, discDet := false }) ∧
    (1 ≤ m → m ≤ 5 → s.portOn p = false ∨ s.domOn domTIME = false →
      (s.ports[p].st = .suspended ∨ (s.ports[p].st = .disconnected ∧ s.isDcp p = false)) →
      Answers (.testModeWrite src p v) s fun t => Only [] s t) ∧
    (1 ≤ m → m ≤ 5 → s.portOn p = true → s.domOn domTIME = true →
      (s.ports[p].st = .suspended ∨ (s.ports[p].st = .disconnected ∧ s.isDcp p = false)) →
      Answers (.testModeWrite src p v) s fun t => Only [.ordinal, .regs, .seq, .qps, .wis, .park, .events, .ctxs,
        .closed, .posted, .ports] s t ∧
        RegsOf [.port, .qp, .sched, .te, .slice] s t ∧ AllBut p s.ports t.ports ∧
          t.fld (at_ (portPage p) 0x110) 0 3 = m ∧
        t.ports[p] = { s.ports[p].quiet with st := .test, speed := if m = 5 then 0 else s.ports[p].speed } ∧
        (∀ x ∈ t.ctxs, x.port ≠ p) ∧ PortEnds t p none ∧ Raised s t (portPage p) 4 0 2) ∧
    (1 ≤ m → m ≤ 5 → s.ports[p].st ≠ .test → s.ports[p].st ≠ .suspended →
      ¬ (s.ports[p].st = .disconnected ∧ s.isDcp p = false) → Answers (.testModeWrite src p v) s fun t =>
        Only [.regs] s t ∧ RegsBut [at_ (portPage p) 8] s t ∧ Causes s t (portPage p) [2])

/-- At a boundary of a port's frame clock that completes no phase jump the frame index goes on by one, the new
microframe starts now with its trim within the clamp, and a port in ENABLED at high speed sends SOF of its frame; the
cut-off is open again, and each Data Mover channel that waits for this frame is satisfied. A reset or resume whose
first SOF this is makes the port ENABLED, recovering, and raises RESET_DONE or RESUMED. The REF clock moves alike. No
other port and no other clock changes. (spec/05_root_ports.md R171, spec/05_root_ports.md R175,
spec/06_frame_timing.md R192, spec/06_frame_timing.md R193, spec/06_frame_timing.md R194, spec/06_frame_timing.md
R196, spec/06_frame_timing.md R206, spec/10_data_mover.md R303) -/
def Obligations.MicroframeBoundaries : Prop :=
  (∀ (high : Bool) (s : State), s.timeRuns = true → s.refClk.landing = none → Answers (.microframeBoundary .ref high) s
    fun t => Only [.regs, .seq, .qps, .park, .events, .posted, .refClk, .ctl] s t ∧ RegsOf [.time, .qp] s t ∧
      (s.refClk.toAcquire = false → RegsBut [at_ 5 8] s t ∧ t.events = s.events ∧ t.posted = s.posted) ∧
        t.refClk.frindex = s.refClk.frindex + 1 ∧
      t.refClk.lastBoundary = s.now ∧ t.refClk.trim.natAbs ≤ s.clkClamp .ref) ∧
  ∀ (p : PortId) (high : Bool) (s : State), s.timeRuns = true → s.clks[p].landing = none →
    s.ports[p].resetWait = false → s.Canonical → Answers (.microframeBoundary (.port p) high) s fun t =>
      Only [.ordinal, .regs, .seq, .qps, .wis, .park, .events, .ctxs, .closed, .posted, .ports, .clks, .dmchs,
        .reads, .poolPeak] s t ∧ RegsOf [.time, .port, .qp, .sched, .te, .slice] s t ∧
      AllBut p s.ports t.ports ∧ AllBut p s.clks t.clks ∧ t.clks[p].frindex = s.clks[p].frindex + 1 ∧
      t.clks[p].count = s.clks[p].count + 1 ∧ t.clks[p].lastBoundary = s.now ∧
      t.clks[p].trim.natAbs ≤ s.clkClamp (.port p) ∧ t.ports[p].cutPassed = false ∧
      (s.ports[p].st = .enabled → s.ports[p].suspIdle = false → s.ports[p].speed = 0 →
        t.ports[p].st = .enabled ∧ t.ports[p].sofOut = .sof ((s.clks[p].frindex + 1).toNat / 8)) ∧
      (s.ports[p].st = .resetting → s.ports[p].resetEnded = true →
        (s.ports[p].speed = 0 ∨ (s.clks[p].frindex + 1).toNat % 8 = 0) →
        t.ports[p].st = .enabled ∧ t.ports[p].recovering = true ∧
        Raised s t (portPage p) 3 (if s.ports[p].chirp = .failed then 1 else 0) s.ports[p].speed) ∧
      (s.ports[p].st = .resuming → s.ports[p].resumeEnded = true →
        (s.ports[p].speed = 0 ∨ (s.clks[p].frindex + 1).toNat % 8 = 0) →
        t.ports[p].st = .enabled ∧ t.ports[p].recovering = true ∧
        Raised s t (portPage p) 7 (b2n s.ports[p].wakeSeen + 2 * b2n s.ports[p].remote) 0) ∧
      ∀ x : ChId, t.dmchs[x] = { s.dmchs[x] with satisfied := t.dmchs[x].satisfied } ∧
        ∀ k : Nat, s.dmchs[x].st = .waiting → s.dmchs[x].wait = some (.frame p k) →
          (s.clks[p].frindex + 1).toNat % 2 ^ k = 0 → t.dmchs[x].satisfied = true

/-- A write of SOF_SRC or SOF_RATIO, or of REF's, of legal fields that would leave an invalid combination changes only
CFG_BAD, which it sets. One that leaves the clock without a source puts its loop into FREE. With a source and HOLD 0
the loop keeps its state and enters ACQUIRE at the next comparison, its phase detector starting anew; with HOLD 1 a
loop in ACQUIRE or LOCKED goes to HOLDOVER, another stays as it is. A new source is valid until it is lost (the
model's reading, log entries 14 and 23). A change of loop state raises LOCK_CHANGE. While TIME is not ON only the
registers change. TIME.SYNC takes a role that fits REF's source, else sets CFG_BAD. DTIME_SET_HI loads DTIME and
clears ESTIMATED and UNCERT. A TIME_IN edge records DTIME. (spec/06_frame_timing.md R198, spec/06_frame_timing.md
R201, spec/06_frame_timing.md R204, spec/06_frame_timing.md R207, spec/06_frame_timing.md R211,
spec/06_frame_timing.md R212, spec/06_frame_timing.md R216, spec/12_power_domains.md R330) -/
def Obligations.FrameClockSources : Prop :=
  (∀ (c : Instr) (src : Source) (k : ClkId) (ratio : Bool) (v : Word) (s : State),
    let page := match k with
      | .port p => portPage p
      | .ref => 5
    let o := (if ratio then clkRatioAt k else clkSrcAt k) % 4096
    let u := s.plainWrite page o (2 ^ 32 - 1) v
    ((∃ p : PortId, k = .port p ∧ ((c = .sofSrcWrite src p v ∧ ratio = false) ∨ (c = .sofRatioWrite src p v ∧
      ratio = true))) ∨
      (k = .ref ∧ c = .refSrcWrite src ratio v)) → s.Takes src page o → legalWrite page o v = true → s.Canonical →
    (¬ (u.discOk k = true ∧ (k = .ref → u.syncOk = true)) → Answers c s fun t => Only [.regs] s t ∧
      RegsBut [at_ page 8] s t ∧ Causes s t page [(cfgBadBit page)]) ∧
    (u.discOk k = true → (k = .ref → u.syncOk = true) → s.domOn domTIME = false → Answers c s fun t =>
      Only [.regs] s t ∧ RegsBut [at_ page o] s t ∧ t.reg (at_ page o) = u.reg (at_ page o)) ∧
    (u.discOk k = true → (k = .ref → u.syncOk = true) → s.domOn domTIME = true → Answers c s fun t =>
      Only [.regs, .seq, .qps, .park, .events, .posted, .clks, .refClk] s t ∧
        RegsOf [.time, .port, .qp, .slice] s t ∧ t.reg (at_ page o) = u.reg (at_ page o) ∧
      (∀ j : ClkId, j ≠ k → t.clk j = s.clk j) ∧
      (u.clkSrc k = 0 → (t.clk k).ls = .free ∧ (t.clk k).acq = .off ∧ (t.clk k).refOk = false) ∧
      (u.clkSrc k ≠ 0 → u.clkHold k = false → (t.clk k).ls = (s.clk k).ls ∧ (t.clk k).toAcquire = true ∧
        (t.clk k).trim = (s.clk k).trim ∧ (t.clk k).anchor = none ∧ (t.clk k).boundAt = none ∧ (t.clk k).edges = none) ∧
      (u.clkSrc k ≠ 0 → u.clkSrc k ≠ s.clkSrc k → (t.clk k).refOk = true ∧ (t.clk k).lastEdge = none ∧
        (t.clk k).badRun = 0 ∧ (t.clk k).goodRun = 0 ∧ (t.clk k).clampRun = 0) ∧
      (u.clkSrc k ≠ 0 → u.clkHold k = true → ((s.clk k).ls = .acquire ∨ (s.clk k).ls = .locked) →
        (t.clk k).ls = .holdover ∧ (t.clk k).toAcquire = false) ∧
      (u.clkSrc k ≠ 0 → u.clkHold k = true → ((s.clk k).ls = .free ∨ (s.clk k).ls = .holdover) →
        (t.clk k).ls = (s.clk k).ls ∧ (t.clk k).toAcquire = false) ∧
      ((t.clk k).ls ≠ (s.clk k).ls → Raised s t 5 1 (lsCode (t.clk k).ls) (clkNumber k) ∧
        (Causes s t 5 [1] ∨ ((t.clk k).ls = .holdover ∧ Causes s t 5 [1, 3]))))) ∧
  (∀ (src : Source) (v : Word) (s : State), s.Takes src 5 0x15C → legalWrite 5 0x15C v = true → s.Canonical →
    ((s.clkSrc .ref = 6 ↔ bits v.toNat 0 2 = 2) → Answers (.syncWrite src v) s fun t => Only [.regs, .ctl] s t ∧
      RegsBut [at_ 5 0x15C] s t ∧ t.role = bits v.toNat 0 2 ∧
      t.fld (at_ 5 0x15C) 8 6 = bits v.toNat 8 6) ∧
    (¬ (s.clkSrc .ref = 6 ↔ bits v.toNat 0 2 = 2) → Answers (.syncWrite src v) s fun t => Only [.regs] s t ∧
      RegsBut [at_ 5 8] s t ∧ Causes s t 5 [0])) ∧
  (∀ (src : Source) (v : Word) (s : State), s.Takes src 5 0x10C → s.Canonical → Answers (.dtimeSet src v) s fun t =>
    Only [.regs, .dtime, .ctl] s t ∧ RegsBut [at_ 5 0x10C, at_ 5 0x018, at_ 5 0x110] s t ∧
    t.dtime = v ++ s.reg (at_ 5 0x108) ∧ t.flag (at_ 5 0x018) 0 = false ∧ t.reg (at_ 5 0x110) = 0 ∧
    t.ctl = { s.ctl with windowOff := true }) ∧
  ∀ s : State, s.timeRuns = true → s.Canonical → Answers .ppsEdge s fun t => Only [.regs] s t ∧
    RegsBut [at_ 5 0x120, at_ 5 0x124, at_ 5 8] s t ∧ t.reg (at_ 5 0x120) = s.dtime.setWidth 32 ∧
    t.reg (at_ 5 0x124) = (s.dtime >>> 32).setWidth 32 ∧ Causes s t 5 [4]

/-- While the Frame Timer runs: each WC_COUNT-th edge of a clock's reference is compared with its boundary, in 64ths
of a bit time; the comparison records the phase error, and moves the trim at step TRACK and in LOCKED only, within its
clamp by at most 64; where an accepted write asked for it the loop enters ACQUIRE there. The preset is the nearest
integer to the measured frequency error, within the clamp; step PHASE follows, and once the phase is slewed out TRACK.
LOCK_CNT comparisons within the window lock the loop; one that strays acquires again. A reference under a condition of
R200 that was valid takes ACQUIRE or LOCKED to HOLDOVER and sets its cause; a follower that no edge reached loses
FSYNC_IN with FSYNC_LOST, its reference being valid until then or not. 16 valid comparisons bring it back, and from
HOLDOVER with HOLD 0 it acquires. An FSYNC_IN edge is noted by a follower only; a wide one while REF is LOCKED, or in
the cycle in which it enters HOLDOVER, and its frame number is not 0, sets it to 0 with FSYNC_NUM. When FSYNC_OK sets
and clears is the model's choice (log entry 14). (spec/06_frame_timing.md R196, spec/06_frame_timing.md R197,
spec/06_frame_timing.md R199, spec/06_frame_timing.md R200, spec/06_frame_timing.md R201, spec/06_frame_timing.md
R202, spec/06_frame_timing.md R204, spec/06_frame_timing.md R208, spec/06_frame_timing.md R215) -/
def Obligations.DisciplineLoop : Prop :=
  (∀ (k : ClkId) (ago : Nat) (s : State), s.timeRuns = true → s.clkSrc k ≠ 0 → ¬ (k = .ref ∧ s.clkSrc k = 6) →
    let at_e := if s.clkSrc k = 6 then s.refClk.lastBoundary else s.now - ago
    let due := (s.clk k).toAcquire = true
    Answers (.phaseComparison k ago) s fun t =>
      Only [.regs, .seq, .qps, .park, .events, .posted, .clks, .refClk] s t ∧
        RegsOf [.time, .port, .qp, .slice] s t ∧ (∀ j : ClkId, j ≠ k → t.clk j = s.clk j) ∧
      ((t.clk k).ls = (s.clk k).ls ∨ (due ∧ (t.clk k).ls = .acquire ∧ (t.clk k).acq = .freq)) ∧
      (¬ due → RegsBut [at_ 5 8] s t ∧ t.events = s.events ∧ t.posted = s.posted) ∧ (t.clk k).lastEdge = some at_e ∧
      (∀ n b : Nat, (s.clk k).edges = some n → s.edgesPer k ≤ n + 1 → (s.clk k).boundAt = some b →
        (t.clk k).phaseErr = clampTo (2 ^ 23 - 1) (64 * at_e - 64 * b) ∧ (t.clk k).lastE = 64 * at_e - 64 * b ∧
        (t.clk k).boundAt = none ∧ (t.clk k).edges = some 0 ∧
        (due → (t.clk k).ls = .acquire ∧ (t.clk k).acq = .freq ∧ (t.clk k).toAcquire = false ∧
          (t.clk k).firstE = some (64 * at_e - 64 * b) ∧ (t.clk k).freqCount = 0 ∧ (t.clk k).trim = (s.clk k).trim ∧
          ((s.clk k).ls ≠ .acquire → Causes s t 5 [1] ∧ Raised s t 5 1 1 (clkNumber k)))) ∧
      (∀ n : Nat, (s.clk k).edges = some n → n + 1 < s.edgesPer k →
        (t.clk k).edges = some (n + 1) ∧ (t.clk k).phaseErr = (s.clk k).phaseErr ∧ (t.clk k).trim = (s.clk k).trim) ∧
      ((s.clk k).trim.natAbs ≤ s.clkClamp k →
        (t.clk k).trim.natAbs ≤ s.clkClamp k ∧ ((t.clk k).trim - (s.clk k).trim).natAbs ≤ 64) ∧
      (¬ ((s.clk k).ls = .locked ∨ ((s.clk k).ls = .acquire ∧ (s.clk k).acq = .track)) →
        (t.clk k).trim = (s.clk k).trim)) ∧
  (∀ (k : ClkId) (ago : Nat) (s : State), s.timeRuns = true → (s.clkSrc k = 0 ∨ (k = .ref ∧ s.clkSrc k = 6)) →
    Answers (.phaseComparison k ago) s fun t => Only [] s t) ∧
  (∀ (k : ClkId) (e0 : Int) (s : State), s.timeRuns = true → (s.clk k).ls = .acquire →
    ((s.clk k).acq = .freq → (s.clk k).firstE = some e0 → s.freqLen k ≤ (s.clk k).freqCount →
      0 < (s.clk k).freqCount * s.ufPer k →
      Answers (.freqPreset k) s fun t => Only [.regs, .clks, .refClk] s t ∧ RegsBut [at_ 5 8] s t ∧
        (∀ j : ClkId, j ≠ k → t.clk j = s.clk j) ∧ (t.clk k).acq = .phase ∧ (t.clk k).trim = (t.clk k).preset ∧
        (∃ n : Int, (t.clk k).preset = clampTo (s.clkClamp k) n ∧
          2 * (n * ((s.clk k).freqCount * s.ufPer k : Nat) - ((s.clk k).lastE - e0)).natAbs ≤
            (s.clk k).freqCount * s.ufPer k) ∧
        ∃ n er : Int, (s.clk k).lastE = 3840000 * n + er ∧ er.natAbs ≤ 1920000 ∧
          (t.clk k).anchor = (s.clk k).anchor.map (fun a => a + n) ∧
          (k = .ref → (t.clk k).phaseStep = true ∧ (t.clk k).rem = 0 ∧
            (t.clk k).jump = some (er, if s.clkSrc k = 6 then -n else 0)) ∧
          (∀ p : PortId, k = .port p →
            let jumps := s.ports[p].st = .powerOff ∨ s.ports[p].st = .disconnected ∨
              s.ports[p].st = .disabledError ∨ s.ports[p].st = .suspended
            (jumps → (t.clk k).phaseStep = true ∧ (t.clk k).rem = 0 ∧ (t.clk k).jump = some (er, 0)) ∧
            (¬ jumps → (t.clk k).phaseStep = false ∧ (t.clk k).rem = er ∧ (t.clk k).jump = none))) ∧
    ((s.clk k).acq = .phase → (s.clk k).rem = 0 → (s.clk k).jump = none → (s.clk k).landing = none →
      Answers (.phaseSlewDone k) s fun t => Only [.regs, .clks, .refClk] s t ∧ RegsBut [at_ 5 8] s t ∧
        (∀ j : ClkId, j ≠ k → t.clk j = s.clk j) ∧ (t.clk k).acq = .track ∧ (t.clk k).integ = (s.clk k).preset) ∧
    ((s.clk k).acq = .track → s.lockCnt k ≤ (s.clk k).inWin → Answers (.lockAcquired k) s fun t =>
      Only [.regs, .seq, .qps, .park, .events, .posted, .clks, .refClk] s t ∧ RegsOf [.time, .qp] s t ∧
        (∀ j : ClkId, j ≠ k → t.clk j = s.clk j) ∧
      (t.clk k).ls = .locked ∧ (t.clk k).acq = .off ∧ Raised s t 5 1 2 (clkNumber k))) ∧
  (∀ (k : ClkId) (s : State), s.timeRuns = true → s.Canonical →
    ((s.clk k).ls = .locked → (s.clk k).refOk = true → s.lockCnt k ≤ (s.clk k).outWin →
      Answers (.lockLost k) s fun t => Only [.regs, .seq, .qps, .park, .events, .posted, .clks, .refClk] s t ∧
        RegsOf [.time, .qp] s t ∧
        (∀ j : ClkId, j ≠ k → t.clk j = s.clk j) ∧ (t.clk k).ls = .acquire ∧ (t.clk k).acq = .freq ∧
        (t.clk k).trim = (s.clk k).trim ∧ Causes s t 5 [1] ∧ Raised s t 5 1 1 (clkNumber k)) ∧
    (s.clkSrc k ≠ 0 → s.refBad k = true → (s.clk k).refOk = true → ((s.clk k).ls = .acquire ∨ (s.clk k).ls = .locked) →
      Answers (.refLost k) s fun t => Only [.regs, .seq, .qps, .park, .events, .posted, .clks, .refClk, .ctl] s t ∧
        RegsOf [.time, .qp] s t ∧
        (∀ j : ClkId, j ≠ k → t.clk j = s.clk j) ∧ (t.clk k).ls = .holdover ∧ (t.clk k).refOk = false ∧
        Raised s t 5 1 3 (clkNumber k) ∧
        (k = .ref ∧ s.role = 2 ∧ s.edgeLate k = true →
          (Causes s t 5 [1, 2, 5] ∨ Causes s t 5 [1, 2, 3, 5]) ∧ t.ctl = { s.ctl with fsyncOk := false }) ∧
        (¬ (k = .ref ∧ s.role = 2 ∧ s.edgeLate k = true) →
          (Causes s t 5 [1, 2] ∨ Causes s t 5 [1, 2, 3]) ∧ t.ctl = s.ctl)) ∧
    (s.clkSrc .ref ≠ 0 → s.role = 2 → s.edgeLate .ref = true → s.refClk.refOk = false → s.ctl.fsyncOk = true →
      k = .ref → Answers (.refLost k) s fun t => Only [.regs, .seq, .qps, .park, .events, .posted, .ctl] s t ∧
        RegsOf [.time, .qp] s t ∧
        Causes s t 5 [5] ∧ Raised s t 5 3 0 0 ∧ t.ctl = { s.ctl with fsyncOk := false }) ∧
    ((s.refBad k = false ∨ s.clkSrc k = 0) → Answers (.refLost k) s fun t => Only [] s t) ∧
    (s.clkSrc k ≠ 0 → (s.clk k).refOk = false → 16 ≤ (s.clk k).goodRun → (s.clk k).ls = .holdover →
      s.clkHold k = false →
      Answers (.refRecovered k) s fun t => Only [.regs, .seq, .qps, .park, .events, .posted, .clks, .refClk] s t ∧
        RegsOf [.time, .qp] s t ∧
        (∀ j : ClkId, j ≠ k → t.clk j = s.clk j) ∧ (t.clk k).refOk = true ∧ (t.clk k).ls = .acquire ∧
        (t.clk k).acq = .freq ∧ Raised s t 5 1 1 (clkNumber k)) ∧
    ((s.clk k).goodRun < 16 → Answers (.refRecovered k) s fun t => Only [] s t)) ∧
  ∀ (wide : Bool) (ago : Nat) (s : State), s.timeRuns = true →
    (s.role = 2 → Answers (.fsyncInEdge wide ago) s fun t =>
      Only [.regs, .seq, .qps, .park, .events, .posted, .clks, .refClk, .ctl] s t ∧
        RegsOf [.time, .port, .qp, .slice] s t ∧
      t.clks = s.clks ∧ t.ctl = { s.ctl with fsyncOk := true } ∧
        (t.refClk.lastEdge = some (s.now - ago) ∨ s.clkSrc .ref = 0) ∧
      (wide = true → (s.refClk.ls = .locked ∨ (s.refClk.ls = .holdover ∧ s.refClk.heldAt = some s.now)) →
        s.refClk.frindex.toNat / 8 ≠ 0 → s.Canonical →
        t.caused 5 6 ∧ Raised s t 5 4 0 0 ∧ t.refClk.frindex = s.refClk.frindex &&& 7) ∧
      (wide = true → s.refClk.ls = .acquire → s.refClk.numbered = false →
        t.refClk.numbered = true ∨ s.refClk.toAcquire = true) ∧
      (wide = false → t.refClk.frindex = s.refClk.frindex)) ∧
    (s.role ≠ 2 → Answers (.fsyncInEdge wide ago) s fun t => Only [] s t)

/-- With the region link working: an on request of a channel that is OFF and admitted at every level takes the claim
and a full count of retries and starts the ramp, or is held with PEND_ON while a condition holds attempts; its Pod is
asked ON. One that is not admitted changes only PKG.ADMIT and the causes. With ILIM 0 it sets only its cause, in
ACORN_ONLY only FW.CAUSE.ACORN_ONLY. In RAMP, SETTLE or ON it changes nothing; in RETRY_WAIT or LATCHED it starts, or
is held, with the retries restored. An off request puts the channel OFF and releases the claim, or withdraws a held
attempt. While the link is lost either waits; a waiting on request starts the root PLL. That a request that waits
needs the PLL, the order of the queue, and the withdrawal of a held attempt whatever asked for it are the model's
reading (log entries 7 and 40). (spec/01_device_organisation.md R21, spec/07_husk_power_path.md R222,
spec/07_husk_power_path.md R223, spec/07_husk_power_path.md R237, spec/07_husk_power_path.md R238,
spec/07_husk_power_path.md R240, spec/08_regions_feeds_budgets.md R257, spec/13_firmware_and_settings.md R355,
spec/12_power_domains.md R343, spec/12_power_domains.md R341) -/
def Obligations.HuskRequests : Prop :=
  ∀ (src : Source) (n : PortId) (s : State), s.Takes src (huskPage n) 0x014 → s.Canonical →
    (s.fw.mc = .acornOnly → Answers (.huskOn src n) s fun t => Only [.regs] s t ∧ RegsBut [at_ 4 8] s t ∧
      Causes s t 4 [4]) ∧
    (s.fw.mc ≠ .acornOnly → s.linkDown (regionOf n) = true → Answers (.huskOn src n) s fun t =>
      Only [.husks, .ctl] s t ∧ AllBut n s.husks t.husks ∧
      t.husks[n] = { s.husks[n] with wait := s.husks[n].wait ++ [(true, none)] } ∧
      t.ctl = if s.ctl.pllStopped then { s.ctl with pllStopped := false, pllWaits := true } else s.ctl) ∧
    (s.fw.mc ≠ .acornOnly → s.linkDown (regionOf n) = false →
      (s.ilim n = 0 → Answers (.huskOn src n) s fun t => Only [.regs] s t ∧ RegsBut [at_ (huskPage n) 8] s t ∧
        Causes s t (huskPage n) [3]) ∧
      (s.ilim n ≠ 0 → s.husks[n].st = .off → s.admitLevel n (s.ilim n) = 0 → Answers (.huskOn src n) s fun t =>
        Only [.husks, .regs, .doms, .ctl] s t ∧ RegsOf [.pwrdom] s t ∧ AllBut n s.husks t.husks ∧
        t.husks[n].claim = true ∧ t.husks[n].retriesLeft = s.retryCount n ∧
        (s.doms[podDom (podOf n)].st ≠ .on → t.doms[podDom (podOf n)].target = 0)) ∧
      (s.ilim n ≠ 0 → s.husks[n].st = .off → s.admitLevel n (s.ilim n) = 0 → s.attemptHeld n = true →
        Answers (.huskOn src n) s fun t => t.husks[n] =
            { s.husks[n] with claim := true, retriesLeft := s.retryCount n, pendOwn := true } ∧
          Only [.husks, .regs, .doms, .ctl] s t) ∧
      (s.ilim n ≠ 0 → s.husks[n].st = .off → s.admitLevel n (s.ilim n) = 0 → s.attemptHeld n = false →
        s.doms[podDom (podOf n)].st = .on → s.doms[podDom (podOf n)].phase = .none → s.ctl.pllLock = true →
        s.ctl.pllStopped = false → Answers (.huskOn src n) s fun t => Only [.husks] s t ∧
          t.husks[n].st = .ramp ∧ t.husks[n].pendOn = false ∧ t.husks[n].rampAt = s.now) ∧
      (s.ilim n ≠ 0 → s.husks[n].st = .off → s.admitLevel n (s.ilim n) ≠ 0 → Answers (.huskOn src n) s fun t =>
        Only [.regs] s t ∧ RegsBut [at_ 6 0x11C, at_ 6 8, at_ (huskPage n) 8] s t ∧ Causes s t 6 [1] ∧
        Causes s t (huskPage n) [2] ∧ t.fld (at_ 6 0x11C) 0 6 = n.val ∧
          t.fld (at_ 6 0x11C) 8 3 = s.admitLevel n (s.ilim n)) ∧
      (s.ilim n ≠ 0 → (s.husks[n].st = .ramp ∨ s.husks[n].st = .settle ∨ s.husks[n].st = .on) →
        Answers (.huskOn src n) s fun t => Only [] s t) ∧
      (s.ilim n ≠ 0 → (s.husks[n].st = .retryWait ∨ s.husks[n].st = .latched) → s.attemptHeld n = false →
        Answers (.huskOn src n) s fun t => Only [.husks] s t ∧ AllBut n s.husks t.husks ∧ t.husks[n].st = .ramp ∧
          t.husks[n].retriesLeft = s.retryCount n ∧ t.husks[n].claim = s.husks[n].claim) ∧
      (s.ilim n ≠ 0 → (s.husks[n].st = .retryWait ∨ s.husks[n].st = .latched) → s.attemptHeld n = true →
        Answers (.huskOn src n) s fun t => Only [.husks] s t ∧ AllBut n s.husks t.husks ∧
          t.husks[n] = { s.husks[n] with retriesLeft := s.retryCount n, pendOwn := true })) ∧
    (s.linkDown (regionOf n) = true → Answers (.huskOff src n) s fun t => Only [.husks] s t ∧
      AllBut n s.husks t.husks ∧ t.husks[n] = { s.husks[n] with wait := s.husks[n].wait ++ [(false, none)] }) ∧
    (s.linkDown (regionOf n) = false → s.husks[n].st ≠ .off → Answers (.huskOff src n) s fun t =>
      Only [.ordinal, .regs, .seq, .qps, .wis, .park, .events, .ctxs, .closed, .posted, .ports, .husks, .regions,
        .cfs, .ctl] s t ∧ AllBut n s.husks t.husks ∧ AllBut n s.ports t.ports ∧ t.husks[n].st = .off ∧
      t.husks[n].claim = false ∧ t.husks[n].offReason = 0 ∧ t.husks[n].pgn = false ∧
      (s.Told (regionOf n) → t.ports[n].st = .powerOff ∧ t.ports[n].pgood = false)) ∧
    (s.linkDown (regionOf n) = false → s.husks[n].st = .off → s.husks[n].pendOn = true →
      (∀ x ∈ s.wis, x.port = n.val → x.op ≠ .portPowerReq) → Answers (.huskOff src n) s fun t =>
        Only [.husks, .regions, .ctl] s t ∧ AllBut n s.husks t.husks ∧ t.husks[n] =
          { s.husks[n] with pendOwn := false, pendItem := false, pendRetry := false, claim := false }) ∧
    (s.linkDown (regionOf n) = false → s.husks[n].st = .off → s.husks[n].pendOn = false →
      Answers (.huskOff src n) s fun t => Only [] s t)

/-- A PORT_POWER_REQ whose slice had no power authority when it entered SERVICE ends with DENIED 0x01. With it and the
link working, an on request of a channel that is ON ends OK, one that is admitted, of a channel that is OFF, or of one
that is LATCHED goes on in SERVICE while the channel ramps or its attempt is held, and one that is not admitted, has
ILIM 0 or comes in ACORN_ONLY ends with PORT_GONE 0x02; an off request ends OK with the channel OFF. A request that
has not started in its second ends with XFER_TIMEOUT 0x05 and is withdrawn; what else asked for the attempt goes on
asking. A held attempt starts once nothing holds attempts. The end of the off time starts a retry, which costs one of
the retries unless they are unlimited. The shares of a held attempt, when it counts as a retry, and the link that is
lost for its second are the model's reading (log entries 40 and 52). (spec/07_husk_power_path.md R222,
spec/07_husk_power_path.md R223, spec/07_husk_power_path.md R224, spec/07_husk_power_path.md R237,
spec/07_husk_power_path.md R238, spec/09_slices.md R275, spec/07_husk_power_path.md R245,
spec/08_regions_feeds_budgets.md R257, spec/13_firmware_and_settings.md R355) -/
def Obligations.PowerItemsAndAttempts : Prop :=
  (∀ (id : Nat) (it : Item) (n : PortId) (s : State), s.serving id = some it → it.op = .portPowerReq →
    it.x.ctxReady = true → it.x.running = false → portId? it.port = some n → s.Canonical →
    let on := bitAt (eLength it.entry) 0
    (it.x.powerOk = false → s.Live it → it.listDone → Answers (.portPowerReq id) s fun t =>
      Ended s t it 0x0A 1 0 s.posted ∧ Only [.ordinal, .regs, .seq, .qps, .wis, .park, .ctxs, .closed, .posted] s t ∧
        RegsOf [.qp, .sched] s t) ∧
    (it.x.powerOk = true → on = true → s.fw.mc ≠ .acornOnly → s.linkDown (regionOf n) = false →
      s.ilim n ≠ 0 → s.husks[n].st = .on → s.Live it → it.listDone → Answers (.portPowerReq id) s fun t =>
        Ended s t it 0 0 0 s.posted ∧ Only [.ordinal, .regs, .seq, .qps, .wis, .park, .ctxs, .closed, .posted] s t ∧
          RegsOf [.qp, .sched] s t) ∧
    (it.x.powerOk = true → on = true → s.fw.mc ≠ .acornOnly → s.linkDown (regionOf n) = false →
      s.ilim n ≠ 0 → s.husks[n].st = .latched → s.attemptHeld n = false → Answers (.portPowerReq id) s fun t =>
        Only [.wis, .husks] s t ∧ OthersKept s t id ∧ t.Has id (fun x => x.x.running = true) ∧
        AllBut n s.husks t.husks ∧ t.husks[n].st = .ramp) ∧
    (it.x.powerOk = true → on = true → s.fw.mc ≠ .acornOnly → s.linkDown (regionOf n) = false →
      s.ilim n ≠ 0 → s.husks[n].st = .off → s.admitLevel n (s.ilim n) = 0 → Answers (.portPowerReq id) s fun t =>
        Only [.wis, .husks, .regs, .doms, .ctl] s t ∧ RegsOf [.pwrdom] s t ∧ OthersKept s t id ∧
        t.Has id (fun x => x.x.running = true ∧ x.st = it.st) ∧ AllBut n s.husks t.husks ∧
        t.husks[n].claim = true ∧ t.husks[n].retriesLeft = s.retryCount n ∧
        (s.attemptHeld n = true → t.husks[n].st = .off ∧ t.husks[n].pendItem = true) ∧
        (s.attemptHeld n = false → s.doms[podDom (podOf n)].st = .on → s.doms[podDom (podOf n)].phase = .none →
          s.ctl.pllLock = true → s.ctl.pllStopped = false → t.husks[n].st = .ramp ∧ t.husks[n].rampAt = s.now)) ∧
    (it.x.powerOk = true → on = true → s.fw.mc ≠ .acornOnly → s.linkDown (regionOf n) = false →
      s.ilim n ≠ 0 → s.husks[n].st = .off → s.admitLevel n (s.ilim n) ≠ 0 → s.Live it → it.listDone →
      Answers (.portPowerReq id) s fun t => Ended s t it 0x0B 2 0 s.posted ∧
        Only [.ordinal, .regs, .seq, .qps, .wis, .park, .ctxs, .closed, .posted] s t ∧
        RegsOf [.qp, .sched, .pkg, .husk] s t ∧ Causes s t 6 [1] ∧ Causes s t (huskPage n) [2] ∧
        t.fld (at_ 6 0x11C) 0 6 = n.val ∧ t.fld (at_ 6 0x11C) 8 3 = s.admitLevel n (s.ilim n)) ∧
    (it.x.powerOk = true → on = true → s.fw.mc ≠ .acornOnly → s.linkDown (regionOf n) = false → s.ilim n = 0 →
      s.Live it → it.listDone → Answers (.portPowerReq id) s fun t => Ended s t it 0x0B 2 0 s.posted ∧
        Only [.ordinal, .regs, .seq, .qps, .wis, .park, .ctxs, .closed, .posted] s t ∧
          RegsOf [.qp, .sched, .husk] s t ∧ Causes s t (huskPage n) [3]) ∧
    (it.x.powerOk = true → on = true → s.fw.mc = .acornOnly → s.Live it → it.listDone →
      Answers (.portPowerReq id) s fun t => Ended s t it 0x0B 2 0 s.posted ∧
        Only [.ordinal, .regs, .seq, .qps, .wis, .park, .ctxs, .closed, .posted] s t ∧
          RegsOf [.qp, .sched, .fw] s t ∧ Causes s t 4 [4]) ∧
    (it.x.powerOk = true → on = false → s.linkDown (regionOf n) = false → s.husks[n].st ≠ .off →
      s.Live it → it.listDone → Answers (.portPowerReq id) s fun t => Only [.ordinal, .regs, .seq, .qps, .wis, .park,
        .events, .ctxs, .closed, .posted, .ports, .husks, .regions, .cfs, .ctl] s t ∧ AllBut n s.husks t.husks ∧
        t.husks[n].st = .off ∧ t.husks[n].claim = false ∧ EndedWith s t it 0 0 0)) ∧
  (∀ (it : Item) (n : PortId) (s : State), s.held = false → s.fatal = false → s.item? it.id = some it →
    it.op = .portPowerReq → it.inService = true → it.x.running = true → portId? it.port = some n → s.Live it → it.listDone →
    s.Canonical →
    ((∃ w ∈ s.husks[n].wait, w.2 = some it.id) → Answers (.powerReqTimeout it.id) s fun t =>
      Ended s t it 0x0E 5 0 s.posted ∧
        Only [.ordinal, .regs, .seq, .qps, .wis, .park, .ctxs, .closed, .posted, .husks, .regions, .ctl] s t ∧
        RegsOf [.qp, .sched] s t ∧
      AllBut n s.husks t.husks ∧
      t.husks[n] = { s.husks[n] with wait := s.husks[n].wait.filter (fun e => e.2 != some it.id) }) ∧
    ((∀ w ∈ s.husks[n].wait, w.2 ≠ some it.id) → s.husks[n].pendItem = true → bitAt (eLength it.entry) 0 = true →
      s.otherAsks n it.id = false → Answers (.powerReqTimeout it.id) s fun t => Ended s t it 0x0E 5 0 s.posted ∧
        Only [.ordinal, .regs, .seq, .qps, .wis, .park, .ctxs, .closed, .posted, .husks, .regions, .ctl] s t ∧
          RegsOf [.qp, .sched] s t ∧ AllBut n s.husks t.husks ∧
        t.husks[n] = { s.husks[n] with
          pendItem := false, claim := s.husks[n].claim && (s.husks[n].st != .off || s.husks[n].pendOwn) })) ∧
  ∀ (n : PortId) (s : State),
    (s.husks[n].pendOn = true → s.attemptHeld n = false → Answers (.attemptStart n) s fun t => Only [.husks] s t ∧
      AllBut n s.husks t.husks ∧ t.husks[n].st = .ramp ∧ t.husks[n].pendOn = false ∧
      t.husks[n].claim = s.husks[n].claim ∧
      t.husks[n].isRetry = (!s.husks[n].pendOwn && !s.husks[n].pendItem)) ∧
    (s.attemptHeld n = true → Answers (.attemptStart n) s fun t => Only [] s t) ∧
    (s.husks[n].st = .retryWait → Answers (.retryOffEnd n) s fun t => Only [.husks] s t ∧
      AllBut n s.husks t.husks ∧
      (s.attemptHeld n = true → t.husks[n] = { s.husks[n] with pendRetry := true }) ∧
      (s.attemptHeld n = false → t.husks[n].st = .ramp ∧ t.husks[n].isRetry = true ∧
        t.husks[n].retriesLeft = if s.unlimited n then s.husks[n].retriesLeft else s.husks[n].retriesLeft - 1))

/-- In RAMP, V_OUT at 95 % and a fully enhanced gate together start SETTLE, whichever comes last; the breaker
accumulators start from 0 with the gate. At TRAMP a channel between 90 and 95 % is released. A dip in SETTLE restarts
PG_DLY. The end of PG_DLY makes the channel ON with PG_N asserted; the port then has power-good, and leaves POWER_OFF
for DISCONNECTED where its Pod is ON, at once over a working link, else when the report arrives. Ten seconds of ON
restore the retries. Nothing else in the power dies changes. (spec/05_root_ports.md R164, spec/05_root_ports.md R191,
spec/07_husk_power_path.md R221, spec/07_husk_power_path.md R226, spec/07_husk_power_path.md R227,
spec/07_husk_power_path.md R230, spec/07_husk_power_path.md R238, spec/12_power_domains.md R343) -/
def Obligations.RampAndPowerGood : Prop :=
  ∀ (n : PortId) (s : State),
    (s.husks[n].st = .ramp → Answers (.rampVout95 n) s fun t => Only [.husks] s t ∧ AllBut n s.husks t.husks ∧
      t.husks[n] = { s.husks[n] with v95 := true, st := if s.husks[n].full then .settle else .ramp,
                                      settleAt := if s.husks[n].full then s.now else s.husks[n].settleAt }) ∧
    (s.husks[n].st = .ramp → s.husks[n].full = false → (s.husks[n].v95 = true ∨ s.husks[n].released = true) →
      Answers (.gateEnhanced n) s fun t => Only [.husks] s t ∧ AllBut n s.husks t.husks ∧ t.husks[n] =
        { s.husks[n] with full := true, acc := [0, 0, 0, 0, 0, 0, 0, 0, 0],
                           st := if s.husks[n].v95 then .settle else .ramp,
                           settleAt := if s.husks[n].v95 then s.now else s.husks[n].settleAt }) ∧
    (s.husks[n].st = .ramp → (Answers (.trampExpiry n .from90to95) s fun t => Only [.husks] s t ∧
        AllBut n s.husks t.husks ∧ t.husks[n] = { s.husks[n] with released := true }) ∧
      Answers (.trampExpiry n .above95) s fun t => Only [] s t) ∧
    (s.husks[n].released = false → Answers (.rampReleaseExpiry n) s fun t => Only [] s t) ∧
    (s.husks[n].st = .settle → Answers (.settleDip n) s fun t => Only [.husks] s t ∧ AllBut n s.husks t.husks ∧
      t.husks[n] = { s.husks[n] with settleAt := s.now }) ∧
    (s.husks[n].st = .settle → Answers (.pgDlyExpiry n) s fun t => Only [.ordinal, .regs, .seq, .qps, .wis, .park,
      .events, .ctxs, .closed, .posted, .ports, .husks, .regions, .cfs, .ctl] s t ∧ AllBut n s.husks t.husks ∧
      t.husks[n] = { s.husks[n] with st := .on, pgn := true } ∧
      (s.Told (regionOf n) → AllBut n s.ports t.ports ∧ t.regions = s.regions ∧ t.ports[n].pgood = true ∧
        (s.ports[n].st = .powerOff → s.domOn (podDom (podOf n)) = true →
          t.ports[n].st = .disconnected ∧ t.ports[n].conn = false) ∧
        (s.ports[n].st ≠ .powerOff → t.ports[n] = { s.ports[n] with pgood := true })) ∧
      (¬ s.Told (regionOf n) → t.ports = s.ports ∧ AllBut (regionOf n) s.regions t.regions ∧
        t.regions[regionOf n] =
          { s.regions[regionOf n] with reports := s.regions[regionOf n].reports ++ [.pgood n] })) ∧
    (s.husks[n].st = .on → Answers (.onHold10s n) s fun t => Only [.husks] s t ∧ AllBut n s.husks t.husks ∧
      t.husks[n] = { s.husks[n] with retriesLeft := s.retryCount n, isRetry := false })

/-- A channel in RAMP, SETTLE or ON trips on the fast trip, on either temperature, when TRAMP or its release ends too
low, when PG_DLY does not end in time, and when a breaker accumulator has reached its time. It goes to RETRY_WAIT, or
to LATCHED where no retry is left, keeps its claim, records the reason, and the control die takes the report: the
count, TRIP, the stamp, OVERCURRENT and the loss of power at the port, and LATCHED. A channel that does not drive does
not trip, nor one below TTRIP by its temperatures. In RAMP the current is held to PLIM by V_DS, at most 0.8 of FAST.
With the gate enhanced a sample adds to each accumulator whose current is above its threshold and takes an eighth from
the others. The current of a sample in RAMP, and that a temperature trips only at its limit, are the model's reading
(log entry 41). (spec/05_root_ports.md R164, spec/07_husk_power_path.md R225, spec/07_husk_power_path.md R226,
spec/07_husk_power_path.md R227, spec/07_husk_power_path.md R231, spec/07_husk_power_path.md R234,
spec/07_husk_power_path.md R235, spec/07_husk_power_path.md R236, spec/07_husk_power_path.md R237,
spec/07_husk_power_path.md R238, spec/07_husk_power_path.md R242) -/
def Obligations.BreakerAndTrips : Prop :=
  (∀ (c : Instr) (n : PortId) (d : Int) (reason : Nat) (s : State), s.Canonical → s.husks[n].driven = true →
    (c = .fastTrip n ∧ reason = 1 ∨ c = .tempTrip n ⟨false, d⟩ ∧ reason = 3 ∧ s.ttrip n ≤ d ∨
     c = .tempTrip n ⟨true, d⟩ ∧ reason = 4 ∧ 10 ^ 9 * s.ttrip n ≤ s.modelTemp n ∨
     c = .pgTimeout n ∧ reason = 6 ∧ s.husks[n].st = .settle ∨
     c = .trampExpiry n .below90 ∧ reason = 2 ∧ s.husks[n].st = .ramp ∨
     c = .rampReleaseExpiry n ∧ reason = 2 ∧ s.husks[n].st = .ramp ∧ s.husks[n].released = true ∧
       s.husks[n].v95 = false ∨
     c = .breakerTrip n ∧ s.husks[n].full = true ∧ breakerReason s.husks[n] = some reason) →
    Answers c s fun t => Tripped s t n reason ∧
      Only [.ordinal, .regs, .seq, .qps, .wis, .park, .events, .ctxs, .closed, .posted, .ports, .husks, .regions,
      .cfs, .ctl] s t ∧ AllBut n s.ports t.ports) ∧
  (∀ (n : PortId) (m : Bool) (d : Int) (mA vds : Nat) (s : State),
    (s.husks[n].driven = false → (Answers (.fastTrip n) s fun t => Only [] s t) ∧
      (Answers (.breakerTrip n) s fun t => Only [] s t) ∧ Answers (.breakerSample n ⟨mA, vds⟩) s fun t => Only [] s t) ∧
    ((s.husks[n].driven = false ∨ d < s.ttrip n) → Answers (.tempTrip n ⟨false, d⟩) s fun t => Only [.husks] s t ∧
      AllBut n s.husks t.husks ∧ t.husks[n] = { s.husks[n] with diode := d }) ∧
    ((s.husks[n].driven = false ∨ s.modelTemp n < 10 ^ 9 * s.ttrip n) → Answers (.tempTrip n ⟨true, d⟩) s fun t =>
      Only [] s t) ∧
    (s.husks[n].driven = true → s.husks[n].full = false → Answers (.breakerSample n ⟨mA, vds⟩) s fun t =>
      Only [.husks] s t ∧ AllBut n s.husks t.husks ∧
      t.husks[n] = { s.husks[n] with mA := t.husks[n].mA, vds := vds } ∧ t.husks[n].mA ≤ mA ∧
      t.husks[n].mA ≤ 8 * s.fastMA n / 10 ∧
      (s.husks[n].v95 = false → s.husks[n].released = false → vds ≠ 0 →
        t.husks[n].mA = min mA (min (1000 * s.plimMW n / vds) (8 * s.fastMA n / 10))))) ∧
  (∀ (n : PortId) (mA vds : Nat) (s : State), s.husks[n].driven = true → s.husks[n].full = true →
    breakerReason { s.husks[n] with acc := sampleAcc (s.ilim n) mA s.husks[n], mA := mA, vds := vds } = none →
    Answers (.breakerSample n ⟨mA, vds⟩) s fun t => Only [.husks] s t ∧ AllBut n s.husks t.husks ∧
      t.husks[n] = { s.husks[n] with acc := t.husks[n].acc, mA := mA, vds := vds } ∧
      t.husks[n].acc.getD 0 0 = (if 10 * s.ilim n < mA then s.husks[n].acc.getD 0 0 + 8 else s.husks[n].acc.getD 0 0 - 1) ∧
      ∀ k : Nat, k < s.husks[n].curve.length → t.husks[n].acc.getD (k + 1) 0 =
        if 10 * (s.husks[n].curve.getD k ⟨0, 0⟩).thresh < mA then s.husks[n].acc.getD (k + 1) 0 + 8
        else s.husks[n].acc.getD (k + 1) 0 - 1) ∧
  ∀ x : Husk, breakerReason x = some 5 → 80000000 ≤ x.acc.getD 0 0 ∧
    ∀ k : Nat, k < x.curve.length → reached (x.acc.getD (k + 1) 0) (x.curve.getD k ⟨0, 0⟩).time = false

/-- The probe connects only in RETRY_WAIT or LATCHED. A reading that is not settled is ignored; two settled readings
of one class, or an attach step, confirm a class: SHORT below 0.50 V, LOAD below 3.00 V or at 100 uA or with a step,
else OPEN. A confirmed change from OPEN or SHORT to LOAD, or from SHORT to OPEN, restores the retries and starts an
attempt. A temperature at TWARN holds attempts; 10 degrees below it the warning clears and lets a held one start.
ILIM, FAST and the pending curve are taken only where they are in range, keep the curve valid and, of ILIM raised
while the claim is held, are admitted at every level; else only the causes change, and PKG.ADMIT where admission
refuses. (spec/07_husk_power_path.md R223, spec/07_husk_power_path.md R232, spec/07_husk_power_path.md R235,
spec/07_husk_power_path.md R237, spec/07_husk_power_path.md R239, spec/08_regions_feeds_budgets.md R257,
spec/08_regions_feeds_budgets.md R258) -/
def Obligations.ProbeAndHuskSettings : Prop :=
  (∀ (n : PortId) (s : State),
    (s.husks[n].waiting = true → Answers (.probeConnect n) s fun t => Only [.husks] s t ∧ AllBut n s.husks t.husks ∧
      t.husks[n] = { s.husks[n] with probeOn := true }) ∧
    (s.husks[n].waiting = false → Answers (.probeConnect n) s fun t => Only [.husks] s t ∧ t.husks = s.husks)) ∧
  (∀ (n : PortId) (r : ProbeReading) (s : State), s.husks[n].waiting = true → s.husks[n].probeOn = true →
    let cls : Nat := if r.mV < 500 then 3 else if r.mV < 3000 ∨ 100 ≤ r.uA ∨ r.step = true then 2 else 1
    let settled := r.change < 20 ∨ r.high = true
    let confirmed := s.husks[n].lastClass = cls ∨ (cls = 2 ∧ r.step = true)
    let replug := s.husks[n].baseline = true ∧ ((s.husks[n].probe = 1 ∧ cls = 2) ∨ (s.husks[n].probe = 3 ∧ cls ≠ 3))
    (¬ settled → Answers (.probeReading n r) s fun t => Only [] s t) ∧
    (settled → ¬ confirmed → Answers (.probeReading n r) s fun t => Only [.husks] s t ∧ AllBut n s.husks t.husks ∧
      t.husks[n] = { s.husks[n] with lastClass := cls }) ∧
    (settled → confirmed → ¬ replug → Answers (.probeReading n r) s fun t => Only [.husks] s t ∧
      AllBut n s.husks t.husks ∧ t.husks[n] = { s.husks[n] with lastClass := cls, probe := cls, baseline := true }) ∧
    (settled → confirmed → replug → s.attemptHeld n = false → Answers (.probeReading n r) s fun t =>
      Only [.ordinal, .regs, .seq, .qps, .wis, .park, .events, .ctxs, .closed, .posted, .ports, .husks, .regions,
        .cfs, .ctl] s t ∧ AllBut n s.husks t.husks ∧ t.husks[n].st = .ramp ∧ t.husks[n].probe = cls ∧
      t.husks[n].retriesLeft = s.retryCount n ∧
      (s.Told (regionOf n) → s.Canonical → Causes s t (huskPage n) [7] ∧
        Raised s t (huskPage n) 3 0 (cls + 4 * s.husks[n].probe)))) ∧
  (∀ (n : PortId) (s : State), s.husks[n].waiting = true → s.husks[n].probeOn = true →
    (s.husks[n].baseline = false ∨ s.husks[n].probe = 2) → Answers (.probeAttachStep n) s fun t =>
      Only [.husks] s t ∧ AllBut n s.husks t.husks ∧
      t.husks[n] = { s.husks[n] with lastClass := 2, probe := 2, baseline := true }) ∧
  (∀ (n : PortId) (model : Bool) (temp : Int) (s : State), s.Canonical →
    let reached : Bool := if model then decide (10 ^ 9 * s.twarn n ≤ s.modelTemp n) else decide (s.twarn n ≤ temp)
    let cool : Prop := s.husks[n].diode ≤ s.twarn n - 10 ∧ s.modelTemp n ≤ 10 ^ 9 * (s.twarn n - 10)
    (Answers (.tempWarn n model temp) s fun t => AllBut n s.husks t.husks ∧ t.ports = s.ports ∧
      t.husks[n] = { s.husks[n] with diode := if model then s.husks[n].diode else temp,
                                      hot := s.husks[n].hot || reached } ∧
      (reached = false → Only [.husks] s t) ∧
      (reached = true → Only [.regs, .seq, .qps, .park, .events, .posted, .husks, .regions] s t ∧
        (s.Told (regionOf n) → Causes s t (huskPage n) [5] ∧
        Raised s t (huskPage n) 1 (b2n model) (toField 16 (if model then s.modelTemp n / 10 ^ 9 else temp))))) ∧
    (¬ cool → Answers (.tempWarnClear n) s fun t => Only [] s t) ∧
    (cool → s.husks[n].pendOn = false → Answers (.tempWarnClear n) s fun t => Only [.husks] s t ∧
      AllBut n s.husks t.husks ∧ t.husks[n] = { s.husks[n] with hot := false }) ∧
    (cool → s.husks[n].pendOn = true → s.attemptHeld n = false → Answers (.tempWarnClear n) s fun t =>
      Only [.husks] s t ∧ AllBut n s.husks t.husks ∧ t.husks[n].st = .ramp ∧ t.husks[n].hot = false)) ∧
  ∀ (src : Source) (n : PortId) (v : Word) (s : State), s.linkDown (regionOf n) = false → s.Canonical →
    (s.Takes src (huskPage n) 0x014 →
      (curveOk (s.ilim n) (s.fastMA n) (s.pendingCurve n) = true → Answers (.huskApply src n) s fun t =>
        Only [.husks] s t ∧ AllBut n s.husks t.husks ∧
        t.husks[n] = { s.husks[n] with curve := s.pendingCurve n, curvePend := false }) ∧
      (curveOk (s.ilim n) (s.fastMA n) (s.pendingCurve n) = false → Answers (.huskApply src n) s fun t =>
        Only [.regs] s t ∧ RegsBut [at_ (huskPage n) 8] s t ∧ Causes s t (huskPage n) [1])) ∧
    (s.Takes src (huskPage n) 0x100 →
      let i := bits v.toNat 0 8
      (210 < i → Answers (.ilimWrite src n v) s fun t => Only [.regs] s t ∧ RegsBut [at_ (huskPage n) 8] s t ∧
        Causes s t (huskPage n) [0]) ∧
      (i ≤ 210 → s.husks[n].claim = true → i = 0 → Answers (.ilimWrite src n v) s fun t => Only [.regs] s t ∧
        RegsBut [at_ (huskPage n) 8] s t ∧ Causes s t (huskPage n) [9]) ∧
      (i ≤ 210 → (s.husks[n].claim = false ∨ i ≠ 0) → curveOk i (s.fastMA n) s.husks[n].curve = false →
        Answers (.ilimWrite src n v) s fun t => Only [.regs] s t ∧ RegsBut [at_ (huskPage n) 8] s t ∧
          Causes s t (huskPage n) [1]) ∧
      (i ≤ 210 → curveOk i (s.fastMA n) s.husks[n].curve = true →
        ((s.husks[n].claim = false) ∨ (i ≠ 0 ∧ (i ≤ s.ilim n ∨ s.admitLevel n i = 0))) →
        Answers (.ilimWrite src n v) s fun t => Only [.regs] s t ∧ RegsBut [at_ (huskPage n) 0x100] s t ∧
          t.ilim n = i) ∧
      (i ≤ 210 → curveOk i (s.fastMA n) s.husks[n].curve = true → s.husks[n].claim = true → s.ilim n < i →
        s.admitLevel n i ≠ 0 → Answers (.ilimWrite src n v) s fun t => Only [.regs] s t ∧
          RegsBut [at_ 6 0x11C, at_ 6 8, at_ (huskPage n) 8] s t ∧ Causes s t 6 [1] ∧ Causes s t (huskPage n) [2] ∧
          t.fld (at_ 6 0x11C) 0 6 = n.val ∧ t.fld (at_ 6 0x11C) 8 3 = s.admitLevel n i)) ∧
    (s.Takes src (huskPage n) 0x104 → (bits v.toNat 0 7 < 30 ∨ 80 < bits v.toNat 0 7) →
      Answers (.fastWrite src n v) s fun t => Only [.regs] s t ∧ RegsBut [at_ (huskPage n) 8] s t ∧
        Causes s t (huskPage n) [0]) ∧
    (s.Takes src (huskPage n) 0x104 → 30 ≤ bits v.toNat 0 7 → bits v.toNat 0 7 ≤ 80 →
      (curveOk (s.ilim n) (100 * bits v.toNat 0 7) s.husks[n].curve = true → Answers (.fastWrite src n v) s fun t =>
        Only [.regs] s t ∧ RegsBut [at_ (huskPage n) 0x104] s t ∧ t.fastMA n = 100 * bits v.toNat 0 7) ∧
      (curveOk (s.ilim n) (100 * bits v.toNat 0 7) s.husks[n].curve = false → Answers (.fastWrite src n v) s fun t =>
        Only [.regs] s t ∧ RegsBut [at_ (huskPage n) 8] s t ∧ Causes s t (huskPage n) [1]))

/-- A good feed is connected when none is, the first after a restart without counting as a switch. A fault of the
connected feed opens the path and switches to the other feed if it is good, after the dead time; else an undervoltage
keeps the path, the other faults open it, and the fault is told with its DETAIL. Once the other feed is good, a
connected feed still below FEED.UV is left for it. The end of the dead time connects the new feed and tells it, unless
that feed is below 4.00 V: then the old feed is connected again if it is good, and else the path stays open with the
fault kept. FEED_SWITCH and a new PRIMARY start a planned switch to a good feed, postponed while a switch has just
run, and are refused with CFG_BUSY where the feed is not good, the new PRIMARY and the other fields stored even then;
an illegal field sets CFG_BAD; REVERT goes back to PRIMARY. While the link is lost either write sets only LINK_DOWN.
The postponing, the end of a dead time below 4.00 V, LINK_DOWN for FEED_SWITCH and the keeping of a fault are the
model's (log entries 24, 42 and 70). (spec/08_regions_feeds_budgets.md R249, spec/08_regions_feeds_budgets.md R250,
spec/08_regions_feeds_budgets.md R251, spec/08_regions_feeds_budgets.md R253, spec/08_regions_feeds_budgets.md R264,
spec/08_regions_feeds_budgets.md R265, spec/08_regions_feeds_budgets.md R441, spec/08_regions_feeds_budgets.md R266)
-/
def Obligations.FeedSelector : Prop :=
  (∀ (m : RegId) (f : Bool) (mv : Nat) (s : State),
    (s.regions[m].running = true → s.regions[m].closed = false → s.regions[m].switching = none →
      s.regions[m].everConnected = false → Answers (.feedGood m ⟨f, mv⟩) s fun t => Only [.regions] s t ∧
        AllBut m s.regions t.regions ∧ t.regions[m].sel = f ∧ t.regions[m].closed = true ∧
        t.regions[m].everConnected = true ∧ t.regions[m].good f = true ∧ t.regions[m].fault = none ∧
        t.regions[m].reports = s.regions[m].reports) ∧
    (s.regions[m].running = true → s.regions[m].closed = true → s.regions[m].switching = none →
      s.regions[m].sel = f → Answers (.feedGood m ⟨f, mv⟩) s fun t => Only [.regions] s t ∧
        AllBut m s.regions t.regions ∧
        t.regions[m] = { s.regions[m].setGood f true with fault := none }) ∧
    (∀ d : Nat, s.regions[m].running = true → s.regions[m].closed = true → s.regions[m].switching = none →
      s.regions[m].sel ≠ f → s.regions[m].fault = some d → Answers (.feedGood m ⟨f, mv⟩) s fun t =>
        Only [.regions] s t ∧ AllBut m s.regions t.regions ∧
        t.regions[m] = if mv < 10 * s.fld (at_ (regionPage m) 0x100) 16 9
          then (s.regions[m].setGood f true).startSwitch f d
          else { s.regions[m].setGood f true with fault := none }) ∧
    (s.regions[m].running = false → Answers (.feedGood m ⟨f, mv⟩) s fun t => Only [] s t) ∧
    ∀ low : Bool, Answers (.feedNotGood m ⟨f, low⟩) s fun t => Only [.regions] s t ∧ AllBut m s.regions t.regions ∧
      t.regions[m] = if f then { s.regions[m] with bGood := false, bLow := low }
        else { s.regions[m] with aGood := false, aLow := low }) ∧
  (∀ (m : RegId) (k : FeedFault) (s : State), s.regions[m].running = true → s.regions[m].closed = true →
    let old := s.regions[m].sel
    (s.regions[m].good (!old) = true → Answers (.feedFault m k) s fun t => Only [.regions] s t ∧
      AllBut m s.regions t.regions ∧ t.regions[m].closed = false ∧
      t.regions[m].switching = some (!old, faultDetail k) ∧ t.regions[m].good old = false) ∧
    (s.regions[m].good (!old) = false → s.Canonical → Answers (.feedFault m k) s fun t => Only [.ordinal, .regs,
      .seq, .qps, .wis, .park, .events, .ctxs, .closed, .posted, .ports, .husks, .regions, .cfs, .ctl] s t ∧
      t.regions[m].closed = (k == .under) ∧ t.regions[m].fault = some (faultDetail k) ∧
      t.regions[m].good old = false ∧
      (s.Told m → Causes s t (regionPage m) [3] ∧ Raised s t (regionPage m) 2 (faultDetail k) (b2n old)))) ∧
  (∀ (m : RegId) (f : Bool) (d : Nat) (s : State), s.regions[m].switching = some (f, d) → s.Canonical →
    s.regions[m].everConnected = true →
    let low := if f then s.regions[m].bLow else s.regions[m].aLow
    let back := s.regions[m].good (!f)
    (∀ g : Bool, (low = false ∧ g = f) ∨ (low = true ∧ back = true ∧ g = !f) → Answers (.deadTimeEnd m) s fun t =>
      Only [.ordinal, .regs, .seq, .qps, .wis, .park, .events, .ctxs, .closed, .posted, .ports, .husks, .regions,
        .cfs, .ctl] s t ∧ t.regions[m].sel = g ∧
      t.regions[m].closed = true ∧ t.regions[m].switching = none ∧ t.regions[m].lastSwitch = some s.now ∧
      (s.Told m → Causes s t (regionPage m) [2] ∧ Raised s t (regionPage m) 1 d (b2n g) ∧
        t.fld (at_ (regionPage m) 0x118) 0 8 = min (s.fld (at_ (regionPage m) 0x118) 0 8 + 1) 255)) ∧
    (low = true → back = false → Answers (.deadTimeEnd m) s fun t => Only [.regions] s t ∧
      AllBut m s.regions t.regions ∧
      t.regions[m] = { s.regions[m] with switching := none, fault := some d, planRs := false })) ∧
  (∀ (src : Source) (m : RegId) (s : State), s.Takes src (regionPage m) 0x014 → s.Canonical →
    let f := !s.regions[m].sel
    (s.linkDown m = true → Answers (.feedSwitchReq src m) s fun t => Only [.regs] s t ∧
      RegsBut [at_ (regionPage m) 8] s t ∧ Causes s t (regionPage m) [8]) ∧
    (s.linkDown m = false → s.regions[m].good f = true → s.feedBusy m = true → Answers (.feedSwitchReq src m) s fun t =>
      Only [.regions] s t ∧ AllBut m s.regions t.regions ∧
        t.regions[m] = { s.regions[m] with plan := some f, planRs := true }) ∧
    (s.linkDown m = false → s.regions[m].good f = true → s.feedBusy m = false → s.regions[m].closed = true →
      Answers (.feedSwitchReq src m) s fun t => Only [.regions] s t ∧ AllBut m s.regions t.regions ∧
        t.regions[m] = { s.regions[m].startSwitch f 4 with planRs := true }) ∧
    (s.linkDown m = false → (s.regions[m].good f = false ∨ (s.feedBusy m = false ∧
      s.regions[m].closed = false)) → Answers (.feedSwitchReq src m) s fun t =>
      Only [.regions, .regs] s t ∧ AllBut m s.regions t.regions ∧ RegsBut [at_ (regionPage m) 8] s t ∧
      t.regions[m] = { s.regions[m] with plan := none, planRs := false } ∧ Causes s t (regionPage m) [1])) ∧
  (∀ (src : Source) (m : RegId) (v : Word) (s : State), s.Takes src (regionPage m) 0x100 → s.Canonical →
    legalWrite (regionPage m) 0x100 v = true → s.linkDown m = false →
    let f := v.getLsbD 0
    let new := s.flag (at_ (regionPage m) 0x100) 0 ≠ f ∧ (s.regions[m].closed = false ∨ s.regions[m].sel ≠ f)
    (new → s.regions[m].good f = true → Answers (.feedWrite src m v) s fun t => Only [.regs, .regions] s t ∧
      RegsBut [at_ (regionPage m) 0x100, at_ (regionPage m) 8] s t ∧ AllBut m s.regions t.regions ∧
      t.flag (at_ (regionPage m) 0x100) 0 = f ∧
      (s.feedBusy m = true → t.regions[m] = { s.regions[m] with plan := some f }) ∧
      (s.feedBusy m = false → s.regions[m].closed = true → t.regions[m] = s.regions[m].startSwitch f 4)) ∧
    (new → (s.regions[m].good f = false ∨ (s.feedBusy m = false ∧ s.regions[m].closed = false)) →
      Answers (.feedWrite src m v) s fun t => Causes s t (regionPage m) [1] ∧
        Only [.regs, .regions] s t ∧ RegsBut [at_ (regionPage m) 0x100, at_ (regionPage m) 8] s t ∧
        AllBut m s.regions t.regions ∧ t.regions[m] = { s.regions[m] with plan := none, planRs := false } ∧
        t.flag (at_ (regionPage m) 0x100) 0 = f ∧ t.flag (at_ (regionPage m) 0x100) 1 = v.getLsbD 1 ∧
        t.fld (at_ (regionPage m) 0x100) 8 6 = bits v.toNat 8 6 ∧
        t.fld (at_ (regionPage m) 0x100) 16 9 = bits v.toNat 16 9) ∧
    (¬ new → Answers (.feedWrite src m v) s fun t => Only [.regs] s t ∧
      RegsBut [at_ (regionPage m) 0x100] s t ∧ t.flag (at_ (regionPage m) 0x100) 1 = v.getLsbD 1 ∧
      t.fld (at_ (regionPage m) 0x100) 8 6 = bits v.toNat 8 6 ∧
        t.fld (at_ (regionPage m) 0x100) 16 9 = bits v.toNat 16 9)) ∧
  (∀ (src : Source) (m : RegId) (v : Word) (s : State), s.Takes src (regionPage m) 0x100 → s.Canonical →
    (s.linkDown m = true → Answers (.feedWrite src m v) s fun t => Only [.regs] s t ∧
      RegsBut [at_ (regionPage m) 8] s t ∧ Causes s t (regionPage m) [8]) ∧
    (s.linkDown m = false → legalWrite (regionPage m) 0x100 v = false → Answers (.feedWrite src m v) s fun t =>
      Only [.regs, .regions] s t ∧ RegsBut [at_ (regionPage m) 0x100, at_ (regionPage m) 8] s t ∧
      AllBut m s.regions t.regions ∧
      (Causes s t (regionPage m) [0] ∨ Causes s t (regionPage m) [0, 1]) ∧
        t.flag (at_ (regionPage m) 0x100) 0 = v.getLsbD 0)) ∧
  ∀ (m : RegId) (s : State), s.regions[m].running = true → s.regions[m].closed = true →
    s.regions[m].good (s.flag (at_ (regionPage m) 0x100) 0) = true →
    s.regions[m].sel ≠ s.flag (at_ (regionPage m) 0x100) 0 → s.feedBusy m = false →
    (s.flag (at_ (regionPage m) 0x100) 1 = true → Answers (.feedRevert m) s fun t => Only [.regions] s t ∧
      AllBut m s.regions t.regions ∧
      t.regions[m] = s.regions[m].startSwitch (s.flag (at_ (regionPage m) 0x100) 0) 5) ∧
    (s.flag (at_ (regionPage m) 0x100) 1 = false → Answers (.feedRevert m) s fun t => Only [] s t)

/-- The loss of both feeds raises FEED_LOST, opens the path, puts every channel of the region OFF with reason 3 and
its settings at Reset, and stops the die and its frames; the control die, where frames have brought it their copy
since its own reset, keeps that copy to write back, and else the die reports that it had none. The die runs again at
restart. A reset frame puts every channel OFF as after power-on with its settings at Reset, and sends a selector that
has feed B, or is on its way to it, to a good feed A. A link with no good frame for 100 us is lost and counted unless
it was parked; a bad frame is only counted; a good one brings the link back, with REGION_LINK where it was lost. The
write-back puts the copied settings back. A die at 170 degrees puts its channels OFF with reason 2 where they were
not, commits DIE_HOT for each and holds attempts until it cools. CLAIM_REBUILD ends the rebuild. When a loss counts,
that reports wait for the link, what is copied, and DETAIL 5 of the switch after a reset frame are the model's reading
(log entries 39, 42 and 44); an OFF channel keeps its reason (log entry 70). Each has no effect where its condition
fails. (spec/01_device_organisation.md R20, spec/01_device_organisation.md R21, spec/01_device_organisation.md R26,
spec/07_husk_power_path.md R241, spec/08_regions_feeds_budgets.md R251, spec/08_regions_feeds_budgets.md R252,
spec/08_regions_feeds_budgets.md R259, spec/08_regions_feeds_budgets.md R262, spec/14_attention_and_errors.md R386,
spec/01_device_organisation.md R439, spec/08_regions_feeds_budgets.md R441) -/
def Obligations.PowerDieLosses : Prop :=
  (∀ (m : RegId) (s : State), s.regions[m].running = true → s.regions[m].everConnected = true → s.Canonical →
    Answers (.feedLost m) s fun t => Only [.ordinal, .regs, .seq, .qps, .wis, .park, .events, .ctxs, .closed,
      .posted, .ports, .husks, .regions, .cfs, .ctl, .gaps, .overRuns] s t ∧
      t.regions[m].running = false ∧ t.regions[m].closed = false ∧
      t.regions[m].aGood = false ∧ t.regions[m].bGood = false ∧ t.regions[m].linkUp = false ∧
      t.regions[m].writeBack = s.regions[m].copied ∧ t.regions[m].everConnected = false ∧
      (s.regions[m].copied = false → Report.noWriteBack ∈ t.regions[m].reports) ∧
      (s.regions[m].copied = true → s.regions[m].writeBack = false →
        t.regions[m].copy = (dieSettings m).map (fun o => (o, s.reg o)) ∧
        t.regions[m].copyCurve = (portsOfRegion m).map (fun n => s.husks[n].curve)) ∧
      (s.Told m → Causes s t (regionPage m) [4] ∧ Raised s t (regionPage m) 3 0 0) ∧
      (∀ o ∈ dieSettings m, t.reg o = resetValue o) ∧
      ∀ n : PortId, (regionOf n = m → t.husks[n].st = .off ∧ t.husks[n].claim = false ∧ t.husks[n].offReason = 3 ∧
        t.husks[n].curve = resetCurve ∧ t.ilim n = 0) ∧
        (regionOf n ≠ m → t.husks[n] = s.husks[n])) ∧
  (∀ (m : RegId) (s : State), (s.regions[m].running = false ∨ s.regions[m].everConnected = false) →
    Answers (.feedLost m) s fun t => Only [] s t) ∧
  (∀ (m : RegId) (s : State), Answers (.powerDieRestart m) s fun t => Only [.regions] s t ∧
    AllBut m s.regions t.regions ∧ t.regions[m] = { s.regions[m] with running := true }) ∧
  (∀ (m : RegId) (s : State), s.regions[m].running = true → s.Canonical → Answers (.powerDieResetFrame m) s fun t =>
    Only [.ordinal, .regs, .seq, .qps, .wis, .park, .events, .ctxs, .closed, .posted, .ports, .husks, .regions, .cfs,
      .ctl, .gaps, .overRuns] s t ∧
    t.regions[m].writeBack = false ∧ t.regions[m].reports = [] ∧ t.regions[m].copy = [] ∧
    t.regions[m].prio = [] ∧ t.regions[m].shedTime = none ∧ t.regions[m].shedGap = none ∧
    (∀ o ∈ dieSettings m, t.reg o = resetValue o) ∧
    (s.regions[m].aGood = true → s.regions[m].closed = true → s.regions[m].sel = true →
      s.regions[m].switching = none → t.regions[m].closed = false ∧ t.regions[m].switching = some (false, 5)) ∧
    (∀ d : Nat, s.regions[m].aGood = true → s.regions[m].closed = false → s.regions[m].switching = some (true, d) →
      t.regions[m].closed = false ∧ t.regions[m].switching = some (false, 5)) ∧
    ((s.regions[m].aGood = false ∨ (s.regions[m].closed = true ∧ s.regions[m].sel = false)) →
      t.regions[m].closed = s.regions[m].closed ∧ t.regions[m].switching = s.regions[m].switching) ∧
    ∀ n : PortId, (regionOf n = m → t.husks[n] =
        { Husk.init with hot := s.husks[n].hot, pole1 := s.husks[n].pole1, pole2 := s.husks[n].pole2,
                          diode := s.husks[n].diode, heatSum := s.husks[n].heatSum, heatCnt := s.husks[n].heatCnt }) ∧
      (regionOf n ≠ m → t.husks[n] = s.husks[n])) ∧
  (∀ (m : RegId) (s : State), s.regions[m].running = false →
    Answers (.powerDieResetFrame m) s fun t => Only [] s t) ∧
  (∀ (m : RegId) (s : State), s.regions[m].lost = false → s.regions[m].running = true → s.Canonical →
    Answers (.regionLinkLost m) s fun t => Only [.regs, .regions] s t ∧ AllBut m s.regions t.regions ∧
      t.regions[m] = { s.regions[m] with
        lost := true, linkUp := false, prio := t.regions[m].prio, shedTime := t.regions[m].shedTime,
        shedGap := t.regions[m].shedGap,
        pkgClaim := t.regions[m].pkgClaim } ∧
      (s.regions[m].linkUp = true → t.regions[m].prio = (portsOfRegion m).map s.pwrPrio ∧
        t.regions[m].shedTime = some (s.fld (at_ 6 0x110) 0 10) ∧
        t.regions[m].shedGap = some (s.fld (at_ 6 0x110) 16 7) ∧
        t.regions[m].pkgClaim = s.claimSum (portsOfRegion m)) ∧ RegsBut [at_ (regionPage m) 0x118] s t ∧
      (s.regions[m].parked = false →
        t.fld (at_ (regionPage m) 0x118) 16 8 = min (s.fld (at_ (regionPage m) 0x118) 16 8 + 1) 255) ∧
      (s.regions[m].parked = true → t.regs = s.regs)) ∧
  (∀ (m : RegId) (s : State), (s.regions[m].lost = true ∨ s.regions[m].running = false) →
    Answers (.regionLinkLost m) s fun t => Only [] s t) ∧
  (∀ (m : RegId) (s : State), s.held = false → s.ctl.pllLock = true → s.regions[m].running = true → s.Canonical →
    (Answers (.regionLinkFrame m false) s fun t => Only [.regs] s t ∧ RegsBut [at_ 0 0x124, at_ 0 8] s t ∧
      Causes s t 0 [6] ∧
      t.fld (at_ 0 0x124) (8 * m.val) 8 = min (s.fld (at_ 0 0x124) (8 * m.val) 8 + 1) 255) ∧
    (s.regions[m].linkUp = true → Answers (.regionLinkFrame m true) s fun t => Only [] s t) ∧
    (s.regions[m].linkUp = false →
      Answers (.regionLinkFrame m true) s fun t => Only [.ordinal, .regs, .seq, .qps, .wis, .park, .events, .ctxs,
        .closed, .posted, .ports, .husks, .regions, .doms, .ctl, .cfs] s t ∧
        (s.regions[m].reports = [] → (s.regions[m].writeBack = true ∨
            s.pllNeeded = true ∧ ∀ n : PortId, regionOf n = m → s.husks[n].wait = [] ∧ s.husks[n].pendOn = false) →
          t.husks = s.husks ∧ AllBut m s.regions t.regions ∧
          t.regions[m] = { s.regions[m] with linkUp := true, lost := false, parked := false, copied := true } ∧
          (s.regions[m].lost = true → s.regions[m].parked = false →
            Causes s t (regionPage m) [6] ∧ Raised s t (regionPage m) 5 0 0)))) ∧
  (∀ (m : RegId) (s : State), s.held = false → s.regions[m].writeBack = true → s.regions[m].running = true →
    s.regions[m].linkUp = true → s.pllNeeded = true → s.Canonical →
    (∀ n : PortId, regionOf n = m → s.husks[n].wait = [] ∧ s.husks[n].pendOn = false) →
    Answers (.writeBackDone m) s fun t => Only [.regs, .regions, .husks] s t ∧ AllBut m s.regions t.regions ∧
      t.regions[m] =
        { s.regions[m] with writeBack := false, noWriteBack := false, copy := [], copyCurve := [] } ∧
      (∀ n : PortId, t.husks[n] = { s.husks[n] with curve := t.husks[n].curve }) ∧
      RegsBut (s.regions[m].copy.map (fun x => x.1)) s t ∧
      (∀ f : Nat → Word, s.regions[m].copy = (dieSettings m).map (fun o => (o, f o)) →
        ∀ o ∈ dieSettings m, t.reg o = f o) ∧
      ∀ g : PortId → List CurvePt, s.regions[m].copyCurve = (portsOfRegion m).map g →
        ∀ n : PortId, regionOf n = m → t.husks[n].curve = g n) ∧
  (∀ (m : RegId) (s : State), (s.held = true ∨ s.regions[m].writeBack = false ∨ s.regions[m].running = false ∨
    s.regions[m].linkUp = false) → Answers (.writeBackDone m) s fun t => Only [] s t) ∧
  (∀ (m : RegId) (s : State), s.Canonical → Answers (.dieHot m) s fun t => Only [.ordinal, .regs, .seq, .qps, .wis,
    .park, .events, .ctxs, .closed, .posted, .ports, .husks, .regions, .cfs, .ctl] s t ∧ t.regions[m].hot = true ∧
    ∀ n : PortId, (regionOf n = m → t.husks[n].st = .off ∧ t.husks[n].pendOn = false ∧
      (s.husks[n].st ≠ .off → t.husks[n].offReason = 2 ∧ t.husks[n].claim = false) ∧
      (s.Told m → s.domOn domSCHED = true → Causes s t (huskPage n) [10] ∧ Raised s t (huskPage n) 4 0 0)) ∧
      (regionOf n ≠ m → t.husks[n] = s.husks[n])) ∧
  (∀ (m : RegId) (s : State), Answers (.powerDieCooled m) s fun t => Only [.regions, .husks] s t ∧
    AllBut m s.regions t.regions ∧ t.regions[m] = { s.regions[m] with hot := false } ∧
    ∀ n : PortId, ((regionOf n ≠ m ∨ s.husks[n].pendOn = false) → t.husks[n] = s.husks[n]) ∧
      (regionOf n = m → s.husks[n].pendOn = true → s.tempAt n false (s.twarn n) = false →
        s.tempAt n true (s.twarn n) = false → s.linkGone m = false → t.husks[n].st = .ramp)) ∧
  ∀ s : State, (s.held = false → Answers .claimRebuild s fun t => Only [.ctl] s t ∧
      t.ctl = { s.ctl with rebuild := false }) ∧
    (s.held = true → Answers .claimRebuild s fun t => Only [] s t)

/-- A level is ready that is over its budget or limit, does not wait for a gap and, unless it is thermal, has been
over for PKG.SHED.TIME of readings. Of all levels that are ready in one cycle, one that goes on at the end of its gap
among them, the narrowest sheds one driven channel within it: one of the lowest priority, of those the highest port;
the channel goes OFF with reason 1; where one has shed in this cycle none does. All that were ready wait for a gap of
PKG.SHED.GAP, a power die without frames for the GAP it keeps. At the end of the gap that ends first the levels that
wait for it and no longer go on stop, and their timers restart; the others shed as above. A thermal level goes on
until it is 5 degrees below its limit. A die that reaches WARN raises THERM_WARN once. A measurement stores the
current of every channel whose power die runs and the largest of its means and what the word-clock pins showed, and
moves neither claims nor channel states. The merging of what is ready in one cycle, the counting of readings and the
readings of the word clocks are the model's reading (log entries 43 and 68). (spec/08_regions_feeds_budgets.md R255,
spec/08_regions_feeds_budgets.md R260, spec/08_regions_feeds_budgets.md R261, spec/08_regions_feeds_budgets.md R262,
spec/08_regions_feeds_budgets.md R263, spec/08_regions_feeds_budgets.md R264, spec/08_regions_feeds_budgets.md R265,
spec/07_husk_power_path.md R244, spec/06_frame_timing.md R212) -/
def Obligations.SheddingAndMeasurement : Prop :=
  (∀ (c : Instr) (l : ShedLevel) (s : State),
    ((∃ b : Level, c = .shedTimerExpiry b ∧ l = shedOf b) ∨ (∃ k : PodId, c = .thermalShed (.pod k) ∧ l = .podT k) ∨
     (c = .thermalShed .package ∧ l = .therm)) →
    let ready (x : ShedLevel) : Bool := s.mayShed x && !s.gap x && s.overLimit x &&
      (shedThermal x || decide (s.shedTime x ≤ s.overRun x))
    let again (x : ShedLevel) : Bool := s.mayShed x && s.goesOn x && (s.gapEnd x).any (fun e => decide (e ≤ s.now))
    (ready l = false → Answers c s fun t => Only [] s t) ∧
    (ready l = true → Answers c s fun t =>
      Only [.ordinal, .regs, .seq, .qps, .wis, .park, .events, .ctxs, .closed, .posted, .ports, .husks, .regions,
        .cfs, .ctl, .gaps] s t ∧
      (∀ x : ShedLevel, t.gapAt x = if ready x || again x then some s.now else s.gapAt x) ∧
      ((∃ g ∈ s.gaps, g.2 = s.now) → t.husks = s.husks) ∧
      ((∀ g ∈ s.gaps, g.2 ≠ s.now) →
        ∀ x : ShedLevel, (shedLevels.filter (fun y => ready y || again y)).head? = some x → ShedFrom s t x))) ∧
  (∀ (x : ShedLevel) (s : State),
    let ms (n : Nat) : Nat := 1000 * usTicks * n
    (s.gapAt x = none → s.gapEnd x = none) ∧
    ∀ a : Nat, s.gapAt x = some a →
      ((∀ m : RegId, shedRegion x = some m → s.regions[m].linkUp = true) →
        s.gapEnd x = some (a + ms (s.fld (at_ 6 0x110) 16 7))) ∧
      ∀ (m : RegId) (g : Nat), shedRegion x = some m → s.regions[m].linkUp = false → s.regions[m].shedGap = some g →
        s.gapEnd x = some (a + ms g)) ∧
  (∀ s : State, (s.gaps = [] → Answers .shedGapExpiry s fun t => Only [] s t) ∧
    ∀ e : Nat, (∃ x : ShedLevel, s.gapEnd x = some e) → (∀ (x : ShedLevel) (d : Nat), s.gapEnd x = some d → e ≤ d) →
      Answers .shedGapExpiry s fun t =>
      let group (x : ShedLevel) : Bool := s.gapEnd x == some e && s.mayShed x
      let ready (x : ShedLevel) : Bool := s.mayShed x && !s.gap x && s.overLimit x &&
        (shedThermal x || decide (s.shedTime x ≤ s.overRun x))
      let sheds (x : ShedLevel) : Bool := ready x || (group x && s.goesOn x)
      Only [.ordinal, .regs, .seq, .qps, .wis, .park, .events, .ctxs, .closed, .posted, .ports, .husks, .regions,
        .cfs, .ctl, .gaps, .overRuns] s t ∧
      (∀ x : ShedLevel, group x = true → s.goesOn x = false → t.gapAt x = none ∧ t.overRun x = 0) ∧
      (∀ x : ShedLevel, (group x = false ∨ s.goesOn x = true) →
        t.gapAt x = (if sheds x then some s.now else s.gapAt x) ∧ t.overRun x = s.overRun x) ∧
      ((∀ x : ShedLevel, sheds x = false) → t.husks = s.husks) ∧
      ((∀ g ∈ s.gaps, g.2 ≠ s.now) →
        ∀ x : ShedLevel, (shedLevels.filter sheds).head? = some x → ShedFrom s t x)) ∧
  (∀ (die : Fin 5) (temp : Int) (s : State), s.held = false → s.Canonical →
    (temp < (s.fld (at_ 6 0x114) 0 8 : Nat) → Answers (.thermWarn die temp) s fun t => Only [] s t) ∧
    (die = 0 → (s.fld (at_ 6 0x114) 0 8 : Nat) ≤ temp → s.ctl.warned = false → Answers (.thermWarn die temp) s fun t =>
      Only [.regs, .seq, .qps, .park, .events, .posted, .ctl] s t ∧ t.ctl = { s.ctl with warned := true } ∧
        Causes s t 6 [3] ∧
      Raised s t 6 6 0 (toField 16 temp)) ∧
    (die = 0 → s.ctl.warned = true → Answers (.thermWarn die temp) s fun t => Only [] s t) ∧
    ∀ m : RegId, die.val = m.val + 1 → (s.fld (at_ 6 0x114) 0 8 : Nat) ≤ temp →
      ((s.regions[m].warned = true ∨ s.linkDown m = true) → Answers (.thermWarn die temp) s fun t => Only [] s t) ∧
      (s.regions[m].warned = false → s.linkDown m = false → Answers (.thermWarn die temp) s fun t =>
        Only [.regs, .seq, .qps, .park, .events, .posted, .regions] s t ∧ AllBut m s.regions t.regions ∧
        t.regions[m] = { s.regions[m] with warned := true } ∧ Causes s t 6 [3] ∧ Causes s t (regionPage m) [7] ∧
        Raised s t 6 6 die.val (toField 16 temp))) ∧
  ∀ (r : Readings) (s : State), s.Canonical → Answers (.measurementUpdate r) s fun t =>
    Only [.regs, .husks, .regions, .ctl, .overRuns] s t ∧ RegsOf [.husk, .region, .pod, .pkg] s t ∧
    (∀ n : PortId, (s.regions[regionOf n].running = false → t.husks[n] = s.husks[n]) ∧
      (s.regions[regionOf n].running = true → t.husks[n] =
          { s.husks[n] with diode := r.diode.getD n.val 0, heatSum := 0, heatCnt := 0 } ∧
        t.fld (at_ (huskPage n) 0x140) 0 16 = min (r.cur.getD n.val 0) 65535 ∧
        t.fld (at_ (huskPage n) 0x140) 16 16 =
          max (s.fld (at_ (huskPage n) 0x140) 16 16) (min (r.peak.getD n.val 0) 65535))) ∧
    (s.held = false → ∀ k : Fin 4, t.ctl.awclk[k] = BitVec.ofNat 32 (min (r.awclk.getD k.val 0) (2 ^ 32 - 1))) ∧
    ∀ m : RegId, t.regions[m] = { s.regions[m] with
      pkgCur := t.regions[m].pkgCur, pkgTemp := t.regions[m].pkgTemp, junction := t.regions[m].junction,
                                                    warned := t.regions[m].warned }

/-- A slice that passes the checks of creation becomes ACTIVE with a new generation and what its masks own; a check
that fails sets only its causes. Reset and removal start a new generation, disable the slice's queue pairs, end its
items, discard its records (reset keeps those of the new generation), drop the contexts of its ports, stop its ports
and channels, and disable its FIFOs, a reset leaving one FLUSH marker in each and a removal nothing; other slices,
ports, channels and FIFOs stay as they are. In the wrong state each sets only its cause. When every write of an older
generation has left, DRAINED sets; a slice being removed is then NONE and owns nothing, its queue pairs disabled, its
channels at rest and its FIFOs empty; so it is at once where it had drained before the removal. A creation with a
quota of 0 sets OWNER_FULL. That items not in SERVICE go through the retire list, the immediate end of a removal
already drained, and DRAINED at creation are the model's reading (log entries 39 and 45). (spec/09_slices.md R271,
spec/09_slices.md R272, spec/09_slices.md R273, spec/09_slices.md R282, spec/09_slices.md R283, spec/09_slices.md
R284, spec/09_slices.md R286, spec/11_capture.md R326, spec/13_firmware_and_settings.md R355) -/
def Obligations.SliceLife : Prop :=
  (∀ (src : Source) (i : SliceId) (s : State), s.Takes src (slicePage i) 0x014 → s.Canonical →
    (s.fw.mc = .acornOnly → Answers (.sliceCreate src i) s fun t => Only [.regs] s t ∧ RegsBut [at_ 4 8] s t ∧
      Causes s t 4 [4]) ∧
    (s.fw.mc ≠ .acornOnly → s.slices[i].st ≠ .none → Answers (.sliceCreate src i) s fun t => Only [.regs] s t ∧
      RegsBut [at_ (slicePage i) 8] s t ∧ Causes s t (slicePage i) [1]) ∧
    (s.fw.mc ≠ .acornOnly → s.slices[i].st = .none →
      let dup := ∃ j : SliceId, s.slices[j].st ≠ .none ∧ s.pasid j = s.pasid i
      (dup → Answers (.sliceCreate src i) s fun t => Only [.regs] s t ∧ RegsBut [at_ (slicePage i) 8] s t ∧
        Causes s t (slicePage i) [2]) ∧
      (¬ dup → (s.masksFree i = false ∨ s.masksIdle i = false) → Answers (.sliceCreate src i) s fun t =>
        Only [.regs] s t ∧ RegsBut [at_ (slicePage i) 8] s t ∧ Causes s t (slicePage i) [3]) ∧
      (¬ dup → s.masksFree i = true → s.masksIdle i = true → s.wisFits i (s.wisQuota (some i)) = true →
        s.granFits i (s.granQuota (some i)) = true → Answers (.sliceCreate src i) s fun t =>
          Only [.slices, .regs, .cfs] s t ∧ RegsOf [.cf, .sched] s t ∧
          (s.wisQuota (some i) = 0 → Causes s t 0x050 [2]) ∧
          t.slices[i] = { s.slices[i] with st := .active, gen := s.slices[i].gen + 1, qps := s.maskQp i,
                                            ports := s.maskPort i, chs := s.maskCh i, cfs := s.maskCf i } ∧
          ∀ j : SliceId, j ≠ i → SliceKept s.slices[j] t.slices[j]) ∧
      (¬ dup → s.masksFree i = true → s.masksIdle i = true → s.wisFits i (s.wisQuota (some i)) = false →
        Answers (.sliceCreate src i) s fun t => Only [.regs] s t ∧ RegsBut [at_ (slicePage i) 8, at_ 0x050 8] s t ∧
          Causes s t (slicePage i) [4] ∧ Causes s t 0x050 [0]) ∧
      (¬ dup → s.masksFree i = true → s.masksIdle i = true → s.wisFits i (s.wisQuota (some i)) = true →
        s.granFits i (s.granQuota (some i)) = false → Answers (.sliceCreate src i) s fun t => Only [.regs] s t ∧
          RegsBut [at_ (slicePage i) 8] s t ∧ Causes s t (slicePage i) [5]))) ∧
  (∀ (c : Instr) (src : Source) (i : SliceId) (s : State), (c = .sliceReset src i ∨ c = .sliceRemove src i) →
    s.Takes src (slicePage i) 0x014 → s.Canonical →
    let rst := c = .sliceReset src i
    let ok := if rst then s.slices[i].st = .active ∨ s.slices[i].st = .faulted
      else s.slices[i].st ≠ .none ∧ s.slices[i].st ≠ .removing
    (¬ ok → Answers c s fun t => Only [.regs] s t ∧ RegsBut [at_ (slicePage i) 8] s t ∧ Causes s t (slicePage i) [1]) ∧
    let back := ¬ rst ∧ s.slices[i].st = .resetting ∧ s.slices[i].drained = true
    (ok → Answers c s fun t => Only [.ordinal, .regs, .seq, .qps, .wis, .park, .events, .ctxs, .closed, .posted,
      .ports, .slices, .dmchs, .cfs, .husks, .regions, .ctl] s t ∧
      RegsOf [.qp, .sched, .te, .slice, .port, .dmch, .cf] s t ∧
      (t.slices[i].gen = if s.slices[i].st = .resetting then s.slices[i].gen else s.slices[i].gen + 1) ∧
      (∀ j : SliceId, j ≠ i → SliceKept s.slices[j] t.slices[j]) ∧
      (∀ q : QpId, t.qpEn q = (s.qpEn q && decide (s.ownerQp q ≠ some i))) ∧
      (∀ x ∈ t.wis, x.owner = some i → s.fatal = true ∨ x.ending.isSome = true ∨ (rst ∧ x.retire = some (0x0C, 2))) ∧
      (∀ r ∈ t.park, r.owner = some i → rst ∧ r.gen = t.slices[i].gen) ∧
      (∀ x ∈ t.ctxs, s.ownerPort x.port ≠ some i) ∧
      (∀ p : PortId, (s.ownerPort p = some i → t.ports[p].st = .powerOff ∨ t.ports[p].st = .disconnected) ∧
        (s.ownerPort p ≠ some i → t.ports[p] = s.ports[p] ∧
          ((∀ x ∈ s.wis, x.owner = some i → x.port ≠ p.val) → t.husks[p] = s.husks[p]))) ∧
      (∀ x : ChId, (s.ownerCh x = some i → t.dmchs[x].active = false ∨ t.dmchs[x].abort = true) ∧
        (s.ownerCh x ≠ some i → t.dmchs[x] = s.dmchs[x])) ∧
      (∀ k : CfId, (s.ownerCf k = some i → t.cfs[k].en = false ∧ t.cfs[k].item = none ∧
        (¬ rst → t.cfs[k].words = []) ∧ (rst → ∃ w : BitVec 64, t.cfs[k].words = [.marker w] ∧ markerKind w = 2))) ∧
      (back → t.slices[i].st = .none ∧ t.slices[i].qps = 0 ∧ t.slices[i].ports = 0 ∧ t.slices[i].chs = 0 ∧
        t.slices[i].cfs = 0) ∧
      (¬ back → t.slices[i].st = (if rst then .resetting else .removing) ∧ t.slices[i].qps = s.slices[i].qps ∧
        t.slices[i].ports = s.slices[i].ports ∧ ∀ k : CfId, s.ownerCf k ≠ some i →
          (∀ p : PortId, s.cfPort k = p.val → s.ownerPort p ≠ some i) → t.cfs[k] = s.cfs[k]))) ∧
  ∀ (i : SliceId) (s : State), s.held = false → s.fatal = false → s.rootOn domSCHED = true →
    s.slices[i].drained = false → s.Canonical → Answers (.sliceDrained i) s fun t =>
      (Causes s t (slicePage i) [7] ∨ Causes s t (slicePage i) [7, 9]) ∧ t.slices[i].drained = true ∧
        t.slices[i].gen = s.slices[i].gen ∧
      (∀ w ∈ t.posted, w.owner = some i → w.gen = s.slices[i].gen) ∧
      (∀ j : SliceId, j ≠ i → SliceKept s.slices[j] t.slices[j]) ∧
      (s.slices[i].st ≠ .removing → Only [.regs, .slices, .posted] s t ∧ RegsBut [at_ (slicePage i) 8] s t ∧
        ∀ w ∈ t.posted, w ∈ s.posted) ∧
      (s.slices[i].st = .removing → t.slices[i].st = .none ∧ t.slices[i].qps = 0 ∧ t.slices[i].ports = 0 ∧
        t.slices[i].chs = 0 ∧ t.slices[i].cfs = 0 ∧ (∀ q : QpId, s.ownerQp q = some i → t.qpEn q = false) ∧
        (∀ x : ChId, s.ownerCh x = some i → t.dmchs[x].active = false) ∧
        (∀ k : CfId, s.ownerCf k = some i → t.cfs[k].en = false ∧ t.cfs[k].words = [])) ∧
      (s.slices[i].st = .resetting → (∀ x ∈ s.wis, x.owner ≠ some i) → t.slices[i].st = .active ∧
        t.slices[i].winCause.getLsbD 3 = true) ∧
      (s.slices[i].st = .active ∨ s.slices[i].st = .faulted → t.slices[i] = { s.slices[i] with drained := true })

/-- GO is refused in ACORN_ONLY and on an active channel; a failing check halts with its RESULT, a misaligned base
with ALIGN_ERR 1; else the channel is PENDING from the start. An idle engine runs a PENDING channel: where none
starves one of the best priority, and counts. An instruction is fetched from host memory or program RAM; an undefined
opcode and a failed read past its retries halt. A register-mode copy at its count is DONE. STOP and the run limit halt
the channel with STOPPED or TIMEOUT 4, at once or, inside a MOVE or a WAIT, at the boundary where that ends, an abort
noted first with ABORTED 1; so do a wait that times out and failed reads. RUN_MAX 0 bounds a run only on an engine
shared by several owners. PRAM_DATA moves one dword at PRAM_ADDR and steps it; a dword in use is not written.
(spec/10_data_mover.md R292, spec/10_data_mover.md R293, spec/10_data_mover.md R294, spec/10_data_mover.md R295,
spec/10_data_mover.md R305, spec/10_data_mover.md R307, spec/10_data_mover.md R308, spec/10_data_mover.md R310,
spec/10_data_mover.md R311, spec/10_data_mover.md R312, spec/10_data_mover.md R314, spec/13_firmware_and_settings.md
R355) -/
def Obligations.DataMoverRuns : Prop :=
  (∀ (src : Source) (x : ChId) (s : State), s.Takes src (dmchPage x) 0x014 → s.Canonical →
    (s.fw.mc = .acornOnly → Answers (.dmGo src x) s fun t => Only [.regs] s t ∧ RegsBut [at_ 4 8] s t ∧
      Causes s t 4 [4]) ∧
    (s.fw.mc ≠ .acornOnly → s.dmchs[x].active = true → Answers (.dmGo src x) s fun t => Only [.regs] s t ∧
      RegsBut [at_ (dmchPage x) 8] s t ∧ Causes s t (dmchPage x) [1]) ∧
    (s.fw.mc ≠ .acornOnly → s.dmchs[x].active = false →
      (∀ r d : Nat, s.goCheck x = some (r, d) → Answers (.dmGo src x) s fun t => Only [.regs, .dmchs] s t ∧
        Halts s t x r d ∧ RegsBut [at_ (dmchPage x) 8] s t) ∧
      (s.dmMode x = true → (s.dmBase x false % 8 ≠ 0 ∨ s.dmBase x true % 8 ≠ 0) → Answers (.dmGo src x) s fun t =>
        Halts s t x 2 1) ∧
      (s.goCheck x = none → Answers (.dmGo src x) s fun t => Only [.dmchs] s t ∧ AllBut x s.dmchs t.dmchs ∧
        t.dmchs[x] = { Dmch.init with st := .pending, goAt := s.now, gen := s.genOf (s.ownerCh x) })) ∧
    (s.dmchs[x].active = false → Answers (.dmStop src x) s fun t => Only [] s t) ∧
    (s.dmchs[x].st = .pending → Answers (.dmStop src x) s fun t => Only [.regs, .dmchs] s t ∧ Halts s t x 5 0 ∧
      RegsBut [at_ (dmchPage x) 8] s t) ∧
    ((s.dmchs[x].st = .running ∨ s.dmchs[x].st = .waiting) → s.dmInside x = false → Answers (.dmStop src x) s fun t =>
      Only [.regs, .dmchs] s t ∧ Halts s t x 5 0 ∧ RegsBut [at_ (dmchPage x) 8] s t) ∧
    ((s.dmchs[x].st = .running ∨ s.dmchs[x].st = .waiting) → s.dmInside x = true → Answers (.dmStop src x) s fun t =>
      Only [.dmchs] s t ∧ AllBut x s.dmchs t.dmchs ∧ t.dmchs[x] = { s.dmchs[x] with stop := true })) ∧
  (∀ (e : DmId) (s : State), s.dmRuns = true → (∀ x : ChId, dmOf x = e → s.dmchs[x].holds = false) → s.Canonical →
    (∃ x : ChId, dmOf x = e ∧ s.dmchs[x].st = .pending) → Answers (.dmChannelChosen e) s fun t =>
      Only [.regs, .dmchs] s t ∧ RegsBut [at_ (dmPage e) 0x118, at_ (dmPage e) 0x11C, at_ (dmPage e) 8] s t ∧
      t.reg (at_ (dmPage e) 0x118) = s.reg (at_ (dmPage e) 0x118) + 1 ∧
      ∃ x : ChId, dmOf x = e ∧ s.dmchs[x].st = .pending ∧ AllBut x s.dmchs t.dmchs ∧
        t.dmchs[x] = { s.dmchs[x] with st := .running } ∧
        ∀ y : ChId, dmOf y = e → s.dmchs[y].st = .pending → (s.starved y = true → s.starved x = true) ∧
          (s.starved x = false → s.fld (at_ (dmchPage x) 0x034) 6 2 ≤ s.fld (at_ (dmchPage y) 0x034) 6 2)) ∧
  (∀ (x : ChId) (m : Move) (s : State), s.dmRuns = true → s.dmchs[x].st = .running → s.dmchs[x].move = some m →
    s.Canonical →
    (s.dmMode x = false → m.len ≤ m.done → s.dmchs[x].abort = false → s.dmchs[x].stop = false →
      s.dmchs[x].limit = false → Answers (.dmCountDone x) s fun t => Only [.regs, .dmchs] s t ∧
        AllBut x s.dmchs t.dmchs ∧ t.dmchs[x].st = .idle ∧ t.dmchs[x].result = 1 ∧ Causes s t (dmchPage x) [2] ∧
        RegsBut [at_ (dmchPage x) 8] s t) ∧
    (m.src.sp = 0 → m.done < m.len →
      (Answers (.dmReadCompletion x true) s fun t => Only [.dmchs] s t ∧ AllBut x s.dmchs t.dmchs ∧
        t.dmchs[x] = { s.dmchs[x] with tries := 0 }) ∧
      (s.dmchs[x].tries < s.dmRetry x → Answers (.dmReadCompletion x false) s fun t => Only [.regs, .dmchs,
        .reads] s t ∧
        AllBut x s.dmchs t.dmchs ∧ t.dmchs[x] = { s.dmchs[x] with tries := s.dmchs[x].tries + 1 } ∧
        RegsBut [at_ (dmchPage x) 0x058] s t) ∧
      (s.dmRetry x ≤ s.dmchs[x].tries → Answers (.dmReadCompletion x false) s fun t => Only [.regs, .dmchs,
        .reads] s t ∧
        Halts s t x 3 1 ∧ RegsBut [at_ (dmchPage x) 8] s t))) ∧
  (∀ (x : ChId) (r d : Nat) (s : State), s.dmRuns = true → s.Canonical →
    (s.dmchs[x].abort = true ∧ r = 7 ∧ d = 1 ∨
     s.dmchs[x].abort = false ∧ s.dmchs[x].stop = true ∧ r = 5 ∧ d = 0 ∨
     s.dmchs[x].abort = false ∧ s.dmchs[x].stop = false ∧ s.dmchs[x].limit = true ∧ r = 4 ∧ d = 4) →
    let halts (t : State) : Prop := Only [.regs, .dmchs] s t ∧ Halts s t x r d ∧
      RegsBut [at_ (dmchPage x) 8, at_ (dmPage (dmOf x)) 8] s t ∧
      (r = 4 → Causes s t (dmPage (dmOf x)) [3]) ∧
        (r ≠ 4 → t.reg (at_ (dmPage (dmOf x)) 8) = s.reg (at_ (dmPage (dmOf x)) 8))
    (∀ m : Move, s.dmchs[x].st = .running → s.dmchs[x].move = some m → m.len ≤ m.done →
      (s.dmMode x = true → Answers (.dmMoveDone x) s fun t => halts t ∧ t.dmchs[x].pc = s.dmchs[x].pc + 1) ∧
      (s.dmMode x = false → Answers (.dmCountDone x) s fun t => halts t)) ∧
    (s.dmchs[x].st = .waiting → s.dmchs[x].satisfied = true →
      ((∃ n : Nat, s.dmchs[x].wait = some (.line n)) ∨ ∃ (p : PortId) (k : Nat), s.dmchs[x].wait = some (.frame p k)) →
      Answers (.dmWaitSatisfied x) s fun t => halts t ∧ t.dmchs[x].pc = s.dmchs[x].pc + 1)) ∧
  (∀ (x : ChId) (w : BitVec 128) (s : State), s.dmRuns = true → s.dmchs[x].st = .running → s.dmMode x = true →
    s.dmchs[x].instr = none → s.dmchs[x].pc ≤ 65535 → s.Canonical →
    (s.dmInRam x = false → dmOp w ≤ 4 → Answers (.dmInstructionFetch x (some w)) s fun t => Only [.dmchs, .reads] s t ∧
      AllBut x s.dmchs t.dmchs ∧ t.dmchs[x] = { s.dmchs[x] with instr := some w, tries := 0 } ∧
      t.reads = s.reads ++ [{ kind := .program x (BitVec.ofNat 64 (s.dmProg x + 16 * s.dmchs[x].pc)),
                              owner := s.ownerCh x, noSnoop := false, pasid := s.pasidOf (s.ownerCh x),
                              since := s.now }]) ∧
    (s.dmInRam x = false → 4 < dmOp w → Answers (.dmInstructionFetch x (some w)) s fun t => Only [.regs, .dmchs,
      .reads] s t ∧
      Halts s t x 6 1 ∧ RegsBut [at_ (dmchPage x) 8] s t) ∧
    (s.dmInRam x = false → s.dmRetry x ≤ s.dmchs[x].tries → Answers (.dmInstructionFetch x none) s fun t =>
      Only [.regs, .dmchs, .reads] s t ∧ Halts s t x 3 2 ∧ RegsBut [at_ (dmchPage x) 8] s t) ∧
    (s.dmInRam x = true → s.inPramWin x (s.dmProg x % 8192 / 16 + s.dmchs[x].pc) = false →
      Answers (.dmInstructionFetch x (some w)) s fun t => Only [.regs, .dmchs] s t ∧ Halts s t x 6 7 ∧
        RegsBut [at_ (dmchPage x) 8] s t) ∧
    (s.dmInRam x = true → s.inPramWin x (s.dmProg x % 8192 / 16 + s.dmchs[x].pc) = true →
      dmOp (BitVec.ofNat 128 (memRead s.dms[dmOf x].ram (16 * (s.dmProg x % 8192 / 16 + s.dmchs[x].pc)) 16)) ≤ 4 →
      Answers (.dmInstructionFetch x (some w)) s fun t => Only [.dmchs] s t ∧ AllBut x s.dmchs t.dmchs ∧
        t.dmchs[x].instr = some (BitVec.ofNat 128
          (memRead s.dms[dmOf x].ram (16 * (s.dmProg x % 8192 / 16 + s.dmchs[x].pc)) 16)))) ∧
  (∀ (x : ChId) (s : State), s.dmRuns = true → s.Canonical →
    (s.dmchs[x].st = .waiting → s.dmReady x = false → s.fld (at_ (dmchPage x) 0x040) 0 16 ≠ 0 →
      Answers (.dmWaitTimeout x) s fun t => Only [.regs, .dmchs] s t ∧ RegsBut [at_ (dmchPage x) 8] s t ∧
        ∃ d ∈ [1, 2, 3], Halts s t x 4 d ∧ (∀ n : Nat, s.dmchs[x].wait = some (.line n) → d = 1) ∧
          ∀ (p : PortId) (k : Nat), s.dmchs[x].wait = some (.frame p k) → d = 2) ∧
    let shared := ∃ y z : ChId, dmOf y = dmOf x ∧ dmOf z = dmOf x ∧ s.ownerCh y ≠ s.ownerCh z
    (s.dmchs[x].holds = true → s.fld (at_ (dmPage (dmOf x)) 0x108) 0 16 = 0 → ¬ shared →
      Answers (.dmRunLimit x) s fun t => Only [] s t) ∧
    (s.dmchs[x].holds = true → (s.fld (at_ (dmPage (dmOf x)) 0x108) 0 16 ≠ 0 ∨ shared) →
      (s.dmInside x = false → Answers (.dmRunLimit x) s fun t => Only [.regs, .dmchs] s t ∧ Halts s t x 4 4 ∧
        Causes s t (dmPage (dmOf x)) [3] ∧ RegsBut [at_ (dmchPage x) 8, at_ (dmPage (dmOf x)) 8] s t) ∧
      (s.dmInside x = true → Answers (.dmRunLimit x) s fun t => Only [.dmchs] s t ∧ AllBut x s.dmchs t.dmchs ∧
        t.dmchs[x] = { s.dmchs[x] with limit := true }))) ∧
  ∀ (src : Source) (e : DmId) (v : Word) (s : State), s.Takes src (dmPage e) 0x104 → s.Canonical →
    let a := s.pramAddr e
    (s.pramBusy e a = false → Answers (.pramDataAccess src e (some v)) s fun t => Only [.regs, .dms] s t ∧
      RegsBut [at_ (dmPage e) 0x100] s t ∧ t.pramAddr e = (a + 1) % 2048 ∧ AllBut e s.dms t.dms ∧
      memRead t.dms[e].ram (4 * a) 4 = v.toNat ∧
      ∀ n : Nat, (n < 4 * a ∨ 4 * a + 4 ≤ n) → memGet t.dms[e].ram n = memGet s.dms[e].ram n) ∧
    (s.pramBusy e a = true → Answers (.pramDataAccess src e (some v)) s fun t => Only [.regs] s t ∧
      RegsBut [at_ (dmPage e) 0x100, at_ (dmPage e) 8] s t ∧ t.pramAddr e = (a + 1) % 2048 ∧
        Causes s t (dmPage e) [1]) ∧
    Answers (.pramDataAccess src e none) s fun t => Only [.regs, .rd] s t ∧ RegsBut [at_ (dmPage e) 0x100] s t ∧
      t.pramAddr e = (a + 1) % 2048 ∧ t.rd = .words [BitVec.ofNat 32 (memRead s.dms[e].ram (4 * a) 4)]

/-- A word of a MOVE to host memory leaves as a posted write at its address, a free value where source and destination
overlap; to NULL nothing leaves. A MOVE that has all its bytes goes on at the next instruction. LOOP forward halts
with PROG_ERR 4, with COUNT 0 it always jumps, else its counter, loaded with COUNT from 0, falls by one and it jumps
unless that is 0. WAIT waits for its line or for a frame of a port of its own; SIGNAL satisfies every entry and
channel that waits for its line, where the owner may pulse it, and goes on in any case. No write carries relaxed
ordering. That bytes to NULL count nowhere is the model's reading (log entry 48). END makes the channel DONE.
(spec/01_device_organisation.md R42, spec/10_data_mover.md R299, spec/10_data_mover.md R301, spec/10_data_mover.md
R302, spec/10_data_mover.md R303, spec/10_data_mover.md R304, spec/10_data_mover.md R305, spec/10_data_mover.md R306,
spec/10_data_mover.md R309, spec/09_slices.md R276) -/
def Obligations.DataMoverProgram : Prop :=
  (∀ (x : ChId) (m : Move) (w : BitVec 64) (s : State), s.dmRuns = true → s.dmchs[x].st = .running →
    s.dmchs[x].move = some m → m.src.sp = 0 → m.done + 8 ≤ m.len → (s.dmMode x = true ∨ s.dmchs[x].asked = false) →
    s.Canonical →
    (m.dst.sp = 0 → s.dmchs[x].gen = s.genOf (s.ownerCh x) → Answers (.dmMove x [w]) s fun t =>
      Only [.regs, .dmchs, .dms, .posted, .reads, .free] s t ∧ RegsBut [at_ (dmPage (dmOf x)) 0x114] s t ∧
      AllBut x s.dmchs t.dmchs ∧ AllBut (dmOf x) s.dms t.dms ∧ t.dms[dmOf x].ram = s.dms[dmOf x].ram ∧
      t.dmchs[x] = { s.dmchs[x] with move := some { m with done := m.done + 8 }, tries := 0, doneBytes := m.done + 8 } ∧
      ∃ v : BitVec 64, (s.overlaps x m = false → v = w ∧ t.free = s.free) ∧
        t.posted = s.posted ++ [{ kind := .mover x (s.dmAddr x m.dst.base (m.dst.ofs + m.done)) [v],
                                  owner := s.ownerCh x, gen := s.dmchs[x].gen, noSnoop := false, relaxed := false,
                                    since := s.now,
                                  pasid := s.pasidOf (s.ownerCh x) }]) ∧
    (m.dst.sp = 3 → Answers (.dmMove x [w]) s fun t => Only [.dmchs, .reads] s t ∧ AllBut x s.dmchs t.dmchs ∧
      t.dmchs[x] = { s.dmchs[x] with move := some { m with done := m.done + 8 }, tries := 0 })) ∧
  (∀ (x : ChId) (m : Move) (s : State), s.dmRuns = true → s.dmchs[x].st = .running → s.dmMode x = true →
    s.dmchs[x].move = some m → m.len ≤ m.done → s.dmchs[x].abort = false → s.dmchs[x].stop = false →
    s.dmchs[x].limit = false → Answers (.dmMoveDone x) s fun t => Only [.dmchs] s t ∧ AllBut x s.dmchs t.dmchs ∧
      t.dmchs[x].pc = s.dmchs[x].pc + 1 ∧ t.dmchs[x].move = none ∧ t.dmchs[x].instr = none ∧
      (m.dst.sp = 0 → m.dst.base = true → s.dmWrap x true = 0 →
        t.dmchs[x].ptrD = (m.dst.ofs + m.len) % 2 ^ 32)) ∧
  (∀ (x : ChId) (w : BitVec 128) (s : State), s.dmRuns = true → s.dmchs[x].st = .running →
    s.dmchs[x].instr = some w → s.dmchs[x].abort = false → s.dmchs[x].stop = false → s.dmchs[x].limit = false →
    s.Canonical →
    (dmOp w = 1 → s.dmMode x = true → s.dmchs[x].move = none → ∀ r d : Nat, s.moveCheck x w = some (r, d) →
      Answers (.dmMove x []) s fun t => Only [.regs, .dmchs] s t ∧ Halts s t x r d ∧
        RegsBut [at_ (dmchPage x) 8] s t) ∧
    (dmOp w = 2 → df w 0 5 27 = 0 → df w 1 16 16 = 0 → df w 2 16 16 = 0 → df w 3 0 32 = 0 →
      let target := df w 1 0 16
      let count := df w 2 0 16
      let one := df w 0 4 1 = 1
      let old := if one then s.dmchs[x].lc1 else s.dmchs[x].lc0
      let new := (if old = 0 then count else old) - 1
      (s.dmchs[x].pc < target → Answers (.dmLoop x) s fun t => Only [.regs, .dmchs] s t ∧ Halts s t x 6 4 ∧
        RegsBut [at_ (dmchPage x) 8] s t) ∧
      (target ≤ s.dmchs[x].pc → count = 0 → Answers (.dmLoop x) s fun t => Only [.dmchs] s t ∧
        AllBut x s.dmchs t.dmchs ∧
        t.dmchs[x] = { s.dmchs[x] with pc := target, instr := none, move := none, tries := 0 }) ∧
      (target ≤ s.dmchs[x].pc → count ≠ 0 → Answers (.dmLoop x) s fun t => Only [.dmchs] s t ∧
        AllBut x s.dmchs t.dmchs ∧
        t.dmchs[x] = { s.dmchs[x] with
          pc := if new = 0 then s.dmchs[x].pc + 1 else target, instr := none, move := none, tries := 0,
          lc0 := if one then s.dmchs[x].lc0 else new, lc1 := if one then new else s.dmchs[x].lc1 })) ∧
    (dmOp w = 3 → df w 0 5 27 = 0 → df w 2 0 32 = 0 → df w 3 0 32 = 0 →
      (df w 0 4 1 = 0 → df w 1 6 26 = 0 → Answers (.dmWait x) s fun t => Only [.dmchs] s t ∧
        AllBut x s.dmchs t.dmchs ∧
        t.dmchs[x] = { s.dmchs[x] with st := .waiting, wait := some (.line (df w 1 0 6)), satisfied := false }) ∧
      (df w 0 4 1 = 1 → df w 1 6 2 = 0 → df w 1 12 20 = 0 → df w 1 8 4 ≤ 13 →
        (∀ p : PortId, portId? (df w 1 0 6) = some p → s.ownerPort p = s.ownerCh x → Answers (.dmWait x) s fun t =>
          Only [.dmchs] s t ∧ AllBut x s.dmchs t.dmchs ∧
          t.dmchs[x] = { s.dmchs[x] with st := .waiting, wait := some (.frame p (df w 1 8 4)), satisfied := false }) ∧
        ((∀ p : PortId, portId? (df w 1 0 6) = some p → s.ownerPort p ≠ s.ownerCh x) → Answers (.dmWait x) s fun t =>
          Only [.regs, .dmchs] s t ∧ Halts s t x 6 6 ∧ RegsBut [at_ (dmchPage x) 8] s t))) ∧
    (dmOp w = 4 → df w 0 4 28 = 0 → df w 1 6 26 = 0 → df w 2 0 32 = 0 → df w 3 0 32 = 0 →
      let line := df w 1 0 6
      ((s.ownerCh x = none ∨ ∃ i : SliceId, s.ownerCh x = some i ∧
          s.flag (at_ (slicePage i) (0x128 + 4 * (line / 32))) (line % 32) = true) → Answers (.dmSignal x) s fun t => Only [.dmchs, .wis, .ordinal, .regs] s t ∧
        RegsOf [.sched] s t ∧ t.wis.map Item.stored = s.wis.map Item.stored ∧ t.dmchs[x].pc = s.dmchs[x].pc + 1 ∧
        (∀ it ∈ t.wis, eEvwait it.entry = true → eEvent it.entry = line → it.evOk = true) ∧
        ∀ y : ChId, y ≠ x → t.dmchs[y] = { s.dmchs[y] with satisfied := s.dmchs[y].satisfied ||
          (s.dmchs[y].st == .waiting && s.dmchs[y].wait == some (.line line)) }) ∧
      (∀ i : SliceId, s.ownerCh x = some i →
        s.flag (at_ (slicePage i) (0x128 + 4 * (line / 32))) (line % 32) = false → Answers (.dmSignal x) s fun t =>
          Only [.dmchs, .regs] s t ∧ RegsBut [at_ (slicePage i) 8] s t ∧ Causes s t (slicePage i) [10] ∧
          AllBut x s.dmchs t.dmchs ∧ t.dmchs[x].pc = s.dmchs[x].pc + 1)) ∧
    (dmOp w = 0 → df w 0 4 28 = 0 → df w 1 0 32 = 0 → df w 2 0 32 = 0 → df w 3 0 32 = 0 →
      Answers (.dmEnd x) s fun t => Only [.regs, .dmchs] s t ∧ AllBut x s.dmchs t.dmchs ∧ t.dmchs[x].st = .idle ∧
        t.dmchs[x].result = 1 ∧ t.dmchs[x].detail = 0 ∧ Causes s t (dmchPage x) [2] ∧
          RegsBut [at_ (dmchPage x) 8] s t)) ∧
  ∀ (x : ChId) (s : State), s.dmRuns = true → s.dmchs[x].st = .waiting → s.dmchs[x].satisfied = true →
    s.dmchs[x].abort = false → s.dmchs[x].stop = false → s.dmchs[x].limit = false →
    ((∃ n : Nat, s.dmchs[x].wait = some (.line n)) ∨ ∃ (p : PortId) (k : Nat), s.dmchs[x].wait = some (.frame p k)) →
    Answers (.dmWaitSatisfied x) s fun t => Only [.dmchs] s t ∧ AllBut x s.dmchs t.dmchs ∧
      t.dmchs[x].st = .running ∧ t.dmchs[x].pc = s.dmchs[x].pc + 1 ∧ t.dmchs[x].wait = none

/-- While capture runs: a packet that passes the filter, by its own token or, with a bad PID, by the latest one, opens
an item with its PID as first byte, or is dropped with a GAP marker where two words are not free; one that does not
pass is counted. A byte joins the item, a full word is pushed, a byte beyond SNAP only marks it cut. The end of the
packet, or the tail timeout with its marker, closes the item: the header takes its reserved place, a partial word
follows, and it counts. A full word without two words free drops the item with a GAP marker. FLUSH leaves one marker
that counts the items it took, the partly read one included. Enable and disable set EN, enable only where the port has
the FIFO's owner; disable closes an open item with TRUNC, or drops it where its partial word finds no room.
(spec/11_capture.md R317, spec/11_capture.md R318, spec/11_capture.md R319, spec/11_capture.md R320,
spec/11_capture.md R321, spec/11_capture.md R322, spec/11_capture.md R323, spec/11_capture.md R324, spec/11_capture.md
R326, spec/13_firmware_and_settings.md R355) -/
def Obligations.CaptureItems : Prop :=
  (∀ (k : CfId) (pid : Byte) (dev : Bool) (body : BitVec 11) (p : PortId) (s : State), s.capRuns = true →
    portId? (s.cfPort k) = some p → s.domOn (podDom (podOf p)) = true → s.cfs[k].item = none →
    let tok := tokenOf s.ports[p].token pid body
    let pass := s.capPasses k pid dev (if pidOk pid then tok.1 else s.ports[p].token)
    (pidOk pid = false → s.cfs[k].en = false → Answers (.capturePacketStart k pid dev body) s fun t => Only [] s t) ∧
    (s.cfs[k].en = true → pass = true → 2 ≤ s.cfs[k].free → Answers (.capturePacketStart k pid dev body) s fun t =>
      Only [.ports, .cfs] s t ∧ AllBut k s.cfs t.cfs ∧ AllBut p s.ports t.ports ∧
      t.ports[p] = { s.ports[p] with token := if pidOk pid then tok.2 else s.ports[p].token } ∧
      t.cfs[k].words = s.cfs[k].words ++ [.slot] ∧
      t.cfs[k].item = some { pid := pid, fromDev := dev, cont := false, dtime := s.dtime.setWidth 32, bytes := 1,
                             word := pid.setWidth 64, trunc := false } ∧ t.cfs[k].pktBytes = 1) ∧
    (s.cfs[k].en = true → pass = true → s.cfs[k].free < 2 → s.Canonical →
      Answers (.capturePacketStart k pid dev body) s fun t => Only [.ports, .cfs, .regs] s t ∧
        AllBut k s.cfs t.cfs ∧ RegsBut [at_ (cfPage k) 0x038, at_ (cfPage k) 8] s t ∧ Causes s t (cfPage k) [3] ∧
        t.cfs[k].item = none ∧ t.cfs[k].skipping = true ∧ ∃ w : BitVec 64, t.cfs[k].words.getLast? = some (.marker w) ∧
          markerKind w = 0) ∧
    (s.cfs[k].en = true → pass = false → s.Canonical → Answers (.capturePacketStart k pid dev body) s fun t =>
      Only [.ports, .cfs, .regs] s t ∧ AllBut k s.cfs t.cfs ∧ RegsBut [at_ (cfPage k) 0x03C] s t ∧
      t.reg (at_ (cfPage k) 0x03C) = s.reg (at_ (cfPage k) 0x03C) + 1 ∧ t.cfs[k].words = s.cfs[k].words ∧
      t.cfs[k].item = none)) ∧
  (∀ (k : CfId) (b : Byte) (i : COpen) (s : State), s.capRuns = true → s.cfs[k].item = some i →
    (s.fld (at_ (cfPage k) 0x028) 0 11 ≤ s.cfs[k].pktBytes → Answers (.captureByte k b) s fun t => Only [.cfs] s t ∧
      AllBut k s.cfs t.cfs ∧ t.cfs[k] = { s.cfs[k] with pktBytes := s.cfs[k].pktBytes + 1,
                                                        item := some { i with trunc := true } }) ∧
    (s.cfs[k].pktBytes < s.fld (at_ (cfPage k) 0x028) 0 11 →
      let word := i.word ||| (b.setWidth 64 <<< (8 * (i.bytes % 8)))
      ((i.bytes + 1) % 8 ≠ 0 → Answers (.captureByte k b) s fun t => Only [.cfs] s t ∧ AllBut k s.cfs t.cfs ∧
        t.cfs[k] = { s.cfs[k] with pktBytes := s.cfs[k].pktBytes + 1,
                                   item := some { i with bytes := i.bytes + 1, word := word } }) ∧
      ((i.bytes + 1) % 8 = 0 → 2 ≤ s.cfs[k].free → Answers (.captureByte k b) s fun t => Only [.cfs] s t ∧
        AllBut k s.cfs t.cfs ∧ t.cfs[k].words = s.cfs[k].words ++ [.data word] ∧
        t.cfs[k].item = some { i with bytes := i.bytes + 1, word := 0 }) ∧
      ((i.bytes + 1) % 8 = 0 → s.cfs[k].free < 2 → s.Canonical → Answers (.captureByte k b) s fun t =>
        Only [.cfs, .regs] s t ∧ AllBut k s.cfs t.cfs ∧ RegsBut [at_ (cfPage k) 0x038, at_ (cfPage k) 8] s t ∧
          Causes s t (cfPage k) [3] ∧
        t.reg (at_ (cfPage k) 0x038) = (if s.reg (at_ (cfPage k) 0x038) = BitVec.allOnes 32 then BitVec.allOnes 32
          else s.reg (at_ (cfPage k) 0x038) + 1) ∧ t.cfs[k].item = none ∧ t.cfs[k].skipping = true ∧
        ∃ w : BitVec 64, t.cfs[k].words.getLast? = some (.marker w) ∧ markerKind w = 0))) ∧
  (∀ (k : CfId) (i : COpen) (eop crc : Bool) (s : State), s.capRuns = true → s.cfs[k].item = some i →
    3 ≤ s.cfs[k].free → s.Canonical →
    let pad := if i.bytes % 8 = 0 then [] else [CWord.data i.word]
    let fillWith (h : BitVec 64) : List CWord := (s.cfs[k].words ++ pad).map (fun w => if w = .slot then .header h else w)
    (Answers (.capturePacketEnd k eop crc) s fun t => Only [.cfs, .regs] s t ∧ AllBut k s.cfs t.cfs ∧
      RegsBut [at_ (cfPage k) 0x034] s t ∧ t.reg (at_ (cfPage k) 0x034) = s.reg (at_ (cfPage k) 0x034) + 1 ∧
      t.cfs[k].item = none ∧
      t.cfs[k].words = fillWith (capHeader (s.cfPort k) i (!eop || !crc || s.cfs[k].badPid) i.trunc false)) ∧
    Answers (.captureTailTimeout k) s fun t => Only [.cfs, .regs] s t ∧ AllBut k s.cfs t.cfs ∧
      RegsBut [at_ (cfPage k) 0x034, at_ (cfPage k) 8] s t ∧ Causes s t (cfPage k) [4] ∧ t.cfs[k].item = none ∧
      t.cfs[k].words = fillWith (capHeader (s.cfPort k) i false i.trunc true) ++
        [.marker (capMarker 1 ((i.bytes - 1) % 8 + 1))]) ∧
  (∀ (src : Source) (k : CfId) (s : State), s.Takes src (cfPage k) 0x014 → Answers (.cfFlush src k) s fun t =>
    Only [.cfs] s t ∧ AllBut k s.cfs t.cfs ∧ t.cfs[k].item = none ∧
    t.cfs[k].fill = s.cfs[k].fill + s.cfs[k].readLeft ∧ t.cfs[k].words = [.marker (capMarker 2
      ((s.cfs[k].words.filter (fun w => match w with
          | .header _ => true
          | .slot => true
          | _ => false)).length + if 0 < s.cfs[k].readLeft then 1 else 0))]) ∧
  ∀ (c : Instr) (src : Source) (k : CfId) (p : PortId) (v : Word) (s : State),
    (c = .cfEnable src k v ∨ c = .cfDisable src k v) → s.Takes src (cfPage k) 0x014 → v.getLsbD 1 = false →
    v.getLsbD 2 = false → portId? (s.cfPort k) = some p → s.Canonical →
    (v.getLsbD 0 = true → s.cfs[k].en = false → s.fw.mc ≠ .acornOnly →
      (s.ownerPort p = s.ownerCf k → Answers c s fun t => Only [.cfs] s t ∧ AllBut k s.cfs t.cfs ∧
        t.cfs[k] = { s.cfs[k] with en := true, skipping := true, tailCut := none }) ∧
      (s.ownerPort p ≠ s.ownerCf k → Answers c s fun t => Only [.regs] s t ∧ RegsBut [at_ (cfPage k) 8] s t ∧
        Causes s t (cfPage k) [2])) ∧
    (v.getLsbD 0 = true → s.cfs[k].en = false → s.fw.mc = .acornOnly → Answers c s fun t => Only [.regs] s t ∧
      RegsBut [at_ 4 8] s t ∧ Causes s t 4 [4]) ∧
    (v.getLsbD 0 = false → s.cfs[k].en = true → s.cfs[k].item = none → Answers c s fun t => Only [.cfs] s t ∧
      AllBut k s.cfs t.cfs ∧ t.cfs[k] = { s.cfs[k] with en := false, tailCut := none, skipping := true }) ∧
    ∀ i : COpen, v.getLsbD 0 = false → s.cfs[k].en = true → s.cfs[k].item = some i →
      let pad := if i.bytes % 8 = 0 then [] else [CWord.data i.word]
      let h := capHeader (s.cfPort k) i false true false
      (pad = [] ∨ 2 ≤ s.cfs[k].free → Answers c s fun t => Only [.cfs, .regs] s t ∧ AllBut k s.cfs t.cfs ∧
        RegsBut [at_ (cfPage k) 0x034] s t ∧ t.reg (at_ (cfPage k) 0x034) = s.reg (at_ (cfPage k) 0x034) + 1 ∧
        t.cfs[k].en = false ∧ t.cfs[k].item = none ∧
        t.cfs[k].words = (s.cfs[k].words ++ pad).map (fun w => if w = .slot then .header h else w)) ∧
      (pad ≠ [] → s.cfs[k].free < 2 → Answers c s fun t => Only [.cfs, .regs] s t ∧ t.cfs[k].en = false ∧
        AllBut k s.cfs t.cfs ∧ RegsBut [at_ (cfPage k) 0x038, at_ (cfPage k) 8] s t ∧ Causes s t (cfPage k) [3] ∧
        t.reg (at_ (cfPage k) 0x038) = (if s.reg (at_ (cfPage k) 0x038) = BitVec.allOnes 32 then BitVec.allOnes 32
          else s.reg (at_ (cfPage k) 0x038) + 1) ∧ t.cfs[k].item = none ∧ t.cfs[k].skipping = true ∧
        ∃ w : BitVec 64, t.cfs[k].words.getLast? = some (.marker w) ∧ markerKind w = 0)

/-- A request to leave ON is refused, with the reason and block of the first that refuses, when a block refuses; then
the entry fails, is counted and sets its cause. With nothing against it and nothing to wait for the domain is ENTERING
and saves; the save leads to gating, and gating to RET or OFF, counted. A block that delays is asked again, and a
delay that lasts fails the entry; whether the Imyon image declines is free. A request for ON brings a domain that is
down, and those it needs, to EXITING; an exit waits for those it needs, and ends ON, or in FATAL, never ON, where the
saved state is lost. With a Pod the ports with power-good leave POWER_OFF; MC returns on FIO, from OFF through Acorn;
TIME makes good the time it slept, with its cause and event. An SMBus match brings MC up, or finds it EXITING, with
SCL held; a Pod whose watched line changes wakes itself and TIME. Reserved requests set CFG_BAD; of AON only ON is
taken. That a failed exit never reaches ON, that a match while MC is EXITING holds SCL, and which lines wake a Pod are
the model's reading (log entry 36). (spec/06_frame_timing.md R213, spec/12_power_domains.md R331,
spec/12_power_domains.md R332, spec/12_power_domains.md R333, spec/12_power_domains.md R334, spec/12_power_domains.md
R336, spec/12_power_domains.md R337, spec/12_power_domains.md R339, spec/12_power_domains.md R340,
spec/12_power_domains.md R342, spec/12_power_domains.md R343, spec/12_power_domains.md R346) -/
def Obligations.PowerDomains : Prop :=
  (∀ (src : Source) (d : DomId) (v : Word) (s : State), s.Takes src 3 (0x100 + 4 * d.val) → s.Canonical →
    (bits v.toNat 0 2 = 3 → Answers (.domainRequest src d v) s fun t => Only [.regs] s t ∧ RegsBut [at_ 3 8] s t ∧
      Causes s t 3 [0]) ∧
    (d = domAON → bits v.toNat 0 2 = 0 → Answers (.domainRequest src d v) s fun t => Only [] s t) ∧
    (d = domAON → (bits v.toNat 0 2 = 1 ∨ bits v.toNat 0 2 = 2) → Answers (.domainRequest src d v) s fun t =>
      Only [.regs, .doms] s t ∧ RegsBut [at_ 3 8] s t ∧ Causes s t 3 [6] ∧ AllBut d s.doms t.doms ∧
      t.doms[d] = { s.doms[d] with lastReason := 1, lastBlock := 0x203 }) ∧
    (d ≠ domAON → (bits v.toNat 0 2 = 1 ∨ bits v.toNat 0 2 = 2) → s.doms[d].st = .on →
      let off := bits v.toNat 0 2 == 2
      Answers (.domainRequest src d v) s fun t => AllBut d s.doms t.doms ∧ (d ≠ domMC → t.free = s.free) ∧
        ∃ declines : Bool,
          (∀ r b : Nat, s.refusal d off declines = some (r, b) → Only [.regs, .doms, .free] s t ∧
            RegsBut [at_ 3 8] s t ∧ Causes s t 3 [1] ∧ t.doms[d].st = .on ∧ t.doms[d].phase = .none ∧
            t.doms[d].lastReason = r ∧ t.doms[d].lastBlock = b ∧ t.doms[d].fails = min 65535 (s.doms[d].fails + 1)) ∧
          (s.refusal d off declines = none → s.delaying d = none → Only [.doms, .free] s t ∧
            t.doms[d].st = .entering ∧ t.doms[d].phase = .save ∧ t.doms[d].toOff = off ∧ t.doms[d].fromRet = false) ∧
          (∀ r b : Nat, s.refusal d off declines = none → s.delaying d = some (r, b) →
            Only [.doms, .free, .flushing] s t ∧ t.doms[d].st = .on ∧ t.doms[d].phase = .ask ∧
            t.doms[d].delay = some (r, b))) ∧
    (d ≠ domAON → bits v.toNat 0 2 = 0 → (s.doms[d].st = .ret ∨ s.doms[d].st = .off) →
      s.doms[d].phase = .none → (∀ x ∈ needs d, s.doms[x].phase = .none) →
      Answers (.domainRequest src d v) s fun t => Only [.doms, .ctl, .regions] s t ∧
        ∀ x : DomId, t.doms[x] = if x ≠ d ∧ x ∉ needs d then s.doms[x]
          else if s.doms[x].st = .ret ∨ s.doms[x].st = .off then
            { s.doms[x] with target := 0, st := .exiting, held := decide (s.doms[x].st = .ret) }
          else { s.doms[x] with target := 0 })) ∧
  (∀ (d : DomId) (s : State), s.held = false →
    (s.doms[d].phase = .ask → s.doms[d].st ≠ .entering → Answers (.domainReask d) s fun t => AllBut d s.doms t.doms ∧
      ∃ declines : Bool,
      (s.refusal d (s.doms[d].target == 2) declines = none → s.delaying d = none → Only [.doms, .free] s t ∧
        t.doms[d].st = .entering ∧ t.doms[d].phase = .save) ∧
      ((s.refusal d (s.doms[d].target == 2) declines).isSome = true → s.Canonical →
        Only [.regs, .doms, .free] s t ∧ Causes s t 3 [1] ∧ t.doms[d].phase = .none)) ∧
    (∀ r b : Nat, s.doms[d].phase = .ask → s.doms[d].st ≠ .entering → s.doms[d].delay = some (r, b) → s.Canonical →
      Answers (.domainDelayExpired d) s fun t => Only [.regs, .doms] s t ∧ RegsBut [at_ 3 8] s t ∧ Causes s t 3 [1] ∧
        AllBut d s.doms t.doms ∧ t.doms[d].phase = .none ∧ t.doms[d].lastReason = 0x13 ∧ t.doms[d].lastBlock = b ∧
        t.doms[d].fails = min 65535 (s.doms[d].fails + 1)) ∧
    (s.doms[d].phase = .save → Answers (.domainSaveDone d) s fun t => Only [.doms] s t ∧ AllBut d s.doms t.doms ∧
      t.doms[d] = { s.doms[d] with phase := .gate, hasSaved := true }) ∧
    (s.doms[d].phase = .gate → s.doms[d].thenOn = false → Answers (.domainGateDone d) s fun t =>
      Only [.doms, .ctl, .regions] s t ∧ AllBut d s.doms t.doms ∧ t.doms[d] = { s.doms[d] with
        phase := .none, st := if s.doms[d].toOff then .off else .ret, entries := (s.doms[d].entries + 1) % 65536 }) ∧
    (s.doms[d].st = .exiting → s.doms[d].failed = false → (∀ x ∈ needs d, s.domOn x = true) →
      s.doms[d].hasSaved = true → d ≠ domMC →
      s.Canonical → Answers (.domainExitDone d true) s fun t => Only [.regs, .ctl, .pci, .doms] s t ∧ t.fatal = true ∧
        Causes s t 3 [5] ∧ (s.fatal = false → Causes s t 0 [8]) ∧ t.fld (at_ 3 0x28C) 24 5 = d.val ∧
        AllBut d s.doms t.doms ∧ t.doms[d] = { s.doms[d] with failed := true } ∧
        ((s.reg (at_ 0 0x118)).toNat + 1 < 2 ^ 32 → t.reg (at_ 0 0x118) = s.reg (at_ 0 0x118) + 1)) ∧
    (s.doms[d].failed = true → Answers (.domainExitDone d false) s fun t => Only [] s t) ∧
    (s.doms[d].st = .exiting → s.doms[d].failed = false → (∀ x ∈ needs d, s.domOn x = true) → d ≠ domMC →
      d ≠ domTIME → d.val < 8 →
      Answers (.domainExitDone d false) s fun t => AllBut d s.doms t.doms ∧
        t.doms[d] = { s.doms[d] with st := .on, phase := .none, hasSaved := false, held := false } ∧
        Only [.doms, .regs, .events, .pci, .qps, .wis, .park, .visitPtr, .perPtr, .rrPtr, .wisPeak, .flowPeak, .pfPeak,
          .poolPeak, .poolWaits, .engs, .ctxs, .closed, .flushing, .slices, .dmchs, .dms, .cfs] s t) ∧
    (s.doms[d].st = .exiting → (∃ x ∈ needs d, s.domOn x = false) →
      Answers (.domainExitDone d false) s fun t => Only [] s t) ∧
    (s.doms[d].st = .exiting → s.doms[d].failed = false →
      let up (t : State) : Prop := AllBut d s.doms t.doms ∧
        t.doms[d] = { s.doms[d] with st := .on, phase := .none, hasSaved := false, held := false }
      (∀ k : PodId, d = podDom k → Answers (.domainExitDone d false) s fun t => up t ∧
        Only [.doms, .regs, .events, .ports] s t ∧
        ∀ p : PortId,
          (podOf p = k → s.ports[p].st = .powerOff → s.ports[p].pgood = true →
            t.ports[p].st = .disconnected ∧ t.ports[p].conn = false ∧ t.ports[p].pgood = true) ∧
          ((podOf p ≠ k ∨ s.ports[p].st ≠ .powerOff ∨ s.ports[p].pgood = false) → t.ports[p] = s.ports[p])) ∧
      (d = domMC → s.doms[d].held = true → s.Canonical → Answers (.domainExitDone d false) s fun t => up t ∧
        Only [.doms, .regs, .events, .ctl, .fw] s t ∧ t.ctl = { s.ctl with sclHeld := false } ∧
        t.flag (at_ 2 0x014) 1 = false ∧
        t.fw = { s.fw with result := 0, ptr := 0, skipped := 0, expected := 0, chunks := [] }) ∧
      (d = domMC → s.doms[d].held = false → s.store.straps.getLsbD 4 = false →
        (s.store.img = .trial ∨ s.store.img = .confirmed) → s.Canonical →
        Answers (.domainExitDone d false) s fun t => up t ∧ t.ctl.sclHeld = false ∧ t.flag (at_ 2 0x014) 1 = false ∧
          t.fw.served = true ∧ t.fw.upd = .idle ∧ t.fw.cmd = none ∧ t.fw.buf = [] ∧
          (s.store.imgCheck ≠ 0 → t.fw.mc = .acornOnly ∧ t.fw.why = 1) ∧
          (s.store.imgCheck = 0 → t.fw.mc = .loader ∧ Only [.doms, .regs, .events, .ctl, .fw] s t ∧
            t.ctl = { s.ctl with sclHeld := false })) ∧
      (d = domTIME → s.Canonical → Answers (.domainExitDone d false) s fun t => up t ∧
        Only [.doms, .regs, .events, .ctl, .clks, .refClk, .dtime, .seq, .qps, .park, .posted] s t ∧
        t.dtime = s.dtime + BitVec.ofNat 64 (sleepNs s.ctl.sleepTicks) ∧
        t.ctl = { s.ctl with sleepTicks := 0, rcUsed := false } ∧ t.flag (at_ 5 0x018) 0 = true ∧ t.caused 5 7 ∧
        Raised { s with dtime := t.dtime } t 5 2 (b2n s.ctl.rcUsed) (min 65535 (((t.reg (at_ 5 0x110)).toNat + 999) / 1000)) ∧
        t.refClk.frindex = s.refClk.frindex + BitVec.ofNat 14 (sleepNs s.ctl.sleepTicks / 125000)))) ∧
  (∀ s : State, s.held = false →
    (s.doms[domMC].st = .ret ∨ s.doms[domMC].st = .off ∨ s.doms[domMC].st = .exiting) → s.doms[domMC].phase = .none →
    s.reg (at_ 3 0x280) = 0 → s.Canonical → Answers .smbusWake s fun t => Only [.doms, .ctl, .regions, .regs] s t ∧
      AllBut domMC s.doms t.doms ∧ t.doms[domMC].st = .exiting ∧ t.ctl.sclHeld = true ∧ t.ctl.smbTxn = true ∧
        Causes s t 3 [4] ∧
      t.reg (at_ 3 0x284) = 0x501 ∧ RegsBut [at_ 3 8, at_ 3 0x284] s t) ∧
  (∀ (p : PortId) (s : State), s.held = false →
    ((s.ports[p].st = .suspended ∧ s.ports[p].line ≠ .j) ∨
     (s.ports[p].st = .disconnected ∧ s.ports[p].conn = false ∧ s.ports[p].line ≠ .se0) ∨
     (s.ports[p].st = .disconnected ∧ s.ports[p].conn = true ∧ s.ports[p].line = .se0)) →
    s.doms[podDom (podOf p)].st = .ret → s.doms[podDom (podOf p)].phase = .none → s.Canonical →
    Answers (.podSelfWake p) s fun t => Only [.doms, .ctl, .regions, .regs] s t ∧
      (s.doms[domTIME].phase = .none → Causes s t 3 [3]) ∧ (Causes s t 3 [3] ∨ Causes s t 3 [2, 3]) ∧
      t.doms[podDom (podOf p)].st = .exiting ∧ t.doms[domTIME].target = 0 ∧
      t.fld (at_ 3 0x284) 0 8 = 2 ∧ t.fld (at_ 3 0x284) 16 8 = p.val) ∧
  ∀ (p : PortId) (s : State), ((s.ports[p].st ≠ .suspended ∧ s.ports[p].st ≠ .disconnected) ∨
      (s.ports[p].st = .suspended ∧ s.ports[p].line = .j) ∨
      (s.ports[p].st = .disconnected ∧ s.ports[p].conn = false ∧ s.ports[p].line = .se0) ∨
      (s.ports[p].st = .disconnected ∧ s.ports[p].conn = true ∧ s.ports[p].line ≠ .se0)) →
    Answers (.podSelfWake p) s fun t => Only [] s t

/-- A command while another runs sets only FW.CAUSE.CFG_BUSY. UPD_BEGIN with a length in range opens a session on an
empty slot, else ends with BAD_ARG; a chunk is stored at its place once, in RECEIVING only; VERIFY needs every chunk
and the checks of the image; ACTIVATE needs VERIFIED, and its pause runs the new image as TRIAL; CONFIRM needs TRIAL;
ABORT closes the session. Any of them from another port than the session's ends with OTHER_SOURCE. The end of a
command posts RESULT with its TAG. Imyon ready after a start runs the image and replays the settings; a third late
start leaves ACORN_ONLY. A store entry, erase or program that does not verify ends the command with STORE_ERR.
UPD_STATE after it and after the watchdog, what happens to the results held in the pause, and the loader during it are
the model's (log entries 26, 47 and 66). (spec/13_firmware_and_settings.md R352, spec/13_firmware_and_settings.md
R353, spec/13_firmware_and_settings.md R355, spec/13_firmware_and_settings.md R356, spec/13_firmware_and_settings.md
R357, spec/13_firmware_and_settings.md R358, spec/13_firmware_and_settings.md R359, spec/13_firmware_and_settings.md
R361, spec/13_firmware_and_settings.md R362, spec/13_firmware_and_settings.md R363, spec/13_firmware_and_settings.md
R365) -/
def Obligations.FirmwareUpdates : Prop :=
  (∀ (c : Instr) (op : Nat) (src : Source) (tag : BitVec 16) (ok : Bool) (o : BeginOutcome) (f : ConfirmOutcome)
      (s : State),
    (c = .updBegin src tag o ∧ op = 1 ∨ c = .updChunk src tag ok ∧ op = 2 ∨ c = .updVerify src tag ∧ op = 3 ∨
     c = .updActivate src ⟨tag, ok⟩ ∧ op = 4 ∨ c = .updConfirm src tag f ∧ op = 5 ∨ c = .updAbort src tag ∧ op = 6) →
    s.Takes src 4 0x100 → s.fw.served = true → s.Canonical →
    (s.fw.cmd ≠ none → Answers c s fun t => Only [.regs] s t ∧ RegsBut [at_ 4 8] s t ∧ Causes s t 4 [1]) ∧
    (s.fw.cmd = none →
      (s.fw.upd ≠ .idle → s.fw.updSmbus ≠ isSmbus src → Answers c s fun t => Only [.regs, .fw] s t ∧
        CmdTaken t op tag 4 ∧ t.fw.upd = s.fw.upd) ∧
      ((s.fw.upd = .idle ∨ s.fw.updSmbus = isSmbus src) →
        (op = 1 → s.fw.upd ≠ .activating → 3 ≤ s.arg0 → s.arg0 ≤ 577 →
          (o.entry = true → o.erase = true → Answers c s fun t =>
            Only [.regs, .fw, .store] s t ∧ RegsBut [at_ 4 0x100] s t ∧ CmdTaken t op tag 0 ∧ t.fw.upd = .receiving ∧
            t.fw.expected = s.arg0 ∧ t.fw.chunks = [] ∧ t.fw.updSmbus = isSmbus src ∧
            t.store = { (s.store.enter .invalid true).eraseSlot s.arg0 with slotChunks := s.arg0 } ∧
            t.store.img = .invalid ∧ ∀ n : Nat, n < 4096 * s.arg0 → memGet t.store.slot n = 0) ∧
          (o.entry = true → o.erase = false → Answers c s fun t => Only [.regs, .fw, .store] s t ∧
            CmdTaken t op tag 0x0D ∧ t.store.img = .invalid ∧
            t.fw.upd = if s.fw.upd = .idle then .idle else .receiving) ∧
          (o.entry = false → Answers c s fun t => Only [.regs, .fw, .store] s t ∧ CmdTaken t op tag 0x0D ∧
            t.fw.upd = s.fw.upd ∧ t.store.img = s.store.img ∧ t.store.slot = s.store.slot)) ∧
        (op = 1 → s.fw.upd ≠ .activating → (s.arg0 < 3 ∨ 577 < s.arg0) → Answers c s fun t => Only [.regs, .fw] s t ∧
          CmdTaken t op tag 3 ∧ t.fw.upd = s.fw.upd) ∧
        (op = 2 → s.fw.upd = .receiving → s.fw.ptr = 4096 → s.arg0 < 577 → s.arg0 < s.fw.expected →
          s.arg0 ∉ s.fw.chunks →
          (ok = true → Answers c s fun t => Only [.regs, .fw, .store] s t ∧
            CmdTaken t op tag 0 ∧ t.fw.chunks = s.fw.chunks ++ [s.arg0] ∧
            (∀ n : Nat, n < 4096 → memGet t.store.slot (4096 * s.arg0 + n) = memGet s.fw.buf n) ∧
            ∀ n : Nat, (n < 4096 * s.arg0 ∨ 4096 * s.arg0 + 4096 ≤ n) →
              memGet t.store.slot n = memGet s.store.slot n) ∧
          (ok = false → Answers c s fun t => Only [.regs, .fw] s t ∧ CmdTaken t op tag 0x0D ∧
            t.fw.upd = .receiving ∧ t.fw.chunks = s.fw.chunks)) ∧
        (op = 3 → s.fw.upd = .receiving → s.fw.expected ≤ s.fw.chunks.length → Answers c s fun t =>
          Only [.regs, .fw] s t ∧ CmdTaken t op tag s.store.imgCheck ∧
          t.fw.upd = if s.store.imgCheck = 0 then .verified else .receiving) ∧
        (op = 3 → s.fw.upd = .receiving → s.fw.chunks.length < s.fw.expected → Answers c s fun t =>
          Only [.regs, .fw] s t ∧ CmdTaken t op tag 6 ∧ t.fw.upd = .receiving) ∧
        (op = 4 → s.fw.upd = .verified → Answers c s fun t => Only [.regs, .fw] s t ∧ t.fw.upd = .activating ∧
          t.fw.cmd = some (tag.toNat, none) ∧ t.fw.storeOk = ok) ∧
        (op = 5 → s.fw.upd = .idle → s.store.img = .trial →
          (f.start = true → (f.burn = true ∨ s.store.imgSvn ≤ s.store.secCount) → Answers c s fun t =>
            Only [.regs, .fw, .store] s t ∧ CmdTaken t op tag 0 ∧ t.fw.storeOk = f.done ∧
            t.store = s.store.enter (.confirmStart s.store.imgSvn) true ∧
            t.store.img = .confirmStart s.store.imgSvn) ∧
          (f.start = true → f.burn = false → s.store.secCount < s.store.imgSvn → Answers c s fun t =>
            Only [.regs, .fw, .store, .free] s t ∧ CmdTaken t op tag 0x0D ∧
            t.store.img = .confirmStart s.store.imgSvn ∧ s.store.secCount ≤ t.store.secCount ∧
            t.store.secCount < s.store.imgSvn) ∧
          (f.start = false → Answers c s fun t => Only [.regs, .fw, .store] s t ∧ CmdTaken t op tag 0x0D ∧
            t.store.img = .trial ∧ t.store.secCount = s.store.secCount)) ∧
        (op = 5 → s.fw.upd = .idle → (∀ k : Nat, s.store.img = .confirmStart k →
          (f.start = true → (f.burn = true ∨ s.store.imgSvn ≤ s.store.secCount) → Answers c s fun t =>
            Only [.regs, .fw, .store] s t ∧ CmdTaken t op tag 0 ∧ t.fw.storeOk = f.done ∧
            t.store.img = .confirmStart s.store.imgSvn) ∧
          (f.start = false → Answers c s fun t => Only [.regs, .fw, .store] s t ∧ CmdTaken t op tag 0x0D ∧
            t.store.img = .confirmStart k ∧ t.store.secCount = s.store.secCount))) ∧
        (op = 5 → s.fw.upd = .idle → s.store.img ≠ .trial → (∀ k : Nat, s.store.img ≠ .confirmStart k) →
          Answers c s fun t => Only [.regs, .fw] s t ∧ CmdTaken t op tag 2) ∧
        (op = 6 → (s.fw.upd = .receiving ∨ s.fw.upd = .verified) → Answers c s fun t => Only [.regs, .fw] s t ∧
          CmdTaken t op tag 0 ∧ t.fw.upd = .idle) ∧
        ((op = 2 ∧ s.fw.upd ≠ .receiving ∨ op = 3 ∧ s.fw.upd ≠ .receiving ∨ op = 4 ∧ s.fw.upd ≠ .verified) →
          Answers c s fun t => Only [.regs, .fw] s t ∧ CmdTaken t op tag 2 ∧ t.fw.upd = s.fw.upd)))) ∧
  (∀ (n : Nat) (s : State), s.mcRuns = true → s.fw.cmd = some (n, none) → s.fw.upd = .activating →
    s.fw.paused = false →
    Answers .activationPause s fun t => Only [.fw, .store] s t ∧
      (s.store.hashOk = true → s.fw.storeOk = false → t.store = s.store.enter .trial false ∧
        t.store.img = s.store.img ∧ t.fw.paused = false ∧ t.fw.upd = .receiving ∧ t.fw.bank = s.fw.bank ∧
        t.fw.mc = s.fw.mc ∧ t.fw.cmd = some (n, some 0x0D)) ∧
      (s.store.hashOk = true → s.fw.storeOk = true →
        t.store = s.store.enter .trial true ∧ t.store.img = .trial ∧ t.fw.paused = true ∧
        t.fw.mc = .loader ∧ t.fw.bank = !s.fw.bank ∧ t.fw.sram[bankNo (!s.fw.bank)] = s.store.mcCode ∧
        t.fw.ustore[bankNo (!s.fw.bank)] = s.store.microcode) ∧
      (s.store.hashOk = false → t.store = s.store ∧ t.fw.upd = .receiving ∧ t.fw.cmd = some (n, some 0x0A))) ∧
  (∀ s : State, s.mcRuns = true → s.fw.paused = true → s.fw.served = true → s.Canonical →
    (s.fatal = false → Answers .imyonReady s fun t => t.fw.mc = .running ∧ t.fw.paused = false ∧ t.fw.upd = .idle ∧
      t.fw.runVersion = s.fw.loaded.version ∧ t.late = [] ∧
      Raised s t 4 1 s.store.imgSvn (bits s.store.imgVersion.toNat 16 16) ∧
      (s.late = [] → (∀ it ∈ s.wis, it.ending = none ∧ (it.op.isIsoc = true → it.inService = false)) →
        Only [.fw, .regs, .seq, .qps, .park, .events, .posted, .ordinal, .wis] s t ∧
        t.wis.map Item.stored = s.wis.map Item.stored)) ∧
    (s.fatal = false → Answers .activationWdog s fun t => t.fw.paused = false ∧ t.fw.upd = .idle ∧ t.fw.mc ≠ .running ∧
      t.late = [] ∧ Causes s t 4 [5]) ∧
    (s.fatal = true → (Answers .imyonReady s fun t => Only [] s t) ∧ Answers .activationWdog s fun t => Only [] s t)) ∧
  (∀ s : State, s.mcRuns = true → s.fw.paused = false → s.fw.served = true → s.fw.mc = .loader →
    (s.store.records = [] → Answers .imyonReady s fun t => Only [.fw] s t ∧ t.fw.mc = .running ∧
      t.fw.replayDone = true ∧ t.fw.skipped = 0) ∧
    (s.fw.starts < 2 → Answers .imyonStartTimeout s fun t => Only [.fw] s t ∧
      t.fw = { s.fw with starts := s.fw.starts + 1 }) ∧
    (2 ≤ s.fw.starts → (∀ n : PortId, s.husks[n].claim = false) → Answers .imyonStartTimeout s fun t =>
      Only [.fw] s t ∧ t.fw.mc = .acornOnly ∧ t.fw.why = 3)) ∧
  ∀ (n r : Nat) (s : State), s.mcRuns = true → s.fw.cmd = some (n, some r) → s.Canonical →
    (∀ k : Nat, s.store.img = .confirmStart k → s.fw.confirming = true → s.fld (at_ 4 0x100) 0 8 = 5 → r = 0 →
      (s.fw.storeOk = true → Answers .fwCommandDone s fun t =>
        Only [.fw, .regs, .store, .seq, .qps, .park, .events, .posted] s t ∧ t.store.img = .confirmed ∧
        t.store.secCount = max s.store.secCount k ∧ Raised s t 4 2 0 (max s.store.secCount k) ∧
        t.fw = { s.fw with cmd := none, confirming := false, result := BitVec.ofNat 32 (n * 2 ^ 16) } ∧
          Causes s t 4 [2]) ∧
      (s.fw.storeOk = false → Answers .fwCommandDone s fun t => Only [.fw, .regs, .store] s t ∧
        t.store.img = .confirmStart k ∧ t.store.secCount = max s.store.secCount k ∧
        t.fw = { s.fw with cmd := none, confirming := false, result := BitVec.ofNat 32 (0x0D + n * 2 ^ 16) } ∧
          Causes s t 4 [2, 3])) ∧
    ((∀ k : Nat, s.store.img ≠ .confirmStart k) ∨ s.fw.confirming = false ∨ s.fld (at_ 4 0x100) 0 8 ≠ 5 →
      Answers .fwCommandDone s fun t => Only [.fw, .regs] s t ∧
      RegsBut [at_ 4 8] s t ∧
        t.fw = { s.fw with cmd := none, confirming := false, result := BitVec.ofNat 32 (r % 256 + n * 2 ^ 16) } ∧
      Causes s t 4 (if r = 0 then [2] else [2, 3]))

/-- In ACORN_ONLY a settings command ends with ACORN_ONLY and stores nothing. SET_WRITE of a legal key and length
appends a record with the next SERIAL, which then is the live one of its key; SET_DELETE appends one without payload,
after which the key has none, and ends with NOT_FOUND where it had none; SET_READ copies the live payload to the start
of the staging buffer and puts its length into ARG1; SET_FORMAT with its key clears every record. A read-only store
takes nothing; with an unreadable record SET_WRITE and SET_DELETE end SCHEMA_HELD; a failed sector costs a spare, and
without one makes the store read-only. SET_APPLY, and Imyon at its start, replay the live records in ascending key
where all are readable: each entry is a register write by the management controller, skipped and counted where it may
not write; else they replay nothing and set the cause, with its event. A write of FW.DATA stores one dword and steps
the pointer, up to 4 KiB. The order of the checks is the model's reading (log entry 47).
(spec/13_firmware_and_settings.md R353, spec/13_firmware_and_settings.md R355, spec/13_firmware_and_settings.md R356,
spec/13_firmware_and_settings.md R358, spec/13_firmware_and_settings.md R366, spec/13_firmware_and_settings.md R367,
spec/13_firmware_and_settings.md R368, spec/13_firmware_and_settings.md R369, spec/13_firmware_and_settings.md R370)
-/
def Obligations.SettingsStore : Prop :=
  (∀ (c : Instr) (op : Nat) (src : Source) (tag : BitVec 16) (st : StoreOutcome) (s : State),
    (c = .setWrite src tag st ∧ op = 0x10 ∨ c = .setDelete src tag st ∧ op = 0x11 ∨ c = .setRead src tag ∧ op = 0x12 ∨
     c = .setFormat src tag st ∧ op = 0x13 ∨ c = .setApply src tag ∧ op = 0x14) → s.Takes src 4 0x100 →
    s.fw.served = true → s.fw.cmd = none → s.Canonical →
    (s.fw.mc = .acornOnly → Answers c s fun t => Only [.regs, .fw] s t ∧ CmdTaken t op tag 0x11) ∧
    (s.fw.mc ≠ .acornOnly →
      (op = 0x10 → 1 ≤ s.arg0 → s.arg0 ≤ 0xFFFE → 8 ≤ s.fw.ptr → s.fw.ptr ≤ 512 → s.fw.ptr % 8 = 0 →
        s.store.readOnly = false → s.unreadable? = none → s.store.fill + 592 ≤ 65536 →
        (∀ r ∈ s.store.records, r.serial ≤ s.store.serial ∧ r.valid = true) →
        (st.fails = [] → Answers c s fun t => Only [.regs, .fw, .store] s t ∧
          RegsBut [at_ 4 0x100] s t ∧ CmdTaken t op tag 0 ∧ t.store.serial = s.store.serial + 1 ∧
          ∃ r : SetRec, t.store.records = s.store.records ++ [r] ∧ r.key = s.arg0 ∧ r.serial = s.store.serial + 1 ∧
            r.payload = s.staged (s.fw.ptr / 8) ∧ r.schema = s.schemas.2 ∧ r.valid = true ∧
            liveOf t.store.records s.arg0 = some r) ∧
        (st.fails.map Fin.val = [s.store.active] → s.store.spares ≠ 0 → Answers c s fun t =>
          Only [.regs, .fw, .store] s t ∧ CmdTaken t op tag 0 ∧ Causes s t 4 [7] ∧
          t.store.spares = s.store.spares - 1 ∧ t.store.ring[s.store.active]? =
            (s.store.ring[s.store.active]?).map (fun _ => 71 - s.store.spares) ∧
          t.store.records.length = s.store.records.length + 1) ∧
        (st.fails.map Fin.val = [s.store.active] → s.store.spares = 0 → Answers c s fun t =>
          Only [.regs, .fw, .store, .seq, .qps, .park, .events, .posted] s t ∧ CmdTaken t op tag 0x0E ∧
          Causes s t 4 [8] ∧ Raised s t 4 4 0 0 ∧ t.store = { s.store with readOnly := true })) ∧
      ((op = 0x10 ∧ 1 ≤ s.arg0 ∧ s.arg0 ≤ 0xFFFE ∧ 8 ≤ s.fw.ptr ∧ s.fw.ptr ≤ 512 ∧ s.fw.ptr % 8 = 0 ∨ op = 0x11) →
        s.store.readOnly = false → s.unreadable? ≠ none → Answers c s fun t => Only [.regs, .fw] s t ∧
          CmdTaken t op tag 0x0F) ∧
      (op = 0x10 → (s.arg0 < 1 ∨ 0xFFFE < s.arg0 ∨ s.fw.ptr < 8 ∨ 512 < s.fw.ptr ∨ s.fw.ptr % 8 ≠ 0) →
        Answers c s fun t => Only [.regs, .fw] s t ∧ CmdTaken t op tag 3) ∧
      (op = 0x11 → s.store.readOnly = false → s.unreadable? = none → liveOf s.store.records s.arg0 = none →
        Answers c s fun t => Only [.regs, .fw] s t ∧ CmdTaken t op tag 0x10) ∧
      (op = 0x11 → s.store.readOnly = false → s.unreadable? = none → liveOf s.store.records s.arg0 ≠ none →
        st.fails = [] → s.store.fill + 592 ≤ 65536 →
        (∀ r ∈ s.store.records, r.serial ≤ s.store.serial ∧ r.valid = true) →
        Answers c s fun t => Only [.regs, .fw, .store] s t ∧ CmdTaken t op tag 0 ∧
          liveOf t.store.records s.arg0 = none) ∧
      (∀ r : SetRec, op = 0x12 → liveOf s.store.records s.arg0 = some r → Answers c s fun t =>
        Only [.regs, .fw] s t ∧ RegsBut [at_ 4 0x100, at_ 4 0x108] s t ∧ CmdTaken t op tag 0 ∧
        t.reg (at_ 4 0x108) = BitVec.ofNat 32 (8 * r.payload.length) ∧
        (∀ (i : Nat) (h : i < r.payload.length), memRead t.fw.buf (8 * i) 4 = r.payload[i].1.toNat ∧
          memRead t.fw.buf (8 * i + 4) 4 = r.payload[i].2.toNat) ∧
        ∀ n : Nat, 8 * r.payload.length ≤ n → memGet t.fw.buf n = memGet s.fw.buf n) ∧
      (op = 0x12 → liveOf s.store.records s.arg0 = none → Answers c s fun t => Only [.regs, .fw] s t ∧
        CmdTaken t op tag 0x10) ∧
      (op = 0x13 → s.arg0 = 0xF0F0 → s.store.readOnly = false → st.fails = [] → Answers c s fun t =>
        Only [.regs, .fw, .store] s t ∧ CmdTaken t op tag 0 ∧ t.store.records = [] ∧ t.fw.unreadable = false) ∧
      (op = 0x13 → s.arg0 ≠ 0xF0F0 → Answers c s fun t => Only [.regs, .fw] s t ∧ CmdTaken t op tag 3) ∧
      ((op = 0x10 ∧ 1 ≤ s.arg0 ∧ s.arg0 ≤ 0xFFFE ∧ 8 ≤ s.fw.ptr ∧ s.fw.ptr ≤ 512 ∧ s.fw.ptr % 8 = 0) ∨ op = 0x11 ∨
          (op = 0x13 ∧ s.arg0 = 0xF0F0) → s.store.readOnly = true →
        Answers c s fun t => Only [.regs, .fw] s t ∧ CmdTaken t op tag 0x0E) ∧
      (∀ r : SetRec, op = 0x14 → s.unreadable? = some r → Answers c s fun t =>
        Only [.regs, .fw, .seq, .qps, .park, .events, .posted] s t ∧ CmdTaken t op tag 0 ∧ t.fw.unreadable = true ∧
        Causes s t 4 [6] ∧ Raised s t 4 3 0 r.schema) ∧
      (op = 0x14 → s.store.records = [] → Answers c s fun t => Only [.regs, .fw] s t ∧ CmdTaken t op tag 0 ∧
        t.fw.skipped = 0))) ∧
  (∀ (c : Instr) (src : Source) (tag : BitVec 16) (s : State),
    (c = .setApply src tag ∧ s.Takes src 4 0x100 ∧ s.fw.cmd = none ∧ s.fw.mc ≠ .acornOnly ∨
     c = .imyonReady ∧ s.fw.paused = false ∧ s.fw.mc = .loader) → s.fw.served = true → s.mcRuns = true →
    s.held = false → s.unreadable? = none → s.Canonical →
    let ends (t : State) (n : Nat) : Prop := t.fw.skipped = n ∧
      (∀ src tag, c = .setApply src tag → CmdTaken t 0x14 tag 0) ∧
      (c = .imyonReady → t.fw.mc = .running ∧ t.fw.replayDone = true)
    (∀ (r : SetRec) (a v : Word), liveRecords s.store.records = [r] → r.payload = [(a, v)] →
      (a.toNat < 2 ^ 21 → mcMay (a.toNat / 4096) (a.toNat % 4096) = false → Answers c s fun t =>
        Only [.regs, .fw] s t ∧ RegsBut [at_ 4 0x100] s t ∧ ends t 1) ∧
      (∀ n : PortId, a.toNat = at_ (huskPage n) 0x100 → s.Takes .mc (huskPage n) 0x100 →
        s.linkDown (regionOf n) = false → 210 < bits v.toNat 0 8 → Answers c s fun t => Only [.regs, .fw] s t ∧
          RegsBut [at_ 4 0x100, at_ (huskPage n) 8] s t ∧ Causes s t (huskPage n) [0] ∧ ends t 0)) ∧
    (∀ (p : PortId) (r1 r2 : SetRec) (a v1 v2 w : Word), s.store.records = [r2, r1] → r1.valid = true →
      r2.valid = true → r1.key < r2.key → r1.payload = [(a, w), (a, v1)] → r2.payload = [(a, v2)] →
      a.toNat = at_ (portPage p) 0x114 → s.Takes .mc (portPage p) 0x114 → Answers c s fun t => Only [.regs, .fw] s t ∧
        RegsBut [at_ 4 0x100, at_ (portPage p) 0x114] s t ∧
        t.fld (at_ (portPage p) 0x114) 0 2 = bits v2.toNat 0 2 ∧ ends t 0) ∧
    ∀ (p : PortId) (r : SetRec) (a v w : Word), s.store.records = [r] → r.valid = true → r.payload = [(a, w), (a, v)] →
      a.toNat = at_ (portPage p) 0x114 → s.Takes .mc (portPage p) 0x114 → Answers c s fun t => Only [.regs, .fw] s t ∧
        RegsBut [at_ 4 0x100, at_ (portPage p) 0x114] s t ∧
        t.fld (at_ (portPage p) 0x114) 0 2 = bits v.toNat 0 2 ∧ ends t 0) ∧
  (∀ (r : SetRec) (s : State), s.mcRuns = true → s.held = false → s.fw.served = true → s.fw.paused = false →
    s.fw.mc = .loader → s.unreadable? = some r → s.Canonical → Answers .imyonReady s fun t =>
      Only [.fw, .regs, .seq, .qps, .park, .events, .posted] s t ∧ RegsOf [.fw, .qp] s t ∧ t.fw.mc = .running ∧
      t.fw.replayDone = true ∧ t.fw.unreadable = true ∧ t.fw.skipped = s.fw.skipped ∧ Causes s t 4 [6] ∧
      Raised s t 4 3 0 r.schema) ∧
  ∀ (src : Source) (v : Word) (s : State), s.Takes src 4 0x110 → s.Canonical →
    (s.fw.ptr < 4096 → Answers (.fwDataAccess src (some v)) s fun t => Only [.fw] s t ∧ t.fw.ptr = s.fw.ptr + 4 ∧
      memRead t.fw.buf s.fw.ptr 4 = v.toNat ∧
      ∀ n : Nat, (n < s.fw.ptr ∨ s.fw.ptr + 4 ≤ n) → memGet t.fw.buf n = memGet s.fw.buf n) ∧
    (4096 ≤ s.fw.ptr → Answers (.fwDataAccess src (some v)) s fun t => Only [.regs] s t ∧ RegsBut [at_ 4 8] s t ∧
      Causes s t 4 [0]) ∧
    (s.fw.ptr < 4096 → Answers (.fwDataAccess src none) s fun t => Only [.fw, .rd] s t ∧
      t.rd = .words [BitVec.ofNat 32 (memRead s.fw.buf s.fw.ptr 4)])
end

