-- ==== Sys2Proof/Laws/State.lean ====
section
/-!
SUPPORT. One lemma for each field of State under each named update: what the update leaves alone. Every one holds by
unfolding the update; with them no later proof unfolds a record update.
-/

namespace Sys2Proof.Machine

open Sys2Proof

variable (s : State)

section setReg
variable (o : Nat) (v : Word)

@[simp] theorem setReg_pending : (s.setReg o v).pending = s.pending := rfl
@[simp] theorem setReg_now : (s.setReg o v).now = s.now := rfl
@[simp] theorem setReg_nextId : (s.setReg o v).nextId = s.nextId := rfl
@[simp] theorem setReg_ordinal : (s.setReg o v).ordinal = s.ordinal := rfl
@[simp] theorem setReg_free : (s.setReg o v).free = s.free := rfl
@[simp] theorem setReg_causesNow : (s.setReg o v).causesNow = s.causesNow := rfl
@[simp] theorem setReg_seq : (s.setReg o v).seq = s.seq := rfl
@[simp] theorem setReg_dtime : (s.setReg o v).dtime = s.dtime := rfl
@[simp] theorem setReg_dphase : (s.setReg o v).dphase = s.dphase := rfl
@[simp] theorem setReg_qps : (s.setReg o v).qps = s.qps := rfl
@[simp] theorem setReg_wis : (s.setReg o v).wis = s.wis := rfl
@[simp] theorem setReg_park : (s.setReg o v).park = s.park := rfl
@[simp] theorem setReg_events : (s.setReg o v).events = s.events := rfl
@[simp] theorem setReg_visitPtr : (s.setReg o v).visitPtr = s.visitPtr := rfl
@[simp] theorem setReg_perPtr : (s.setReg o v).perPtr = s.perPtr := rfl
@[simp] theorem setReg_rrPtr : (s.setReg o v).rrPtr = s.rrPtr := rfl
@[simp] theorem setReg_wisPeak : (s.setReg o v).wisPeak = s.wisPeak := rfl
@[simp] theorem setReg_flowPeak : (s.setReg o v).flowPeak = s.flowPeak := rfl
@[simp] theorem setReg_pfPeak : (s.setReg o v).pfPeak = s.pfPeak := rfl
@[simp] theorem setReg_poolPeak : (s.setReg o v).poolPeak = s.poolPeak := rfl
@[simp] theorem setReg_poolWaits : (s.setReg o v).poolWaits = s.poolWaits := rfl
@[simp] theorem setReg_engs : (s.setReg o v).engs = s.engs := rfl
@[simp] theorem setReg_ctxs : (s.setReg o v).ctxs = s.ctxs := rfl
@[simp] theorem setReg_closed : (s.setReg o v).closed = s.closed := rfl
@[simp] theorem setReg_flushing : (s.setReg o v).flushing = s.flushing := rfl
@[simp] theorem setReg_ports : (s.setReg o v).ports = s.ports := rfl
@[simp] theorem setReg_clks : (s.setReg o v).clks = s.clks := rfl
@[simp] theorem setReg_refClk : (s.setReg o v).refClk = s.refClk := rfl
@[simp] theorem setReg_husks : (s.setReg o v).husks = s.husks := rfl
@[simp] theorem setReg_regions : (s.setReg o v).regions = s.regions := rfl
@[simp] theorem setReg_gaps : (s.setReg o v).gaps = s.gaps := rfl
@[simp] theorem setReg_overRuns : (s.setReg o v).overRuns = s.overRuns := rfl
@[simp] theorem setReg_slices : (s.setReg o v).slices = s.slices := rfl
@[simp] theorem setReg_dmchs : (s.setReg o v).dmchs = s.dmchs := rfl
@[simp] theorem setReg_dms : (s.setReg o v).dms = s.dms := rfl
@[simp] theorem setReg_cfs : (s.setReg o v).cfs = s.cfs := rfl
@[simp] theorem setReg_doms : (s.setReg o v).doms = s.doms := rfl
@[simp] theorem setReg_store : (s.setReg o v).store = s.store := rfl
@[simp] theorem setReg_fw : (s.setReg o v).fw = s.fw := rfl
@[simp] theorem setReg_ctl : (s.setReg o v).ctl = s.ctl := rfl
@[simp] theorem setReg_pci : (s.setReg o v).pci = s.pci := rfl
@[simp] theorem setReg_att : (s.setReg o v).att = s.att := rfl
@[simp] theorem setReg_tap : (s.setReg o v).tap = s.tap := rfl
@[simp] theorem setReg_posted : (s.setReg o v).posted = s.posted := rfl
@[simp] theorem setReg_reads : (s.setReg o v).reads = s.reads := rfl
@[simp] theorem setReg_late : (s.setReg o v).late = s.late := rfl
@[simp] theorem setReg_latches : (s.setReg o v).latches = s.latches := rfl
@[simp] theorem setReg_rd : (s.setReg o v).rd = s.rd := rfl

end setReg

section setFld
variable (o lo len v : Nat)

@[simp] theorem setFld_pending : (s.setFld o lo len v).pending = s.pending := rfl
@[simp] theorem setFld_now : (s.setFld o lo len v).now = s.now := rfl
@[simp] theorem setFld_nextId : (s.setFld o lo len v).nextId = s.nextId := rfl
@[simp] theorem setFld_ordinal : (s.setFld o lo len v).ordinal = s.ordinal := rfl
@[simp] theorem setFld_free : (s.setFld o lo len v).free = s.free := rfl
@[simp] theorem setFld_causesNow : (s.setFld o lo len v).causesNow = s.causesNow := rfl
@[simp] theorem setFld_seq : (s.setFld o lo len v).seq = s.seq := rfl
@[simp] theorem setFld_dtime : (s.setFld o lo len v).dtime = s.dtime := rfl
@[simp] theorem setFld_dphase : (s.setFld o lo len v).dphase = s.dphase := rfl
@[simp] theorem setFld_qps : (s.setFld o lo len v).qps = s.qps := rfl
@[simp] theorem setFld_wis : (s.setFld o lo len v).wis = s.wis := rfl
@[simp] theorem setFld_park : (s.setFld o lo len v).park = s.park := rfl
@[simp] theorem setFld_events : (s.setFld o lo len v).events = s.events := rfl
@[simp] theorem setFld_visitPtr : (s.setFld o lo len v).visitPtr = s.visitPtr := rfl
@[simp] theorem setFld_perPtr : (s.setFld o lo len v).perPtr = s.perPtr := rfl
@[simp] theorem setFld_rrPtr : (s.setFld o lo len v).rrPtr = s.rrPtr := rfl
@[simp] theorem setFld_wisPeak : (s.setFld o lo len v).wisPeak = s.wisPeak := rfl
@[simp] theorem setFld_flowPeak : (s.setFld o lo len v).flowPeak = s.flowPeak := rfl
@[simp] theorem setFld_pfPeak : (s.setFld o lo len v).pfPeak = s.pfPeak := rfl
@[simp] theorem setFld_poolPeak : (s.setFld o lo len v).poolPeak = s.poolPeak := rfl
@[simp] theorem setFld_poolWaits : (s.setFld o lo len v).poolWaits = s.poolWaits := rfl
@[simp] theorem setFld_engs : (s.setFld o lo len v).engs = s.engs := rfl
@[simp] theorem setFld_ctxs : (s.setFld o lo len v).ctxs = s.ctxs := rfl
@[simp] theorem setFld_closed : (s.setFld o lo len v).closed = s.closed := rfl
@[simp] theorem setFld_flushing : (s.setFld o lo len v).flushing = s.flushing := rfl
@[simp] theorem setFld_ports : (s.setFld o lo len v).ports = s.ports := rfl
@[simp] theorem setFld_clks : (s.setFld o lo len v).clks = s.clks := rfl
@[simp] theorem setFld_refClk : (s.setFld o lo len v).refClk = s.refClk := rfl
@[simp] theorem setFld_husks : (s.setFld o lo len v).husks = s.husks := rfl
@[simp] theorem setFld_regions : (s.setFld o lo len v).regions = s.regions := rfl
@[simp] theorem setFld_gaps : (s.setFld o lo len v).gaps = s.gaps := rfl
@[simp] theorem setFld_overRuns : (s.setFld o lo len v).overRuns = s.overRuns := rfl
@[simp] theorem setFld_slices : (s.setFld o lo len v).slices = s.slices := rfl
@[simp] theorem setFld_dmchs : (s.setFld o lo len v).dmchs = s.dmchs := rfl
@[simp] theorem setFld_dms : (s.setFld o lo len v).dms = s.dms := rfl
@[simp] theorem setFld_cfs : (s.setFld o lo len v).cfs = s.cfs := rfl
@[simp] theorem setFld_doms : (s.setFld o lo len v).doms = s.doms := rfl
@[simp] theorem setFld_store : (s.setFld o lo len v).store = s.store := rfl
@[simp] theorem setFld_fw : (s.setFld o lo len v).fw = s.fw := rfl
@[simp] theorem setFld_ctl : (s.setFld o lo len v).ctl = s.ctl := rfl
@[simp] theorem setFld_pci : (s.setFld o lo len v).pci = s.pci := rfl
@[simp] theorem setFld_att : (s.setFld o lo len v).att = s.att := rfl
@[simp] theorem setFld_tap : (s.setFld o lo len v).tap = s.tap := rfl
@[simp] theorem setFld_posted : (s.setFld o lo len v).posted = s.posted := rfl
@[simp] theorem setFld_reads : (s.setFld o lo len v).reads = s.reads := rfl
@[simp] theorem setFld_late : (s.setFld o lo len v).late = s.late := rfl
@[simp] theorem setFld_latches : (s.setFld o lo len v).latches = s.latches := rfl
@[simp] theorem setFld_rd : (s.setFld o lo len v).rd = s.rd := rfl

end setFld

section cause
variable (page i : Nat)

@[simp] theorem cause_pending : (s.cause page i).pending = s.pending := rfl
@[simp] theorem cause_now : (s.cause page i).now = s.now := rfl
@[simp] theorem cause_nextId : (s.cause page i).nextId = s.nextId := rfl
@[simp] theorem cause_ordinal : (s.cause page i).ordinal = s.ordinal := rfl
@[simp] theorem cause_free : (s.cause page i).free = s.free := rfl
@[simp] theorem cause_causesNow : (s.cause page i).causesNow = (page, i) :: s.causesNow := rfl
@[simp] theorem cause_seq : (s.cause page i).seq = s.seq := rfl
@[simp] theorem cause_dtime : (s.cause page i).dtime = s.dtime := rfl
@[simp] theorem cause_dphase : (s.cause page i).dphase = s.dphase := rfl
@[simp] theorem cause_qps : (s.cause page i).qps = s.qps := rfl
@[simp] theorem cause_wis : (s.cause page i).wis = s.wis := rfl
@[simp] theorem cause_park : (s.cause page i).park = s.park := rfl
@[simp] theorem cause_events : (s.cause page i).events = s.events := rfl
@[simp] theorem cause_visitPtr : (s.cause page i).visitPtr = s.visitPtr := rfl
@[simp] theorem cause_perPtr : (s.cause page i).perPtr = s.perPtr := rfl
@[simp] theorem cause_rrPtr : (s.cause page i).rrPtr = s.rrPtr := rfl
@[simp] theorem cause_wisPeak : (s.cause page i).wisPeak = s.wisPeak := rfl
@[simp] theorem cause_flowPeak : (s.cause page i).flowPeak = s.flowPeak := rfl
@[simp] theorem cause_pfPeak : (s.cause page i).pfPeak = s.pfPeak := rfl
@[simp] theorem cause_poolPeak : (s.cause page i).poolPeak = s.poolPeak := rfl
@[simp] theorem cause_poolWaits : (s.cause page i).poolWaits = s.poolWaits := rfl
@[simp] theorem cause_engs : (s.cause page i).engs = s.engs := rfl
@[simp] theorem cause_ctxs : (s.cause page i).ctxs = s.ctxs := rfl
@[simp] theorem cause_closed : (s.cause page i).closed = s.closed := rfl
@[simp] theorem cause_flushing : (s.cause page i).flushing = s.flushing := rfl
@[simp] theorem cause_ports : (s.cause page i).ports = s.ports := rfl
@[simp] theorem cause_clks : (s.cause page i).clks = s.clks := rfl
@[simp] theorem cause_refClk : (s.cause page i).refClk = s.refClk := rfl
@[simp] theorem cause_husks : (s.cause page i).husks = s.husks := rfl
@[simp] theorem cause_regions : (s.cause page i).regions = s.regions := rfl
@[simp] theorem cause_gaps : (s.cause page i).gaps = s.gaps := rfl
@[simp] theorem cause_overRuns : (s.cause page i).overRuns = s.overRuns := rfl
@[simp] theorem cause_slices : (s.cause page i).slices = s.slices := rfl
@[simp] theorem cause_dmchs : (s.cause page i).dmchs = s.dmchs := rfl
@[simp] theorem cause_dms : (s.cause page i).dms = s.dms := rfl
@[simp] theorem cause_cfs : (s.cause page i).cfs = s.cfs := rfl
@[simp] theorem cause_doms : (s.cause page i).doms = s.doms := rfl
@[simp] theorem cause_store : (s.cause page i).store = s.store := rfl
@[simp] theorem cause_fw : (s.cause page i).fw = s.fw := rfl
@[simp] theorem cause_ctl : (s.cause page i).ctl = s.ctl := rfl
@[simp] theorem cause_pci : (s.cause page i).pci = s.pci := rfl
@[simp] theorem cause_att : (s.cause page i).att = s.att := rfl
@[simp] theorem cause_tap : (s.cause page i).tap = s.tap := rfl
@[simp] theorem cause_posted : (s.cause page i).posted = s.posted := rfl
@[simp] theorem cause_reads : (s.cause page i).reads = s.reads := rfl
@[simp] theorem cause_late : (s.cause page i).late = s.late := rfl
@[simp] theorem cause_latches : (s.cause page i).latches = s.latches := rfl
@[simp] theorem cause_rd : (s.cause page i).rd = s.rd := rfl

end cause

section setUnit
variable (o i : Nat)

@[simp] theorem setUnit_pending : (s.setUnit o i).pending = s.pending := rfl
@[simp] theorem setUnit_now : (s.setUnit o i).now = s.now := rfl
@[simp] theorem setUnit_nextId : (s.setUnit o i).nextId = s.nextId := rfl
@[simp] theorem setUnit_ordinal : (s.setUnit o i).ordinal = s.ordinal := rfl
@[simp] theorem setUnit_free : (s.setUnit o i).free = s.free := rfl
@[simp] theorem setUnit_causesNow : (s.setUnit o i).causesNow = (o, i) :: s.causesNow := rfl
@[simp] theorem setUnit_seq : (s.setUnit o i).seq = s.seq := rfl
@[simp] theorem setUnit_dtime : (s.setUnit o i).dtime = s.dtime := rfl
@[simp] theorem setUnit_dphase : (s.setUnit o i).dphase = s.dphase := rfl
@[simp] theorem setUnit_qps : (s.setUnit o i).qps = s.qps := rfl
@[simp] theorem setUnit_wis : (s.setUnit o i).wis = s.wis := rfl
@[simp] theorem setUnit_park : (s.setUnit o i).park = s.park := rfl
@[simp] theorem setUnit_events : (s.setUnit o i).events = s.events := rfl
@[simp] theorem setUnit_visitPtr : (s.setUnit o i).visitPtr = s.visitPtr := rfl
@[simp] theorem setUnit_perPtr : (s.setUnit o i).perPtr = s.perPtr := rfl
@[simp] theorem setUnit_rrPtr : (s.setUnit o i).rrPtr = s.rrPtr := rfl
@[simp] theorem setUnit_wisPeak : (s.setUnit o i).wisPeak = s.wisPeak := rfl
@[simp] theorem setUnit_flowPeak : (s.setUnit o i).flowPeak = s.flowPeak := rfl
@[simp] theorem setUnit_pfPeak : (s.setUnit o i).pfPeak = s.pfPeak := rfl
@[simp] theorem setUnit_poolPeak : (s.setUnit o i).poolPeak = s.poolPeak := rfl
@[simp] theorem setUnit_poolWaits : (s.setUnit o i).poolWaits = s.poolWaits := rfl
@[simp] theorem setUnit_engs : (s.setUnit o i).engs = s.engs := rfl
@[simp] theorem setUnit_ctxs : (s.setUnit o i).ctxs = s.ctxs := rfl
@[simp] theorem setUnit_closed : (s.setUnit o i).closed = s.closed := rfl
@[simp] theorem setUnit_flushing : (s.setUnit o i).flushing = s.flushing := rfl
@[simp] theorem setUnit_ports : (s.setUnit o i).ports = s.ports := rfl
@[simp] theorem setUnit_clks : (s.setUnit o i).clks = s.clks := rfl
@[simp] theorem setUnit_refClk : (s.setUnit o i).refClk = s.refClk := rfl
@[simp] theorem setUnit_husks : (s.setUnit o i).husks = s.husks := rfl
@[simp] theorem setUnit_regions : (s.setUnit o i).regions = s.regions := rfl
@[simp] theorem setUnit_gaps : (s.setUnit o i).gaps = s.gaps := rfl
@[simp] theorem setUnit_overRuns : (s.setUnit o i).overRuns = s.overRuns := rfl
@[simp] theorem setUnit_slices : (s.setUnit o i).slices = s.slices := rfl
@[simp] theorem setUnit_dmchs : (s.setUnit o i).dmchs = s.dmchs := rfl
@[simp] theorem setUnit_dms : (s.setUnit o i).dms = s.dms := rfl
@[simp] theorem setUnit_cfs : (s.setUnit o i).cfs = s.cfs := rfl
@[simp] theorem setUnit_doms : (s.setUnit o i).doms = s.doms := rfl
@[simp] theorem setUnit_store : (s.setUnit o i).store = s.store := rfl
@[simp] theorem setUnit_fw : (s.setUnit o i).fw = s.fw := rfl
@[simp] theorem setUnit_ctl : (s.setUnit o i).ctl = s.ctl := rfl
@[simp] theorem setUnit_pci : (s.setUnit o i).pci = s.pci := rfl
@[simp] theorem setUnit_att : (s.setUnit o i).att = s.att := rfl
@[simp] theorem setUnit_tap : (s.setUnit o i).tap = s.tap := rfl
@[simp] theorem setUnit_posted : (s.setUnit o i).posted = s.posted := rfl
@[simp] theorem setUnit_reads : (s.setUnit o i).reads = s.reads := rfl
@[simp] theorem setUnit_late : (s.setUnit o i).late = s.late := rfl
@[simp] theorem setUnit_latches : (s.setUnit o i).latches = s.latches := rfl
@[simp] theorem setUnit_rd : (s.setUnit o i).rd = s.rd := rfl

end setUnit

section causeIf
variable (c : Bool) (page i : Nat)

@[simp] theorem causeIf_pending : (s.causeIf c page i).pending = s.pending := by cases c <;> rfl
@[simp] theorem causeIf_now : (s.causeIf c page i).now = s.now := by cases c <;> rfl
@[simp] theorem causeIf_nextId : (s.causeIf c page i).nextId = s.nextId := by cases c <;> rfl
@[simp] theorem causeIf_ordinal : (s.causeIf c page i).ordinal = s.ordinal := by cases c <;> rfl
@[simp] theorem causeIf_free : (s.causeIf c page i).free = s.free := by cases c <;> rfl
@[simp] theorem causeIf_causesNow : (s.causeIf c page i).causesNow = if c then (page, i) :: s.causesNow else s.causesNow := by cases c <;> rfl
@[simp] theorem causeIf_seq : (s.causeIf c page i).seq = s.seq := by cases c <;> rfl
@[simp] theorem causeIf_dtime : (s.causeIf c page i).dtime = s.dtime := by cases c <;> rfl
@[simp] theorem causeIf_dphase : (s.causeIf c page i).dphase = s.dphase := by cases c <;> rfl
@[simp] theorem causeIf_qps : (s.causeIf c page i).qps = s.qps := by cases c <;> rfl
@[simp] theorem causeIf_wis : (s.causeIf c page i).wis = s.wis := by cases c <;> rfl
@[simp] theorem causeIf_park : (s.causeIf c page i).park = s.park := by cases c <;> rfl
@[simp] theorem causeIf_events : (s.causeIf c page i).events = s.events := by cases c <;> rfl
@[simp] theorem causeIf_visitPtr : (s.causeIf c page i).visitPtr = s.visitPtr := by cases c <;> rfl
@[simp] theorem causeIf_perPtr : (s.causeIf c page i).perPtr = s.perPtr := by cases c <;> rfl
@[simp] theorem causeIf_rrPtr : (s.causeIf c page i).rrPtr = s.rrPtr := by cases c <;> rfl
@[simp] theorem causeIf_wisPeak : (s.causeIf c page i).wisPeak = s.wisPeak := by cases c <;> rfl
@[simp] theorem causeIf_flowPeak : (s.causeIf c page i).flowPeak = s.flowPeak := by cases c <;> rfl
@[simp] theorem causeIf_pfPeak : (s.causeIf c page i).pfPeak = s.pfPeak := by cases c <;> rfl
@[simp] theorem causeIf_poolPeak : (s.causeIf c page i).poolPeak = s.poolPeak := by cases c <;> rfl
@[simp] theorem causeIf_poolWaits : (s.causeIf c page i).poolWaits = s.poolWaits := by cases c <;> rfl
@[simp] theorem causeIf_engs : (s.causeIf c page i).engs = s.engs := by cases c <;> rfl
@[simp] theorem causeIf_ctxs : (s.causeIf c page i).ctxs = s.ctxs := by cases c <;> rfl
@[simp] theorem causeIf_closed : (s.causeIf c page i).closed = s.closed := by cases c <;> rfl
@[simp] theorem causeIf_flushing : (s.causeIf c page i).flushing = s.flushing := by cases c <;> rfl
@[simp] theorem causeIf_ports : (s.causeIf c page i).ports = s.ports := by cases c <;> rfl
@[simp] theorem causeIf_clks : (s.causeIf c page i).clks = s.clks := by cases c <;> rfl
@[simp] theorem causeIf_refClk : (s.causeIf c page i).refClk = s.refClk := by cases c <;> rfl
@[simp] theorem causeIf_husks : (s.causeIf c page i).husks = s.husks := by cases c <;> rfl
@[simp] theorem causeIf_regions : (s.causeIf c page i).regions = s.regions := by cases c <;> rfl
@[simp] theorem causeIf_gaps : (s.causeIf c page i).gaps = s.gaps := by cases c <;> rfl
@[simp] theorem causeIf_overRuns : (s.causeIf c page i).overRuns = s.overRuns := by cases c <;> rfl
@[simp] theorem causeIf_slices : (s.causeIf c page i).slices = s.slices := by cases c <;> rfl
@[simp] theorem causeIf_dmchs : (s.causeIf c page i).dmchs = s.dmchs := by cases c <;> rfl
@[simp] theorem causeIf_dms : (s.causeIf c page i).dms = s.dms := by cases c <;> rfl
@[simp] theorem causeIf_cfs : (s.causeIf c page i).cfs = s.cfs := by cases c <;> rfl
@[simp] theorem causeIf_doms : (s.causeIf c page i).doms = s.doms := by cases c <;> rfl
@[simp] theorem causeIf_store : (s.causeIf c page i).store = s.store := by cases c <;> rfl
@[simp] theorem causeIf_fw : (s.causeIf c page i).fw = s.fw := by cases c <;> rfl
@[simp] theorem causeIf_ctl : (s.causeIf c page i).ctl = s.ctl := by cases c <;> rfl
@[simp] theorem causeIf_pci : (s.causeIf c page i).pci = s.pci := by cases c <;> rfl
@[simp] theorem causeIf_att : (s.causeIf c page i).att = s.att := by cases c <;> rfl
@[simp] theorem causeIf_tap : (s.causeIf c page i).tap = s.tap := by cases c <;> rfl
@[simp] theorem causeIf_posted : (s.causeIf c page i).posted = s.posted := by cases c <;> rfl
@[simp] theorem causeIf_reads : (s.causeIf c page i).reads = s.reads := by cases c <;> rfl
@[simp] theorem causeIf_late : (s.causeIf c page i).late = s.late := by cases c <;> rfl
@[simp] theorem causeIf_latches : (s.causeIf c page i).latches = s.latches := by cases c <;> rfl
@[simp] theorem causeIf_rd : (s.causeIf c page i).rd = s.rd := by cases c <;> rfl

end causeIf

section satF
variable (o lo len n : Nat)

@[simp] theorem satF_pending : (s.satF o lo len n).pending = s.pending := rfl
@[simp] theorem satF_now : (s.satF o lo len n).now = s.now := rfl
@[simp] theorem satF_nextId : (s.satF o lo len n).nextId = s.nextId := rfl
@[simp] theorem satF_ordinal : (s.satF o lo len n).ordinal = s.ordinal := rfl
@[simp] theorem satF_free : (s.satF o lo len n).free = s.free := rfl
@[simp] theorem satF_causesNow : (s.satF o lo len n).causesNow = s.causesNow := rfl
@[simp] theorem satF_seq : (s.satF o lo len n).seq = s.seq := rfl
@[simp] theorem satF_dtime : (s.satF o lo len n).dtime = s.dtime := rfl
@[simp] theorem satF_dphase : (s.satF o lo len n).dphase = s.dphase := rfl
@[simp] theorem satF_qps : (s.satF o lo len n).qps = s.qps := rfl
@[simp] theorem satF_wis : (s.satF o lo len n).wis = s.wis := rfl
@[simp] theorem satF_park : (s.satF o lo len n).park = s.park := rfl
@[simp] theorem satF_events : (s.satF o lo len n).events = s.events := rfl
@[simp] theorem satF_visitPtr : (s.satF o lo len n).visitPtr = s.visitPtr := rfl
@[simp] theorem satF_perPtr : (s.satF o lo len n).perPtr = s.perPtr := rfl
@[simp] theorem satF_rrPtr : (s.satF o lo len n).rrPtr = s.rrPtr := rfl
@[simp] theorem satF_wisPeak : (s.satF o lo len n).wisPeak = s.wisPeak := rfl
@[simp] theorem satF_flowPeak : (s.satF o lo len n).flowPeak = s.flowPeak := rfl
@[simp] theorem satF_pfPeak : (s.satF o lo len n).pfPeak = s.pfPeak := rfl
@[simp] theorem satF_poolPeak : (s.satF o lo len n).poolPeak = s.poolPeak := rfl
@[simp] theorem satF_poolWaits : (s.satF o lo len n).poolWaits = s.poolWaits := rfl
@[simp] theorem satF_engs : (s.satF o lo len n).engs = s.engs := rfl
@[simp] theorem satF_ctxs : (s.satF o lo len n).ctxs = s.ctxs := rfl
@[simp] theorem satF_closed : (s.satF o lo len n).closed = s.closed := rfl
@[simp] theorem satF_flushing : (s.satF o lo len n).flushing = s.flushing := rfl
@[simp] theorem satF_ports : (s.satF o lo len n).ports = s.ports := rfl
@[simp] theorem satF_clks : (s.satF o lo len n).clks = s.clks := rfl
@[simp] theorem satF_refClk : (s.satF o lo len n).refClk = s.refClk := rfl
@[simp] theorem satF_husks : (s.satF o lo len n).husks = s.husks := rfl
@[simp] theorem satF_regions : (s.satF o lo len n).regions = s.regions := rfl
@[simp] theorem satF_gaps : (s.satF o lo len n).gaps = s.gaps := rfl
@[simp] theorem satF_overRuns : (s.satF o lo len n).overRuns = s.overRuns := rfl
@[simp] theorem satF_slices : (s.satF o lo len n).slices = s.slices := rfl
@[simp] theorem satF_dmchs : (s.satF o lo len n).dmchs = s.dmchs := rfl
@[simp] theorem satF_dms : (s.satF o lo len n).dms = s.dms := rfl
@[simp] theorem satF_cfs : (s.satF o lo len n).cfs = s.cfs := rfl
@[simp] theorem satF_doms : (s.satF o lo len n).doms = s.doms := rfl
@[simp] theorem satF_store : (s.satF o lo len n).store = s.store := rfl
@[simp] theorem satF_fw : (s.satF o lo len n).fw = s.fw := rfl
@[simp] theorem satF_ctl : (s.satF o lo len n).ctl = s.ctl := rfl
@[simp] theorem satF_pci : (s.satF o lo len n).pci = s.pci := rfl
@[simp] theorem satF_att : (s.satF o lo len n).att = s.att := rfl
@[simp] theorem satF_tap : (s.satF o lo len n).tap = s.tap := rfl
@[simp] theorem satF_posted : (s.satF o lo len n).posted = s.posted := rfl
@[simp] theorem satF_reads : (s.satF o lo len n).reads = s.reads := rfl
@[simp] theorem satF_late : (s.satF o lo len n).late = s.late := rfl
@[simp] theorem satF_latches : (s.satF o lo len n).latches = s.latches := rfl
@[simp] theorem satF_rd : (s.satF o lo len n).rd = s.rd := rfl

end satF

section sat
variable (o : Nat)

@[simp] theorem sat_pending : (s.sat o).pending = s.pending := rfl
@[simp] theorem sat_now : (s.sat o).now = s.now := rfl
@[simp] theorem sat_nextId : (s.sat o).nextId = s.nextId := rfl
@[simp] theorem sat_ordinal : (s.sat o).ordinal = s.ordinal := rfl
@[simp] theorem sat_free : (s.sat o).free = s.free := rfl
@[simp] theorem sat_causesNow : (s.sat o).causesNow = s.causesNow := rfl
@[simp] theorem sat_seq : (s.sat o).seq = s.seq := rfl
@[simp] theorem sat_dtime : (s.sat o).dtime = s.dtime := rfl
@[simp] theorem sat_dphase : (s.sat o).dphase = s.dphase := rfl
@[simp] theorem sat_qps : (s.sat o).qps = s.qps := rfl
@[simp] theorem sat_wis : (s.sat o).wis = s.wis := rfl
@[simp] theorem sat_park : (s.sat o).park = s.park := rfl
@[simp] theorem sat_events : (s.sat o).events = s.events := rfl
@[simp] theorem sat_visitPtr : (s.sat o).visitPtr = s.visitPtr := rfl
@[simp] theorem sat_perPtr : (s.sat o).perPtr = s.perPtr := rfl
@[simp] theorem sat_rrPtr : (s.sat o).rrPtr = s.rrPtr := rfl
@[simp] theorem sat_wisPeak : (s.sat o).wisPeak = s.wisPeak := rfl
@[simp] theorem sat_flowPeak : (s.sat o).flowPeak = s.flowPeak := rfl
@[simp] theorem sat_pfPeak : (s.sat o).pfPeak = s.pfPeak := rfl
@[simp] theorem sat_poolPeak : (s.sat o).poolPeak = s.poolPeak := rfl
@[simp] theorem sat_poolWaits : (s.sat o).poolWaits = s.poolWaits := rfl
@[simp] theorem sat_engs : (s.sat o).engs = s.engs := rfl
@[simp] theorem sat_ctxs : (s.sat o).ctxs = s.ctxs := rfl
@[simp] theorem sat_closed : (s.sat o).closed = s.closed := rfl
@[simp] theorem sat_flushing : (s.sat o).flushing = s.flushing := rfl
@[simp] theorem sat_ports : (s.sat o).ports = s.ports := rfl
@[simp] theorem sat_clks : (s.sat o).clks = s.clks := rfl
@[simp] theorem sat_refClk : (s.sat o).refClk = s.refClk := rfl
@[simp] theorem sat_husks : (s.sat o).husks = s.husks := rfl
@[simp] theorem sat_regions : (s.sat o).regions = s.regions := rfl
@[simp] theorem sat_gaps : (s.sat o).gaps = s.gaps := rfl
@[simp] theorem sat_overRuns : (s.sat o).overRuns = s.overRuns := rfl
@[simp] theorem sat_slices : (s.sat o).slices = s.slices := rfl
@[simp] theorem sat_dmchs : (s.sat o).dmchs = s.dmchs := rfl
@[simp] theorem sat_dms : (s.sat o).dms = s.dms := rfl
@[simp] theorem sat_cfs : (s.sat o).cfs = s.cfs := rfl
@[simp] theorem sat_doms : (s.sat o).doms = s.doms := rfl
@[simp] theorem sat_store : (s.sat o).store = s.store := rfl
@[simp] theorem sat_fw : (s.sat o).fw = s.fw := rfl
@[simp] theorem sat_ctl : (s.sat o).ctl = s.ctl := rfl
@[simp] theorem sat_pci : (s.sat o).pci = s.pci := rfl
@[simp] theorem sat_att : (s.sat o).att = s.att := rfl
@[simp] theorem sat_tap : (s.sat o).tap = s.tap := rfl
@[simp] theorem sat_posted : (s.sat o).posted = s.posted := rfl
@[simp] theorem sat_reads : (s.sat o).reads = s.reads := rfl
@[simp] theorem sat_late : (s.sat o).late = s.late := rfl
@[simp] theorem sat_latches : (s.sat o).latches = s.latches := rfl
@[simp] theorem sat_rd : (s.sat o).rd = s.rd := rfl

end sat

section wrap
variable (o n : Nat)

@[simp] theorem wrap_pending : (s.wrap o n).pending = s.pending := rfl
@[simp] theorem wrap_now : (s.wrap o n).now = s.now := rfl
@[simp] theorem wrap_nextId : (s.wrap o n).nextId = s.nextId := rfl
@[simp] theorem wrap_ordinal : (s.wrap o n).ordinal = s.ordinal := rfl
@[simp] theorem wrap_free : (s.wrap o n).free = s.free := rfl
@[simp] theorem wrap_causesNow : (s.wrap o n).causesNow = s.causesNow := rfl
@[simp] theorem wrap_seq : (s.wrap o n).seq = s.seq := rfl
@[simp] theorem wrap_dtime : (s.wrap o n).dtime = s.dtime := rfl
@[simp] theorem wrap_dphase : (s.wrap o n).dphase = s.dphase := rfl
@[simp] theorem wrap_qps : (s.wrap o n).qps = s.qps := rfl
@[simp] theorem wrap_wis : (s.wrap o n).wis = s.wis := rfl
@[simp] theorem wrap_park : (s.wrap o n).park = s.park := rfl
@[simp] theorem wrap_events : (s.wrap o n).events = s.events := rfl
@[simp] theorem wrap_visitPtr : (s.wrap o n).visitPtr = s.visitPtr := rfl
@[simp] theorem wrap_perPtr : (s.wrap o n).perPtr = s.perPtr := rfl
@[simp] theorem wrap_rrPtr : (s.wrap o n).rrPtr = s.rrPtr := rfl
@[simp] theorem wrap_wisPeak : (s.wrap o n).wisPeak = s.wisPeak := rfl
@[simp] theorem wrap_flowPeak : (s.wrap o n).flowPeak = s.flowPeak := rfl
@[simp] theorem wrap_pfPeak : (s.wrap o n).pfPeak = s.pfPeak := rfl
@[simp] theorem wrap_poolPeak : (s.wrap o n).poolPeak = s.poolPeak := rfl
@[simp] theorem wrap_poolWaits : (s.wrap o n).poolWaits = s.poolWaits := rfl
@[simp] theorem wrap_engs : (s.wrap o n).engs = s.engs := rfl
@[simp] theorem wrap_ctxs : (s.wrap o n).ctxs = s.ctxs := rfl
@[simp] theorem wrap_closed : (s.wrap o n).closed = s.closed := rfl
@[simp] theorem wrap_flushing : (s.wrap o n).flushing = s.flushing := rfl
@[simp] theorem wrap_ports : (s.wrap o n).ports = s.ports := rfl
@[simp] theorem wrap_clks : (s.wrap o n).clks = s.clks := rfl
@[simp] theorem wrap_refClk : (s.wrap o n).refClk = s.refClk := rfl
@[simp] theorem wrap_husks : (s.wrap o n).husks = s.husks := rfl
@[simp] theorem wrap_regions : (s.wrap o n).regions = s.regions := rfl
@[simp] theorem wrap_gaps : (s.wrap o n).gaps = s.gaps := rfl
@[simp] theorem wrap_overRuns : (s.wrap o n).overRuns = s.overRuns := rfl
@[simp] theorem wrap_slices : (s.wrap o n).slices = s.slices := rfl
@[simp] theorem wrap_dmchs : (s.wrap o n).dmchs = s.dmchs := rfl
@[simp] theorem wrap_dms : (s.wrap o n).dms = s.dms := rfl
@[simp] theorem wrap_cfs : (s.wrap o n).cfs = s.cfs := rfl
@[simp] theorem wrap_doms : (s.wrap o n).doms = s.doms := rfl
@[simp] theorem wrap_store : (s.wrap o n).store = s.store := rfl
@[simp] theorem wrap_fw : (s.wrap o n).fw = s.fw := rfl
@[simp] theorem wrap_ctl : (s.wrap o n).ctl = s.ctl := rfl
@[simp] theorem wrap_pci : (s.wrap o n).pci = s.pci := rfl
@[simp] theorem wrap_att : (s.wrap o n).att = s.att := rfl
@[simp] theorem wrap_tap : (s.wrap o n).tap = s.tap := rfl
@[simp] theorem wrap_posted : (s.wrap o n).posted = s.posted := rfl
@[simp] theorem wrap_reads : (s.wrap o n).reads = s.reads := rfl
@[simp] theorem wrap_late : (s.wrap o n).late = s.late := rfl
@[simp] theorem wrap_latches : (s.wrap o n).latches = s.latches := rfl
@[simp] theorem wrap_rd : (s.wrap o n).rd = s.rd := rfl

end wrap

section resetRegs
variable (sel : Nat → Bool)

@[simp] theorem resetRegs_pending : (s.resetRegs sel).pending = s.pending := rfl
@[simp] theorem resetRegs_now : (s.resetRegs sel).now = s.now := rfl
@[simp] theorem resetRegs_nextId : (s.resetRegs sel).nextId = s.nextId := rfl
@[simp] theorem resetRegs_ordinal : (s.resetRegs sel).ordinal = s.ordinal := rfl
@[simp] theorem resetRegs_free : (s.resetRegs sel).free = s.free := rfl
@[simp] theorem resetRegs_causesNow : (s.resetRegs sel).causesNow = s.causesNow := rfl
@[simp] theorem resetRegs_seq : (s.resetRegs sel).seq = s.seq := rfl
@[simp] theorem resetRegs_dtime : (s.resetRegs sel).dtime = s.dtime := rfl
@[simp] theorem resetRegs_dphase : (s.resetRegs sel).dphase = s.dphase := rfl
@[simp] theorem resetRegs_qps : (s.resetRegs sel).qps = s.qps := rfl
@[simp] theorem resetRegs_wis : (s.resetRegs sel).wis = s.wis := rfl
@[simp] theorem resetRegs_park : (s.resetRegs sel).park = s.park := rfl
@[simp] theorem resetRegs_events : (s.resetRegs sel).events = s.events := rfl
@[simp] theorem resetRegs_visitPtr : (s.resetRegs sel).visitPtr = s.visitPtr := rfl
@[simp] theorem resetRegs_perPtr : (s.resetRegs sel).perPtr = s.perPtr := rfl
@[simp] theorem resetRegs_rrPtr : (s.resetRegs sel).rrPtr = s.rrPtr := rfl
@[simp] theorem resetRegs_wisPeak : (s.resetRegs sel).wisPeak = s.wisPeak := rfl
@[simp] theorem resetRegs_flowPeak : (s.resetRegs sel).flowPeak = s.flowPeak := rfl
@[simp] theorem resetRegs_pfPeak : (s.resetRegs sel).pfPeak = s.pfPeak := rfl
@[simp] theorem resetRegs_poolPeak : (s.resetRegs sel).poolPeak = s.poolPeak := rfl
@[simp] theorem resetRegs_poolWaits : (s.resetRegs sel).poolWaits = s.poolWaits := rfl
@[simp] theorem resetRegs_engs : (s.resetRegs sel).engs = s.engs := rfl
@[simp] theorem resetRegs_ctxs : (s.resetRegs sel).ctxs = s.ctxs := rfl
@[simp] theorem resetRegs_closed : (s.resetRegs sel).closed = s.closed := rfl
@[simp] theorem resetRegs_flushing : (s.resetRegs sel).flushing = s.flushing := rfl
@[simp] theorem resetRegs_ports : (s.resetRegs sel).ports = s.ports := rfl
@[simp] theorem resetRegs_clks : (s.resetRegs sel).clks = s.clks := rfl
@[simp] theorem resetRegs_refClk : (s.resetRegs sel).refClk = s.refClk := rfl
@[simp] theorem resetRegs_husks : (s.resetRegs sel).husks = s.husks := rfl
@[simp] theorem resetRegs_regions : (s.resetRegs sel).regions = s.regions := rfl
@[simp] theorem resetRegs_gaps : (s.resetRegs sel).gaps = s.gaps := rfl
@[simp] theorem resetRegs_overRuns : (s.resetRegs sel).overRuns = s.overRuns := rfl
@[simp] theorem resetRegs_slices : (s.resetRegs sel).slices = s.slices := rfl
@[simp] theorem resetRegs_dmchs : (s.resetRegs sel).dmchs = s.dmchs := rfl
@[simp] theorem resetRegs_dms : (s.resetRegs sel).dms = s.dms := rfl
@[simp] theorem resetRegs_cfs : (s.resetRegs sel).cfs = s.cfs := rfl
@[simp] theorem resetRegs_doms : (s.resetRegs sel).doms = s.doms := rfl
@[simp] theorem resetRegs_store : (s.resetRegs sel).store = s.store := rfl
@[simp] theorem resetRegs_fw : (s.resetRegs sel).fw = s.fw := rfl
@[simp] theorem resetRegs_ctl : (s.resetRegs sel).ctl = s.ctl := rfl
@[simp] theorem resetRegs_pci : (s.resetRegs sel).pci = s.pci := rfl
@[simp] theorem resetRegs_att : (s.resetRegs sel).att = s.att := rfl
@[simp] theorem resetRegs_tap : (s.resetRegs sel).tap = s.tap := rfl
@[simp] theorem resetRegs_posted : (s.resetRegs sel).posted = s.posted := rfl
@[simp] theorem resetRegs_reads : (s.resetRegs sel).reads = s.reads := rfl
@[simp] theorem resetRegs_late : (s.resetRegs sel).late = s.late := rfl
@[simp] theorem resetRegs_latches : (s.resetRegs sel).latches = s.latches := rfl
@[simp] theorem resetRegs_rd : (s.resetRegs sel).rd = s.rd := rfl

end resetRegs

section clearRegs
variable (l : List Nat)

@[simp] theorem clearRegs_pending : (s.clearRegs l).pending = s.pending := rfl
@[simp] theorem clearRegs_now : (s.clearRegs l).now = s.now := rfl
@[simp] theorem clearRegs_nextId : (s.clearRegs l).nextId = s.nextId := rfl
@[simp] theorem clearRegs_ordinal : (s.clearRegs l).ordinal = s.ordinal := rfl
@[simp] theorem clearRegs_free : (s.clearRegs l).free = s.free := rfl
@[simp] theorem clearRegs_causesNow : (s.clearRegs l).causesNow = s.causesNow := rfl
@[simp] theorem clearRegs_seq : (s.clearRegs l).seq = s.seq := rfl
@[simp] theorem clearRegs_dtime : (s.clearRegs l).dtime = s.dtime := rfl
@[simp] theorem clearRegs_dphase : (s.clearRegs l).dphase = s.dphase := rfl
@[simp] theorem clearRegs_qps : (s.clearRegs l).qps = s.qps := rfl
@[simp] theorem clearRegs_wis : (s.clearRegs l).wis = s.wis := rfl
@[simp] theorem clearRegs_park : (s.clearRegs l).park = s.park := rfl
@[simp] theorem clearRegs_events : (s.clearRegs l).events = s.events := rfl
@[simp] theorem clearRegs_visitPtr : (s.clearRegs l).visitPtr = s.visitPtr := rfl
@[simp] theorem clearRegs_perPtr : (s.clearRegs l).perPtr = s.perPtr := rfl
@[simp] theorem clearRegs_rrPtr : (s.clearRegs l).rrPtr = s.rrPtr := rfl
@[simp] theorem clearRegs_wisPeak : (s.clearRegs l).wisPeak = s.wisPeak := rfl
@[simp] theorem clearRegs_flowPeak : (s.clearRegs l).flowPeak = s.flowPeak := rfl
@[simp] theorem clearRegs_pfPeak : (s.clearRegs l).pfPeak = s.pfPeak := rfl
@[simp] theorem clearRegs_poolPeak : (s.clearRegs l).poolPeak = s.poolPeak := rfl
@[simp] theorem clearRegs_poolWaits : (s.clearRegs l).poolWaits = s.poolWaits := rfl
@[simp] theorem clearRegs_engs : (s.clearRegs l).engs = s.engs := rfl
@[simp] theorem clearRegs_ctxs : (s.clearRegs l).ctxs = s.ctxs := rfl
@[simp] theorem clearRegs_closed : (s.clearRegs l).closed = s.closed := rfl
@[simp] theorem clearRegs_flushing : (s.clearRegs l).flushing = s.flushing := rfl
@[simp] theorem clearRegs_ports : (s.clearRegs l).ports = s.ports := rfl
@[simp] theorem clearRegs_clks : (s.clearRegs l).clks = s.clks := rfl
@[simp] theorem clearRegs_refClk : (s.clearRegs l).refClk = s.refClk := rfl
@[simp] theorem clearRegs_husks : (s.clearRegs l).husks = s.husks := rfl
@[simp] theorem clearRegs_regions : (s.clearRegs l).regions = s.regions := rfl
@[simp] theorem clearRegs_gaps : (s.clearRegs l).gaps = s.gaps := rfl
@[simp] theorem clearRegs_overRuns : (s.clearRegs l).overRuns = s.overRuns := rfl
@[simp] theorem clearRegs_slices : (s.clearRegs l).slices = s.slices := rfl
@[simp] theorem clearRegs_dmchs : (s.clearRegs l).dmchs = s.dmchs := rfl
@[simp] theorem clearRegs_dms : (s.clearRegs l).dms = s.dms := rfl
@[simp] theorem clearRegs_cfs : (s.clearRegs l).cfs = s.cfs := rfl
@[simp] theorem clearRegs_doms : (s.clearRegs l).doms = s.doms := rfl
@[simp] theorem clearRegs_store : (s.clearRegs l).store = s.store := rfl
@[simp] theorem clearRegs_fw : (s.clearRegs l).fw = s.fw := rfl
@[simp] theorem clearRegs_ctl : (s.clearRegs l).ctl = s.ctl := rfl
@[simp] theorem clearRegs_pci : (s.clearRegs l).pci = s.pci := rfl
@[simp] theorem clearRegs_att : (s.clearRegs l).att = s.att := rfl
@[simp] theorem clearRegs_tap : (s.clearRegs l).tap = s.tap := rfl
@[simp] theorem clearRegs_posted : (s.clearRegs l).posted = s.posted := rfl
@[simp] theorem clearRegs_reads : (s.clearRegs l).reads = s.reads := rfl
@[simp] theorem clearRegs_late : (s.clearRegs l).late = s.late := rfl
@[simp] theorem clearRegs_latches : (s.clearRegs l).latches = s.latches := rfl
@[simp] theorem clearRegs_rd : (s.clearRegs l).rd = s.rd := rfl

end clearRegs

section modQp
variable (i : QpId) (f : Qp → Qp)

@[simp] theorem modQp_pending : (s.modQp i f).pending = s.pending := rfl
@[simp] theorem modQp_now : (s.modQp i f).now = s.now := rfl
@[simp] theorem modQp_nextId : (s.modQp i f).nextId = s.nextId := rfl
@[simp] theorem modQp_ordinal : (s.modQp i f).ordinal = s.ordinal := rfl
@[simp] theorem modQp_free : (s.modQp i f).free = s.free := rfl
@[simp] theorem modQp_causesNow : (s.modQp i f).causesNow = s.causesNow := rfl
@[simp] theorem modQp_regs : (s.modQp i f).regs = s.regs := rfl
@[simp] theorem modQp_seq : (s.modQp i f).seq = s.seq := rfl
@[simp] theorem modQp_dtime : (s.modQp i f).dtime = s.dtime := rfl
@[simp] theorem modQp_dphase : (s.modQp i f).dphase = s.dphase := rfl
@[simp] theorem modQp_wis : (s.modQp i f).wis = s.wis := rfl
@[simp] theorem modQp_park : (s.modQp i f).park = s.park := rfl
@[simp] theorem modQp_events : (s.modQp i f).events = s.events := rfl
@[simp] theorem modQp_visitPtr : (s.modQp i f).visitPtr = s.visitPtr := rfl
@[simp] theorem modQp_perPtr : (s.modQp i f).perPtr = s.perPtr := rfl
@[simp] theorem modQp_rrPtr : (s.modQp i f).rrPtr = s.rrPtr := rfl
@[simp] theorem modQp_wisPeak : (s.modQp i f).wisPeak = s.wisPeak := rfl
@[simp] theorem modQp_flowPeak : (s.modQp i f).flowPeak = s.flowPeak := rfl
@[simp] theorem modQp_pfPeak : (s.modQp i f).pfPeak = s.pfPeak := rfl
@[simp] theorem modQp_poolPeak : (s.modQp i f).poolPeak = s.poolPeak := rfl
@[simp] theorem modQp_poolWaits : (s.modQp i f).poolWaits = s.poolWaits := rfl
@[simp] theorem modQp_engs : (s.modQp i f).engs = s.engs := rfl
@[simp] theorem modQp_ctxs : (s.modQp i f).ctxs = s.ctxs := rfl
@[simp] theorem modQp_closed : (s.modQp i f).closed = s.closed := rfl
@[simp] theorem modQp_flushing : (s.modQp i f).flushing = s.flushing := rfl
@[simp] theorem modQp_ports : (s.modQp i f).ports = s.ports := rfl
@[simp] theorem modQp_clks : (s.modQp i f).clks = s.clks := rfl
@[simp] theorem modQp_refClk : (s.modQp i f).refClk = s.refClk := rfl
@[simp] theorem modQp_husks : (s.modQp i f).husks = s.husks := rfl
@[simp] theorem modQp_regions : (s.modQp i f).regions = s.regions := rfl
@[simp] theorem modQp_gaps : (s.modQp i f).gaps = s.gaps := rfl
@[simp] theorem modQp_overRuns : (s.modQp i f).overRuns = s.overRuns := rfl
@[simp] theorem modQp_slices : (s.modQp i f).slices = s.slices := rfl
@[simp] theorem modQp_dmchs : (s.modQp i f).dmchs = s.dmchs := rfl
@[simp] theorem modQp_dms : (s.modQp i f).dms = s.dms := rfl
@[simp] theorem modQp_cfs : (s.modQp i f).cfs = s.cfs := rfl
@[simp] theorem modQp_doms : (s.modQp i f).doms = s.doms := rfl
@[simp] theorem modQp_store : (s.modQp i f).store = s.store := rfl
@[simp] theorem modQp_fw : (s.modQp i f).fw = s.fw := rfl
@[simp] theorem modQp_ctl : (s.modQp i f).ctl = s.ctl := rfl
@[simp] theorem modQp_pci : (s.modQp i f).pci = s.pci := rfl
@[simp] theorem modQp_att : (s.modQp i f).att = s.att := rfl
@[simp] theorem modQp_tap : (s.modQp i f).tap = s.tap := rfl
@[simp] theorem modQp_posted : (s.modQp i f).posted = s.posted := rfl
@[simp] theorem modQp_reads : (s.modQp i f).reads = s.reads := rfl
@[simp] theorem modQp_late : (s.modQp i f).late = s.late := rfl
@[simp] theorem modQp_latches : (s.modQp i f).latches = s.latches := rfl
@[simp] theorem modQp_rd : (s.modQp i f).rd = s.rd := rfl
theorem modQp_qps : (s.modQp i f).qps = vset s.qps i (f s.qps[i]) := rfl

end modQp

section modPort
variable (i : PortId) (f : Port → Port)

@[simp] theorem modPort_pending : (s.modPort i f).pending = s.pending := rfl
@[simp] theorem modPort_now : (s.modPort i f).now = s.now := rfl
@[simp] theorem modPort_nextId : (s.modPort i f).nextId = s.nextId := rfl
@[simp] theorem modPort_ordinal : (s.modPort i f).ordinal = s.ordinal := rfl
@[simp] theorem modPort_free : (s.modPort i f).free = s.free := rfl
@[simp] theorem modPort_causesNow : (s.modPort i f).causesNow = s.causesNow := rfl
@[simp] theorem modPort_regs : (s.modPort i f).regs = s.regs := rfl
@[simp] theorem modPort_seq : (s.modPort i f).seq = s.seq := rfl
@[simp] theorem modPort_dtime : (s.modPort i f).dtime = s.dtime := rfl
@[simp] theorem modPort_dphase : (s.modPort i f).dphase = s.dphase := rfl
@[simp] theorem modPort_qps : (s.modPort i f).qps = s.qps := rfl
@[simp] theorem modPort_wis : (s.modPort i f).wis = s.wis := rfl
@[simp] theorem modPort_park : (s.modPort i f).park = s.park := rfl
@[simp] theorem modPort_events : (s.modPort i f).events = s.events := rfl
@[simp] theorem modPort_visitPtr : (s.modPort i f).visitPtr = s.visitPtr := rfl
@[simp] theorem modPort_perPtr : (s.modPort i f).perPtr = s.perPtr := rfl
@[simp] theorem modPort_rrPtr : (s.modPort i f).rrPtr = s.rrPtr := rfl
@[simp] theorem modPort_wisPeak : (s.modPort i f).wisPeak = s.wisPeak := rfl
@[simp] theorem modPort_flowPeak : (s.modPort i f).flowPeak = s.flowPeak := rfl
@[simp] theorem modPort_pfPeak : (s.modPort i f).pfPeak = s.pfPeak := rfl
@[simp] theorem modPort_poolPeak : (s.modPort i f).poolPeak = s.poolPeak := rfl
@[simp] theorem modPort_poolWaits : (s.modPort i f).poolWaits = s.poolWaits := rfl
@[simp] theorem modPort_engs : (s.modPort i f).engs = s.engs := rfl
@[simp] theorem modPort_ctxs : (s.modPort i f).ctxs = s.ctxs := rfl
@[simp] theorem modPort_closed : (s.modPort i f).closed = s.closed := rfl
@[simp] theorem modPort_flushing : (s.modPort i f).flushing = s.flushing := rfl
@[simp] theorem modPort_clks : (s.modPort i f).clks = s.clks := rfl
@[simp] theorem modPort_refClk : (s.modPort i f).refClk = s.refClk := rfl
@[simp] theorem modPort_husks : (s.modPort i f).husks = s.husks := rfl
@[simp] theorem modPort_regions : (s.modPort i f).regions = s.regions := rfl
@[simp] theorem modPort_gaps : (s.modPort i f).gaps = s.gaps := rfl
@[simp] theorem modPort_overRuns : (s.modPort i f).overRuns = s.overRuns := rfl
@[simp] theorem modPort_slices : (s.modPort i f).slices = s.slices := rfl
@[simp] theorem modPort_dmchs : (s.modPort i f).dmchs = s.dmchs := rfl
@[simp] theorem modPort_dms : (s.modPort i f).dms = s.dms := rfl
@[simp] theorem modPort_cfs : (s.modPort i f).cfs = s.cfs := rfl
@[simp] theorem modPort_doms : (s.modPort i f).doms = s.doms := rfl
@[simp] theorem modPort_store : (s.modPort i f).store = s.store := rfl
@[simp] theorem modPort_fw : (s.modPort i f).fw = s.fw := rfl
@[simp] theorem modPort_ctl : (s.modPort i f).ctl = s.ctl := rfl
@[simp] theorem modPort_pci : (s.modPort i f).pci = s.pci := rfl
@[simp] theorem modPort_att : (s.modPort i f).att = s.att := rfl
@[simp] theorem modPort_tap : (s.modPort i f).tap = s.tap := rfl
@[simp] theorem modPort_posted : (s.modPort i f).posted = s.posted := rfl
@[simp] theorem modPort_reads : (s.modPort i f).reads = s.reads := rfl
@[simp] theorem modPort_late : (s.modPort i f).late = s.late := rfl
@[simp] theorem modPort_latches : (s.modPort i f).latches = s.latches := rfl
@[simp] theorem modPort_rd : (s.modPort i f).rd = s.rd := rfl
theorem modPort_ports : (s.modPort i f).ports = vset s.ports i (f s.ports[i]) := rfl

end modPort

section modHusk
variable (i : PortId) (f : Husk → Husk)

@[simp] theorem modHusk_pending : (s.modHusk i f).pending = s.pending := rfl
@[simp] theorem modHusk_now : (s.modHusk i f).now = s.now := rfl
@[simp] theorem modHusk_nextId : (s.modHusk i f).nextId = s.nextId := rfl
@[simp] theorem modHusk_ordinal : (s.modHusk i f).ordinal = s.ordinal := rfl
@[simp] theorem modHusk_free : (s.modHusk i f).free = s.free := rfl
@[simp] theorem modHusk_causesNow : (s.modHusk i f).causesNow = s.causesNow := rfl
@[simp] theorem modHusk_regs : (s.modHusk i f).regs = s.regs := rfl
@[simp] theorem modHusk_seq : (s.modHusk i f).seq = s.seq := rfl
@[simp] theorem modHusk_dtime : (s.modHusk i f).dtime = s.dtime := rfl
@[simp] theorem modHusk_dphase : (s.modHusk i f).dphase = s.dphase := rfl
@[simp] theorem modHusk_qps : (s.modHusk i f).qps = s.qps := rfl
@[simp] theorem modHusk_wis : (s.modHusk i f).wis = s.wis := rfl
@[simp] theorem modHusk_park : (s.modHusk i f).park = s.park := rfl
@[simp] theorem modHusk_events : (s.modHusk i f).events = s.events := rfl
@[simp] theorem modHusk_visitPtr : (s.modHusk i f).visitPtr = s.visitPtr := rfl
@[simp] theorem modHusk_perPtr : (s.modHusk i f).perPtr = s.perPtr := rfl
@[simp] theorem modHusk_rrPtr : (s.modHusk i f).rrPtr = s.rrPtr := rfl
@[simp] theorem modHusk_wisPeak : (s.modHusk i f).wisPeak = s.wisPeak := rfl
@[simp] theorem modHusk_flowPeak : (s.modHusk i f).flowPeak = s.flowPeak := rfl
@[simp] theorem modHusk_pfPeak : (s.modHusk i f).pfPeak = s.pfPeak := rfl
@[simp] theorem modHusk_poolPeak : (s.modHusk i f).poolPeak = s.poolPeak := rfl
@[simp] theorem modHusk_poolWaits : (s.modHusk i f).poolWaits = s.poolWaits := rfl
@[simp] theorem modHusk_engs : (s.modHusk i f).engs = s.engs := rfl
@[simp] theorem modHusk_ctxs : (s.modHusk i f).ctxs = s.ctxs := rfl
@[simp] theorem modHusk_closed : (s.modHusk i f).closed = s.closed := rfl
@[simp] theorem modHusk_flushing : (s.modHusk i f).flushing = s.flushing := rfl
@[simp] theorem modHusk_ports : (s.modHusk i f).ports = s.ports := rfl
@[simp] theorem modHusk_clks : (s.modHusk i f).clks = s.clks := rfl
@[simp] theorem modHusk_refClk : (s.modHusk i f).refClk = s.refClk := rfl
@[simp] theorem modHusk_regions : (s.modHusk i f).regions = s.regions := rfl
@[simp] theorem modHusk_gaps : (s.modHusk i f).gaps = s.gaps := rfl
@[simp] theorem modHusk_overRuns : (s.modHusk i f).overRuns = s.overRuns := rfl
@[simp] theorem modHusk_slices : (s.modHusk i f).slices = s.slices := rfl
@[simp] theorem modHusk_dmchs : (s.modHusk i f).dmchs = s.dmchs := rfl
@[simp] theorem modHusk_dms : (s.modHusk i f).dms = s.dms := rfl
@[simp] theorem modHusk_cfs : (s.modHusk i f).cfs = s.cfs := rfl
@[simp] theorem modHusk_doms : (s.modHusk i f).doms = s.doms := rfl
@[simp] theorem modHusk_store : (s.modHusk i f).store = s.store := rfl
@[simp] theorem modHusk_fw : (s.modHusk i f).fw = s.fw := rfl
@[simp] theorem modHusk_ctl : (s.modHusk i f).ctl = s.ctl := rfl
@[simp] theorem modHusk_pci : (s.modHusk i f).pci = s.pci := rfl
@[simp] theorem modHusk_att : (s.modHusk i f).att = s.att := rfl
@[simp] theorem modHusk_tap : (s.modHusk i f).tap = s.tap := rfl
@[simp] theorem modHusk_posted : (s.modHusk i f).posted = s.posted := rfl
@[simp] theorem modHusk_reads : (s.modHusk i f).reads = s.reads := rfl
@[simp] theorem modHusk_late : (s.modHusk i f).late = s.late := rfl
@[simp] theorem modHusk_latches : (s.modHusk i f).latches = s.latches := rfl
@[simp] theorem modHusk_rd : (s.modHusk i f).rd = s.rd := rfl
theorem modHusk_husks : (s.modHusk i f).husks = vset s.husks i (f s.husks[i]) := rfl

end modHusk

section modRegion
variable (i : RegId) (f : Region → Region)

@[simp] theorem modRegion_pending : (s.modRegion i f).pending = s.pending := rfl
@[simp] theorem modRegion_now : (s.modRegion i f).now = s.now := rfl
@[simp] theorem modRegion_nextId : (s.modRegion i f).nextId = s.nextId := rfl
@[simp] theorem modRegion_ordinal : (s.modRegion i f).ordinal = s.ordinal := rfl
@[simp] theorem modRegion_free : (s.modRegion i f).free = s.free := rfl
@[simp] theorem modRegion_causesNow : (s.modRegion i f).causesNow = s.causesNow := rfl
@[simp] theorem modRegion_regs : (s.modRegion i f).regs = s.regs := rfl
@[simp] theorem modRegion_seq : (s.modRegion i f).seq = s.seq := rfl
@[simp] theorem modRegion_dtime : (s.modRegion i f).dtime = s.dtime := rfl
@[simp] theorem modRegion_dphase : (s.modRegion i f).dphase = s.dphase := rfl
@[simp] theorem modRegion_qps : (s.modRegion i f).qps = s.qps := rfl
@[simp] theorem modRegion_wis : (s.modRegion i f).wis = s.wis := rfl
@[simp] theorem modRegion_park : (s.modRegion i f).park = s.park := rfl
@[simp] theorem modRegion_events : (s.modRegion i f).events = s.events := rfl
@[simp] theorem modRegion_visitPtr : (s.modRegion i f).visitPtr = s.visitPtr := rfl
@[simp] theorem modRegion_perPtr : (s.modRegion i f).perPtr = s.perPtr := rfl
@[simp] theorem modRegion_rrPtr : (s.modRegion i f).rrPtr = s.rrPtr := rfl
@[simp] theorem modRegion_wisPeak : (s.modRegion i f).wisPeak = s.wisPeak := rfl
@[simp] theorem modRegion_flowPeak : (s.modRegion i f).flowPeak = s.flowPeak := rfl
@[simp] theorem modRegion_pfPeak : (s.modRegion i f).pfPeak = s.pfPeak := rfl
@[simp] theorem modRegion_poolPeak : (s.modRegion i f).poolPeak = s.poolPeak := rfl
@[simp] theorem modRegion_poolWaits : (s.modRegion i f).poolWaits = s.poolWaits := rfl
@[simp] theorem modRegion_engs : (s.modRegion i f).engs = s.engs := rfl
@[simp] theorem modRegion_ctxs : (s.modRegion i f).ctxs = s.ctxs := rfl
@[simp] theorem modRegion_closed : (s.modRegion i f).closed = s.closed := rfl
@[simp] theorem modRegion_flushing : (s.modRegion i f).flushing = s.flushing := rfl
@[simp] theorem modRegion_ports : (s.modRegion i f).ports = s.ports := rfl
@[simp] theorem modRegion_clks : (s.modRegion i f).clks = s.clks := rfl
@[simp] theorem modRegion_refClk : (s.modRegion i f).refClk = s.refClk := rfl
@[simp] theorem modRegion_husks : (s.modRegion i f).husks = s.husks := rfl
@[simp] theorem modRegion_gaps : (s.modRegion i f).gaps = s.gaps := rfl
@[simp] theorem modRegion_overRuns : (s.modRegion i f).overRuns = s.overRuns := rfl
@[simp] theorem modRegion_slices : (s.modRegion i f).slices = s.slices := rfl
@[simp] theorem modRegion_dmchs : (s.modRegion i f).dmchs = s.dmchs := rfl
@[simp] theorem modRegion_dms : (s.modRegion i f).dms = s.dms := rfl
@[simp] theorem modRegion_cfs : (s.modRegion i f).cfs = s.cfs := rfl
@[simp] theorem modRegion_doms : (s.modRegion i f).doms = s.doms := rfl
@[simp] theorem modRegion_store : (s.modRegion i f).store = s.store := rfl
@[simp] theorem modRegion_fw : (s.modRegion i f).fw = s.fw := rfl
@[simp] theorem modRegion_ctl : (s.modRegion i f).ctl = s.ctl := rfl
@[simp] theorem modRegion_pci : (s.modRegion i f).pci = s.pci := rfl
@[simp] theorem modRegion_att : (s.modRegion i f).att = s.att := rfl
@[simp] theorem modRegion_tap : (s.modRegion i f).tap = s.tap := rfl
@[simp] theorem modRegion_posted : (s.modRegion i f).posted = s.posted := rfl
@[simp] theorem modRegion_reads : (s.modRegion i f).reads = s.reads := rfl
@[simp] theorem modRegion_late : (s.modRegion i f).late = s.late := rfl
@[simp] theorem modRegion_latches : (s.modRegion i f).latches = s.latches := rfl
@[simp] theorem modRegion_rd : (s.modRegion i f).rd = s.rd := rfl
theorem modRegion_regions : (s.modRegion i f).regions = vset s.regions i (f s.regions[i]) := rfl

end modRegion

section modSlice
variable (i : SliceId) (f : Slice → Slice)

@[simp] theorem modSlice_pending : (s.modSlice i f).pending = s.pending := rfl
@[simp] theorem modSlice_now : (s.modSlice i f).now = s.now := rfl
@[simp] theorem modSlice_nextId : (s.modSlice i f).nextId = s.nextId := rfl
@[simp] theorem modSlice_ordinal : (s.modSlice i f).ordinal = s.ordinal := rfl
@[simp] theorem modSlice_free : (s.modSlice i f).free = s.free := rfl
@[simp] theorem modSlice_causesNow : (s.modSlice i f).causesNow = s.causesNow := rfl
@[simp] theorem modSlice_regs : (s.modSlice i f).regs = s.regs := rfl
@[simp] theorem modSlice_seq : (s.modSlice i f).seq = s.seq := rfl
@[simp] theorem modSlice_dtime : (s.modSlice i f).dtime = s.dtime := rfl
@[simp] theorem modSlice_dphase : (s.modSlice i f).dphase = s.dphase := rfl
@[simp] theorem modSlice_qps : (s.modSlice i f).qps = s.qps := rfl
@[simp] theorem modSlice_wis : (s.modSlice i f).wis = s.wis := rfl
@[simp] theorem modSlice_park : (s.modSlice i f).park = s.park := rfl
@[simp] theorem modSlice_events : (s.modSlice i f).events = s.events := rfl
@[simp] theorem modSlice_visitPtr : (s.modSlice i f).visitPtr = s.visitPtr := rfl
@[simp] theorem modSlice_perPtr : (s.modSlice i f).perPtr = s.perPtr := rfl
@[simp] theorem modSlice_rrPtr : (s.modSlice i f).rrPtr = s.rrPtr := rfl
@[simp] theorem modSlice_wisPeak : (s.modSlice i f).wisPeak = s.wisPeak := rfl
@[simp] theorem modSlice_flowPeak : (s.modSlice i f).flowPeak = s.flowPeak := rfl
@[simp] theorem modSlice_pfPeak : (s.modSlice i f).pfPeak = s.pfPeak := rfl
@[simp] theorem modSlice_poolPeak : (s.modSlice i f).poolPeak = s.poolPeak := rfl
@[simp] theorem modSlice_poolWaits : (s.modSlice i f).poolWaits = s.poolWaits := rfl
@[simp] theorem modSlice_engs : (s.modSlice i f).engs = s.engs := rfl
@[simp] theorem modSlice_ctxs : (s.modSlice i f).ctxs = s.ctxs := rfl
@[simp] theorem modSlice_closed : (s.modSlice i f).closed = s.closed := rfl
@[simp] theorem modSlice_flushing : (s.modSlice i f).flushing = s.flushing := rfl
@[simp] theorem modSlice_ports : (s.modSlice i f).ports = s.ports := rfl
@[simp] theorem modSlice_clks : (s.modSlice i f).clks = s.clks := rfl
@[simp] theorem modSlice_refClk : (s.modSlice i f).refClk = s.refClk := rfl
@[simp] theorem modSlice_husks : (s.modSlice i f).husks = s.husks := rfl
@[simp] theorem modSlice_regions : (s.modSlice i f).regions = s.regions := rfl
@[simp] theorem modSlice_gaps : (s.modSlice i f).gaps = s.gaps := rfl
@[simp] theorem modSlice_overRuns : (s.modSlice i f).overRuns = s.overRuns := rfl
@[simp] theorem modSlice_dmchs : (s.modSlice i f).dmchs = s.dmchs := rfl
@[simp] theorem modSlice_dms : (s.modSlice i f).dms = s.dms := rfl
@[simp] theorem modSlice_cfs : (s.modSlice i f).cfs = s.cfs := rfl
@[simp] theorem modSlice_doms : (s.modSlice i f).doms = s.doms := rfl
@[simp] theorem modSlice_store : (s.modSlice i f).store = s.store := rfl
@[simp] theorem modSlice_fw : (s.modSlice i f).fw = s.fw := rfl
@[simp] theorem modSlice_ctl : (s.modSlice i f).ctl = s.ctl := rfl
@[simp] theorem modSlice_pci : (s.modSlice i f).pci = s.pci := rfl
@[simp] theorem modSlice_att : (s.modSlice i f).att = s.att := rfl
@[simp] theorem modSlice_tap : (s.modSlice i f).tap = s.tap := rfl
@[simp] theorem modSlice_posted : (s.modSlice i f).posted = s.posted := rfl
@[simp] theorem modSlice_reads : (s.modSlice i f).reads = s.reads := rfl
@[simp] theorem modSlice_late : (s.modSlice i f).late = s.late := rfl
@[simp] theorem modSlice_latches : (s.modSlice i f).latches = s.latches := rfl
@[simp] theorem modSlice_rd : (s.modSlice i f).rd = s.rd := rfl
theorem modSlice_slices : (s.modSlice i f).slices = vset s.slices i (f s.slices[i]) := rfl

end modSlice

section winCauseSet
variable (i : SliceId) (b : Nat)

@[simp] theorem winCauseSet_pending : (s.winCauseSet i b).pending = s.pending := rfl
@[simp] theorem winCauseSet_now : (s.winCauseSet i b).now = s.now := rfl
@[simp] theorem winCauseSet_nextId : (s.winCauseSet i b).nextId = s.nextId := rfl
@[simp] theorem winCauseSet_ordinal : (s.winCauseSet i b).ordinal = s.ordinal := rfl
@[simp] theorem winCauseSet_free : (s.winCauseSet i b).free = s.free := rfl
@[simp] theorem winCauseSet_regs : (s.winCauseSet i b).regs = s.regs := rfl
@[simp] theorem winCauseSet_seq : (s.winCauseSet i b).seq = s.seq := rfl
@[simp] theorem winCauseSet_dtime : (s.winCauseSet i b).dtime = s.dtime := rfl
@[simp] theorem winCauseSet_dphase : (s.winCauseSet i b).dphase = s.dphase := rfl
@[simp] theorem winCauseSet_qps : (s.winCauseSet i b).qps = s.qps := rfl
@[simp] theorem winCauseSet_wis : (s.winCauseSet i b).wis = s.wis := rfl
@[simp] theorem winCauseSet_park : (s.winCauseSet i b).park = s.park := rfl
@[simp] theorem winCauseSet_events : (s.winCauseSet i b).events = s.events := rfl
@[simp] theorem winCauseSet_visitPtr : (s.winCauseSet i b).visitPtr = s.visitPtr := rfl
@[simp] theorem winCauseSet_perPtr : (s.winCauseSet i b).perPtr = s.perPtr := rfl
@[simp] theorem winCauseSet_rrPtr : (s.winCauseSet i b).rrPtr = s.rrPtr := rfl
@[simp] theorem winCauseSet_wisPeak : (s.winCauseSet i b).wisPeak = s.wisPeak := rfl
@[simp] theorem winCauseSet_flowPeak : (s.winCauseSet i b).flowPeak = s.flowPeak := rfl
@[simp] theorem winCauseSet_pfPeak : (s.winCauseSet i b).pfPeak = s.pfPeak := rfl
@[simp] theorem winCauseSet_poolPeak : (s.winCauseSet i b).poolPeak = s.poolPeak := rfl
@[simp] theorem winCauseSet_poolWaits : (s.winCauseSet i b).poolWaits = s.poolWaits := rfl
@[simp] theorem winCauseSet_engs : (s.winCauseSet i b).engs = s.engs := rfl
@[simp] theorem winCauseSet_ctxs : (s.winCauseSet i b).ctxs = s.ctxs := rfl
@[simp] theorem winCauseSet_closed : (s.winCauseSet i b).closed = s.closed := rfl
@[simp] theorem winCauseSet_flushing : (s.winCauseSet i b).flushing = s.flushing := rfl
@[simp] theorem winCauseSet_ports : (s.winCauseSet i b).ports = s.ports := rfl
@[simp] theorem winCauseSet_clks : (s.winCauseSet i b).clks = s.clks := rfl
@[simp] theorem winCauseSet_refClk : (s.winCauseSet i b).refClk = s.refClk := rfl
@[simp] theorem winCauseSet_husks : (s.winCauseSet i b).husks = s.husks := rfl
@[simp] theorem winCauseSet_regions : (s.winCauseSet i b).regions = s.regions := rfl
@[simp] theorem winCauseSet_gaps : (s.winCauseSet i b).gaps = s.gaps := rfl
@[simp] theorem winCauseSet_overRuns : (s.winCauseSet i b).overRuns = s.overRuns := rfl
@[simp] theorem winCauseSet_dmchs : (s.winCauseSet i b).dmchs = s.dmchs := rfl
@[simp] theorem winCauseSet_dms : (s.winCauseSet i b).dms = s.dms := rfl
@[simp] theorem winCauseSet_cfs : (s.winCauseSet i b).cfs = s.cfs := rfl
@[simp] theorem winCauseSet_doms : (s.winCauseSet i b).doms = s.doms := rfl
@[simp] theorem winCauseSet_store : (s.winCauseSet i b).store = s.store := rfl
@[simp] theorem winCauseSet_fw : (s.winCauseSet i b).fw = s.fw := rfl
@[simp] theorem winCauseSet_ctl : (s.winCauseSet i b).ctl = s.ctl := rfl
@[simp] theorem winCauseSet_pci : (s.winCauseSet i b).pci = s.pci := rfl
@[simp] theorem winCauseSet_att : (s.winCauseSet i b).att = s.att := rfl
@[simp] theorem winCauseSet_tap : (s.winCauseSet i b).tap = s.tap := rfl
@[simp] theorem winCauseSet_posted : (s.winCauseSet i b).posted = s.posted := rfl
@[simp] theorem winCauseSet_reads : (s.winCauseSet i b).reads = s.reads := rfl
@[simp] theorem winCauseSet_late : (s.winCauseSet i b).late = s.late := rfl
@[simp] theorem winCauseSet_latches : (s.winCauseSet i b).latches = s.latches := rfl
@[simp] theorem winCauseSet_rd : (s.winCauseSet i b).rd = s.rd := rfl
@[simp] theorem winCauseSet_causesNow : (s.winCauseSet i b).causesNow = (winCausePage i, b) :: s.causesNow := rfl
theorem winCauseSet_slices : (s.winCauseSet i b).slices =
    vset s.slices i { s.slices[i] with winCause := s.slices[i].winCause ||| (1#32 <<< b) } := rfl

end winCauseSet

section modCh
variable (i : ChId) (f : Dmch → Dmch)

@[simp] theorem modCh_pending : (s.modCh i f).pending = s.pending := rfl
@[simp] theorem modCh_now : (s.modCh i f).now = s.now := rfl
@[simp] theorem modCh_nextId : (s.modCh i f).nextId = s.nextId := rfl
@[simp] theorem modCh_ordinal : (s.modCh i f).ordinal = s.ordinal := rfl
@[simp] theorem modCh_free : (s.modCh i f).free = s.free := rfl
@[simp] theorem modCh_causesNow : (s.modCh i f).causesNow = s.causesNow := rfl
@[simp] theorem modCh_regs : (s.modCh i f).regs = s.regs := rfl
@[simp] theorem modCh_seq : (s.modCh i f).seq = s.seq := rfl
@[simp] theorem modCh_dtime : (s.modCh i f).dtime = s.dtime := rfl
@[simp] theorem modCh_dphase : (s.modCh i f).dphase = s.dphase := rfl
@[simp] theorem modCh_qps : (s.modCh i f).qps = s.qps := rfl
@[simp] theorem modCh_wis : (s.modCh i f).wis = s.wis := rfl
@[simp] theorem modCh_park : (s.modCh i f).park = s.park := rfl
@[simp] theorem modCh_events : (s.modCh i f).events = s.events := rfl
@[simp] theorem modCh_visitPtr : (s.modCh i f).visitPtr = s.visitPtr := rfl
@[simp] theorem modCh_perPtr : (s.modCh i f).perPtr = s.perPtr := rfl
@[simp] theorem modCh_rrPtr : (s.modCh i f).rrPtr = s.rrPtr := rfl
@[simp] theorem modCh_wisPeak : (s.modCh i f).wisPeak = s.wisPeak := rfl
@[simp] theorem modCh_flowPeak : (s.modCh i f).flowPeak = s.flowPeak := rfl
@[simp] theorem modCh_pfPeak : (s.modCh i f).pfPeak = s.pfPeak := rfl
@[simp] theorem modCh_poolPeak : (s.modCh i f).poolPeak = s.poolPeak := rfl
@[simp] theorem modCh_poolWaits : (s.modCh i f).poolWaits = s.poolWaits := rfl
@[simp] theorem modCh_engs : (s.modCh i f).engs = s.engs := rfl
@[simp] theorem modCh_ctxs : (s.modCh i f).ctxs = s.ctxs := rfl
@[simp] theorem modCh_closed : (s.modCh i f).closed = s.closed := rfl
@[simp] theorem modCh_flushing : (s.modCh i f).flushing = s.flushing := rfl
@[simp] theorem modCh_ports : (s.modCh i f).ports = s.ports := rfl
@[simp] theorem modCh_clks : (s.modCh i f).clks = s.clks := rfl
@[simp] theorem modCh_refClk : (s.modCh i f).refClk = s.refClk := rfl
@[simp] theorem modCh_husks : (s.modCh i f).husks = s.husks := rfl
@[simp] theorem modCh_regions : (s.modCh i f).regions = s.regions := rfl
@[simp] theorem modCh_gaps : (s.modCh i f).gaps = s.gaps := rfl
@[simp] theorem modCh_overRuns : (s.modCh i f).overRuns = s.overRuns := rfl
@[simp] theorem modCh_slices : (s.modCh i f).slices = s.slices := rfl
@[simp] theorem modCh_dms : (s.modCh i f).dms = s.dms := rfl
@[simp] theorem modCh_cfs : (s.modCh i f).cfs = s.cfs := rfl
@[simp] theorem modCh_doms : (s.modCh i f).doms = s.doms := rfl
@[simp] theorem modCh_store : (s.modCh i f).store = s.store := rfl
@[simp] theorem modCh_fw : (s.modCh i f).fw = s.fw := rfl
@[simp] theorem modCh_ctl : (s.modCh i f).ctl = s.ctl := rfl
@[simp] theorem modCh_pci : (s.modCh i f).pci = s.pci := rfl
@[simp] theorem modCh_att : (s.modCh i f).att = s.att := rfl
@[simp] theorem modCh_tap : (s.modCh i f).tap = s.tap := rfl
@[simp] theorem modCh_posted : (s.modCh i f).posted = s.posted := rfl
@[simp] theorem modCh_reads : (s.modCh i f).reads = s.reads := rfl
@[simp] theorem modCh_late : (s.modCh i f).late = s.late := rfl
@[simp] theorem modCh_latches : (s.modCh i f).latches = s.latches := rfl
@[simp] theorem modCh_rd : (s.modCh i f).rd = s.rd := rfl
theorem modCh_dmchs : (s.modCh i f).dmchs = vset s.dmchs i (f s.dmchs[i]) := rfl

end modCh

section modDm
variable (i : DmId) (f : Dm → Dm)

@[simp] theorem modDm_pending : (s.modDm i f).pending = s.pending := rfl
@[simp] theorem modDm_now : (s.modDm i f).now = s.now := rfl
@[simp] theorem modDm_nextId : (s.modDm i f).nextId = s.nextId := rfl
@[simp] theorem modDm_ordinal : (s.modDm i f).ordinal = s.ordinal := rfl
@[simp] theorem modDm_free : (s.modDm i f).free = s.free := rfl
@[simp] theorem modDm_causesNow : (s.modDm i f).causesNow = s.causesNow := rfl
@[simp] theorem modDm_regs : (s.modDm i f).regs = s.regs := rfl
@[simp] theorem modDm_seq : (s.modDm i f).seq = s.seq := rfl
@[simp] theorem modDm_dtime : (s.modDm i f).dtime = s.dtime := rfl
@[simp] theorem modDm_dphase : (s.modDm i f).dphase = s.dphase := rfl
@[simp] theorem modDm_qps : (s.modDm i f).qps = s.qps := rfl
@[simp] theorem modDm_wis : (s.modDm i f).wis = s.wis := rfl
@[simp] theorem modDm_park : (s.modDm i f).park = s.park := rfl
@[simp] theorem modDm_events : (s.modDm i f).events = s.events := rfl
@[simp] theorem modDm_visitPtr : (s.modDm i f).visitPtr = s.visitPtr := rfl
@[simp] theorem modDm_perPtr : (s.modDm i f).perPtr = s.perPtr := rfl
@[simp] theorem modDm_rrPtr : (s.modDm i f).rrPtr = s.rrPtr := rfl
@[simp] theorem modDm_wisPeak : (s.modDm i f).wisPeak = s.wisPeak := rfl
@[simp] theorem modDm_flowPeak : (s.modDm i f).flowPeak = s.flowPeak := rfl
@[simp] theorem modDm_pfPeak : (s.modDm i f).pfPeak = s.pfPeak := rfl
@[simp] theorem modDm_poolPeak : (s.modDm i f).poolPeak = s.poolPeak := rfl
@[simp] theorem modDm_poolWaits : (s.modDm i f).poolWaits = s.poolWaits := rfl
@[simp] theorem modDm_engs : (s.modDm i f).engs = s.engs := rfl
@[simp] theorem modDm_ctxs : (s.modDm i f).ctxs = s.ctxs := rfl
@[simp] theorem modDm_closed : (s.modDm i f).closed = s.closed := rfl
@[simp] theorem modDm_flushing : (s.modDm i f).flushing = s.flushing := rfl
@[simp] theorem modDm_ports : (s.modDm i f).ports = s.ports := rfl
@[simp] theorem modDm_clks : (s.modDm i f).clks = s.clks := rfl
@[simp] theorem modDm_refClk : (s.modDm i f).refClk = s.refClk := rfl
@[simp] theorem modDm_husks : (s.modDm i f).husks = s.husks := rfl
@[simp] theorem modDm_regions : (s.modDm i f).regions = s.regions := rfl
@[simp] theorem modDm_gaps : (s.modDm i f).gaps = s.gaps := rfl
@[simp] theorem modDm_overRuns : (s.modDm i f).overRuns = s.overRuns := rfl
@[simp] theorem modDm_slices : (s.modDm i f).slices = s.slices := rfl
@[simp] theorem modDm_dmchs : (s.modDm i f).dmchs = s.dmchs := rfl
@[simp] theorem modDm_cfs : (s.modDm i f).cfs = s.cfs := rfl
@[simp] theorem modDm_doms : (s.modDm i f).doms = s.doms := rfl
@[simp] theorem modDm_store : (s.modDm i f).store = s.store := rfl
@[simp] theorem modDm_fw : (s.modDm i f).fw = s.fw := rfl
@[simp] theorem modDm_ctl : (s.modDm i f).ctl = s.ctl := rfl
@[simp] theorem modDm_pci : (s.modDm i f).pci = s.pci := rfl
@[simp] theorem modDm_att : (s.modDm i f).att = s.att := rfl
@[simp] theorem modDm_tap : (s.modDm i f).tap = s.tap := rfl
@[simp] theorem modDm_posted : (s.modDm i f).posted = s.posted := rfl
@[simp] theorem modDm_reads : (s.modDm i f).reads = s.reads := rfl
@[simp] theorem modDm_late : (s.modDm i f).late = s.late := rfl
@[simp] theorem modDm_latches : (s.modDm i f).latches = s.latches := rfl
@[simp] theorem modDm_rd : (s.modDm i f).rd = s.rd := rfl
theorem modDm_dms : (s.modDm i f).dms = vset s.dms i (f s.dms[i]) := rfl

end modDm

section modCf
variable (i : CfId) (f : Cf → Cf)

@[simp] theorem modCf_pending : (s.modCf i f).pending = s.pending := rfl
@[simp] theorem modCf_now : (s.modCf i f).now = s.now := rfl
@[simp] theorem modCf_nextId : (s.modCf i f).nextId = s.nextId := rfl
@[simp] theorem modCf_ordinal : (s.modCf i f).ordinal = s.ordinal := rfl
@[simp] theorem modCf_free : (s.modCf i f).free = s.free := rfl
@[simp] theorem modCf_causesNow : (s.modCf i f).causesNow = s.causesNow := rfl
@[simp] theorem modCf_regs : (s.modCf i f).regs = s.regs := rfl
@[simp] theorem modCf_seq : (s.modCf i f).seq = s.seq := rfl
@[simp] theorem modCf_dtime : (s.modCf i f).dtime = s.dtime := rfl
@[simp] theorem modCf_dphase : (s.modCf i f).dphase = s.dphase := rfl
@[simp] theorem modCf_qps : (s.modCf i f).qps = s.qps := rfl
@[simp] theorem modCf_wis : (s.modCf i f).wis = s.wis := rfl
@[simp] theorem modCf_park : (s.modCf i f).park = s.park := rfl
@[simp] theorem modCf_events : (s.modCf i f).events = s.events := rfl
@[simp] theorem modCf_visitPtr : (s.modCf i f).visitPtr = s.visitPtr := rfl
@[simp] theorem modCf_perPtr : (s.modCf i f).perPtr = s.perPtr := rfl
@[simp] theorem modCf_rrPtr : (s.modCf i f).rrPtr = s.rrPtr := rfl
@[simp] theorem modCf_wisPeak : (s.modCf i f).wisPeak = s.wisPeak := rfl
@[simp] theorem modCf_flowPeak : (s.modCf i f).flowPeak = s.flowPeak := rfl
@[simp] theorem modCf_pfPeak : (s.modCf i f).pfPeak = s.pfPeak := rfl
@[simp] theorem modCf_poolPeak : (s.modCf i f).poolPeak = s.poolPeak := rfl
@[simp] theorem modCf_poolWaits : (s.modCf i f).poolWaits = s.poolWaits := rfl
@[simp] theorem modCf_engs : (s.modCf i f).engs = s.engs := rfl
@[simp] theorem modCf_ctxs : (s.modCf i f).ctxs = s.ctxs := rfl
@[simp] theorem modCf_closed : (s.modCf i f).closed = s.closed := rfl
@[simp] theorem modCf_flushing : (s.modCf i f).flushing = s.flushing := rfl
@[simp] theorem modCf_ports : (s.modCf i f).ports = s.ports := rfl
@[simp] theorem modCf_clks : (s.modCf i f).clks = s.clks := rfl
@[simp] theorem modCf_refClk : (s.modCf i f).refClk = s.refClk := rfl
@[simp] theorem modCf_husks : (s.modCf i f).husks = s.husks := rfl
@[simp] theorem modCf_regions : (s.modCf i f).regions = s.regions := rfl
@[simp] theorem modCf_gaps : (s.modCf i f).gaps = s.gaps := rfl
@[simp] theorem modCf_overRuns : (s.modCf i f).overRuns = s.overRuns := rfl
@[simp] theorem modCf_slices : (s.modCf i f).slices = s.slices := rfl
@[simp] theorem modCf_dmchs : (s.modCf i f).dmchs = s.dmchs := rfl
@[simp] theorem modCf_dms : (s.modCf i f).dms = s.dms := rfl
@[simp] theorem modCf_doms : (s.modCf i f).doms = s.doms := rfl
@[simp] theorem modCf_store : (s.modCf i f).store = s.store := rfl
@[simp] theorem modCf_fw : (s.modCf i f).fw = s.fw := rfl
@[simp] theorem modCf_ctl : (s.modCf i f).ctl = s.ctl := rfl
@[simp] theorem modCf_pci : (s.modCf i f).pci = s.pci := rfl
@[simp] theorem modCf_att : (s.modCf i f).att = s.att := rfl
@[simp] theorem modCf_tap : (s.modCf i f).tap = s.tap := rfl
@[simp] theorem modCf_posted : (s.modCf i f).posted = s.posted := rfl
@[simp] theorem modCf_reads : (s.modCf i f).reads = s.reads := rfl
@[simp] theorem modCf_late : (s.modCf i f).late = s.late := rfl
@[simp] theorem modCf_latches : (s.modCf i f).latches = s.latches := rfl
@[simp] theorem modCf_rd : (s.modCf i f).rd = s.rd := rfl
theorem modCf_cfs : (s.modCf i f).cfs = vset s.cfs i (f s.cfs[i]) := rfl

end modCf

section modDom
variable (i : DomId) (f : Dom → Dom)

@[simp] theorem modDom_pending : (s.modDom i f).pending = s.pending := rfl
@[simp] theorem modDom_now : (s.modDom i f).now = s.now := rfl
@[simp] theorem modDom_nextId : (s.modDom i f).nextId = s.nextId := rfl
@[simp] theorem modDom_ordinal : (s.modDom i f).ordinal = s.ordinal := rfl
@[simp] theorem modDom_free : (s.modDom i f).free = s.free := rfl
@[simp] theorem modDom_causesNow : (s.modDom i f).causesNow = s.causesNow := rfl
@[simp] theorem modDom_regs : (s.modDom i f).regs = s.regs := rfl
@[simp] theorem modDom_seq : (s.modDom i f).seq = s.seq := rfl
@[simp] theorem modDom_dtime : (s.modDom i f).dtime = s.dtime := rfl
@[simp] theorem modDom_dphase : (s.modDom i f).dphase = s.dphase := rfl
@[simp] theorem modDom_qps : (s.modDom i f).qps = s.qps := rfl
@[simp] theorem modDom_wis : (s.modDom i f).wis = s.wis := rfl
@[simp] theorem modDom_park : (s.modDom i f).park = s.park := rfl
@[simp] theorem modDom_events : (s.modDom i f).events = s.events := rfl
@[simp] theorem modDom_visitPtr : (s.modDom i f).visitPtr = s.visitPtr := rfl
@[simp] theorem modDom_perPtr : (s.modDom i f).perPtr = s.perPtr := rfl
@[simp] theorem modDom_rrPtr : (s.modDom i f).rrPtr = s.rrPtr := rfl
@[simp] theorem modDom_wisPeak : (s.modDom i f).wisPeak = s.wisPeak := rfl
@[simp] theorem modDom_flowPeak : (s.modDom i f).flowPeak = s.flowPeak := rfl
@[simp] theorem modDom_pfPeak : (s.modDom i f).pfPeak = s.pfPeak := rfl
@[simp] theorem modDom_poolPeak : (s.modDom i f).poolPeak = s.poolPeak := rfl
@[simp] theorem modDom_poolWaits : (s.modDom i f).poolWaits = s.poolWaits := rfl
@[simp] theorem modDom_engs : (s.modDom i f).engs = s.engs := rfl
@[simp] theorem modDom_ctxs : (s.modDom i f).ctxs = s.ctxs := rfl
@[simp] theorem modDom_closed : (s.modDom i f).closed = s.closed := rfl
@[simp] theorem modDom_flushing : (s.modDom i f).flushing = s.flushing := rfl
@[simp] theorem modDom_ports : (s.modDom i f).ports = s.ports := rfl
@[simp] theorem modDom_clks : (s.modDom i f).clks = s.clks := rfl
@[simp] theorem modDom_refClk : (s.modDom i f).refClk = s.refClk := rfl
@[simp] theorem modDom_husks : (s.modDom i f).husks = s.husks := rfl
@[simp] theorem modDom_regions : (s.modDom i f).regions = s.regions := rfl
@[simp] theorem modDom_gaps : (s.modDom i f).gaps = s.gaps := rfl
@[simp] theorem modDom_overRuns : (s.modDom i f).overRuns = s.overRuns := rfl
@[simp] theorem modDom_slices : (s.modDom i f).slices = s.slices := rfl
@[simp] theorem modDom_dmchs : (s.modDom i f).dmchs = s.dmchs := rfl
@[simp] theorem modDom_dms : (s.modDom i f).dms = s.dms := rfl
@[simp] theorem modDom_cfs : (s.modDom i f).cfs = s.cfs := rfl
@[simp] theorem modDom_store : (s.modDom i f).store = s.store := rfl
@[simp] theorem modDom_fw : (s.modDom i f).fw = s.fw := rfl
@[simp] theorem modDom_ctl : (s.modDom i f).ctl = s.ctl := rfl
@[simp] theorem modDom_pci : (s.modDom i f).pci = s.pci := rfl
@[simp] theorem modDom_att : (s.modDom i f).att = s.att := rfl
@[simp] theorem modDom_tap : (s.modDom i f).tap = s.tap := rfl
@[simp] theorem modDom_posted : (s.modDom i f).posted = s.posted := rfl
@[simp] theorem modDom_reads : (s.modDom i f).reads = s.reads := rfl
@[simp] theorem modDom_late : (s.modDom i f).late = s.late := rfl
@[simp] theorem modDom_latches : (s.modDom i f).latches = s.latches := rfl
@[simp] theorem modDom_rd : (s.modDom i f).rd = s.rd := rfl
theorem modDom_doms : (s.modDom i f).doms = vset s.doms i (f s.doms[i]) := rfl

end modDom

section modEng
variable (i : EngId) (f : EngStat → EngStat)

@[simp] theorem modEng_pending : (s.modEng i f).pending = s.pending := rfl
@[simp] theorem modEng_now : (s.modEng i f).now = s.now := rfl
@[simp] theorem modEng_nextId : (s.modEng i f).nextId = s.nextId := rfl
@[simp] theorem modEng_ordinal : (s.modEng i f).ordinal = s.ordinal := rfl
@[simp] theorem modEng_free : (s.modEng i f).free = s.free := rfl
@[simp] theorem modEng_causesNow : (s.modEng i f).causesNow = s.causesNow := rfl
@[simp] theorem modEng_regs : (s.modEng i f).regs = s.regs := rfl
@[simp] theorem modEng_seq : (s.modEng i f).seq = s.seq := rfl
@[simp] theorem modEng_dtime : (s.modEng i f).dtime = s.dtime := rfl
@[simp] theorem modEng_dphase : (s.modEng i f).dphase = s.dphase := rfl
@[simp] theorem modEng_qps : (s.modEng i f).qps = s.qps := rfl
@[simp] theorem modEng_wis : (s.modEng i f).wis = s.wis := rfl
@[simp] theorem modEng_park : (s.modEng i f).park = s.park := rfl
@[simp] theorem modEng_events : (s.modEng i f).events = s.events := rfl
@[simp] theorem modEng_visitPtr : (s.modEng i f).visitPtr = s.visitPtr := rfl
@[simp] theorem modEng_perPtr : (s.modEng i f).perPtr = s.perPtr := rfl
@[simp] theorem modEng_rrPtr : (s.modEng i f).rrPtr = s.rrPtr := rfl
@[simp] theorem modEng_wisPeak : (s.modEng i f).wisPeak = s.wisPeak := rfl
@[simp] theorem modEng_flowPeak : (s.modEng i f).flowPeak = s.flowPeak := rfl
@[simp] theorem modEng_pfPeak : (s.modEng i f).pfPeak = s.pfPeak := rfl
@[simp] theorem modEng_poolPeak : (s.modEng i f).poolPeak = s.poolPeak := rfl
@[simp] theorem modEng_poolWaits : (s.modEng i f).poolWaits = s.poolWaits := rfl
@[simp] theorem modEng_ctxs : (s.modEng i f).ctxs = s.ctxs := rfl
@[simp] theorem modEng_closed : (s.modEng i f).closed = s.closed := rfl
@[simp] theorem modEng_flushing : (s.modEng i f).flushing = s.flushing := rfl
@[simp] theorem modEng_ports : (s.modEng i f).ports = s.ports := rfl
@[simp] theorem modEng_clks : (s.modEng i f).clks = s.clks := rfl
@[simp] theorem modEng_refClk : (s.modEng i f).refClk = s.refClk := rfl
@[simp] theorem modEng_husks : (s.modEng i f).husks = s.husks := rfl
@[simp] theorem modEng_regions : (s.modEng i f).regions = s.regions := rfl
@[simp] theorem modEng_gaps : (s.modEng i f).gaps = s.gaps := rfl
@[simp] theorem modEng_overRuns : (s.modEng i f).overRuns = s.overRuns := rfl
@[simp] theorem modEng_slices : (s.modEng i f).slices = s.slices := rfl
@[simp] theorem modEng_dmchs : (s.modEng i f).dmchs = s.dmchs := rfl
@[simp] theorem modEng_dms : (s.modEng i f).dms = s.dms := rfl
@[simp] theorem modEng_cfs : (s.modEng i f).cfs = s.cfs := rfl
@[simp] theorem modEng_doms : (s.modEng i f).doms = s.doms := rfl
@[simp] theorem modEng_store : (s.modEng i f).store = s.store := rfl
@[simp] theorem modEng_fw : (s.modEng i f).fw = s.fw := rfl
@[simp] theorem modEng_ctl : (s.modEng i f).ctl = s.ctl := rfl
@[simp] theorem modEng_pci : (s.modEng i f).pci = s.pci := rfl
@[simp] theorem modEng_att : (s.modEng i f).att = s.att := rfl
@[simp] theorem modEng_tap : (s.modEng i f).tap = s.tap := rfl
@[simp] theorem modEng_posted : (s.modEng i f).posted = s.posted := rfl
@[simp] theorem modEng_reads : (s.modEng i f).reads = s.reads := rfl
@[simp] theorem modEng_late : (s.modEng i f).late = s.late := rfl
@[simp] theorem modEng_latches : (s.modEng i f).latches = s.latches := rfl
@[simp] theorem modEng_rd : (s.modEng i f).rd = s.rd := rfl
theorem modEng_engs : (s.modEng i f).engs = vset s.engs i (f s.engs[i]) := rfl

end modEng

section modStore
variable (f : Store → Store)

@[simp] theorem modStore_pending : (s.modStore f).pending = s.pending := rfl
@[simp] theorem modStore_now : (s.modStore f).now = s.now := rfl
@[simp] theorem modStore_nextId : (s.modStore f).nextId = s.nextId := rfl
@[simp] theorem modStore_ordinal : (s.modStore f).ordinal = s.ordinal := rfl
@[simp] theorem modStore_free : (s.modStore f).free = s.free := rfl
@[simp] theorem modStore_causesNow : (s.modStore f).causesNow = s.causesNow := rfl
@[simp] theorem modStore_regs : (s.modStore f).regs = s.regs := rfl
@[simp] theorem modStore_seq : (s.modStore f).seq = s.seq := rfl
@[simp] theorem modStore_dtime : (s.modStore f).dtime = s.dtime := rfl
@[simp] theorem modStore_dphase : (s.modStore f).dphase = s.dphase := rfl
@[simp] theorem modStore_qps : (s.modStore f).qps = s.qps := rfl
@[simp] theorem modStore_wis : (s.modStore f).wis = s.wis := rfl
@[simp] theorem modStore_park : (s.modStore f).park = s.park := rfl
@[simp] theorem modStore_events : (s.modStore f).events = s.events := rfl
@[simp] theorem modStore_visitPtr : (s.modStore f).visitPtr = s.visitPtr := rfl
@[simp] theorem modStore_perPtr : (s.modStore f).perPtr = s.perPtr := rfl
@[simp] theorem modStore_rrPtr : (s.modStore f).rrPtr = s.rrPtr := rfl
@[simp] theorem modStore_wisPeak : (s.modStore f).wisPeak = s.wisPeak := rfl
@[simp] theorem modStore_flowPeak : (s.modStore f).flowPeak = s.flowPeak := rfl
@[simp] theorem modStore_pfPeak : (s.modStore f).pfPeak = s.pfPeak := rfl
@[simp] theorem modStore_poolPeak : (s.modStore f).poolPeak = s.poolPeak := rfl
@[simp] theorem modStore_poolWaits : (s.modStore f).poolWaits = s.poolWaits := rfl
@[simp] theorem modStore_engs : (s.modStore f).engs = s.engs := rfl
@[simp] theorem modStore_ctxs : (s.modStore f).ctxs = s.ctxs := rfl
@[simp] theorem modStore_closed : (s.modStore f).closed = s.closed := rfl
@[simp] theorem modStore_flushing : (s.modStore f).flushing = s.flushing := rfl
@[simp] theorem modStore_ports : (s.modStore f).ports = s.ports := rfl
@[simp] theorem modStore_clks : (s.modStore f).clks = s.clks := rfl
@[simp] theorem modStore_refClk : (s.modStore f).refClk = s.refClk := rfl
@[simp] theorem modStore_husks : (s.modStore f).husks = s.husks := rfl
@[simp] theorem modStore_regions : (s.modStore f).regions = s.regions := rfl
@[simp] theorem modStore_gaps : (s.modStore f).gaps = s.gaps := rfl
@[simp] theorem modStore_overRuns : (s.modStore f).overRuns = s.overRuns := rfl
@[simp] theorem modStore_slices : (s.modStore f).slices = s.slices := rfl
@[simp] theorem modStore_dmchs : (s.modStore f).dmchs = s.dmchs := rfl
@[simp] theorem modStore_dms : (s.modStore f).dms = s.dms := rfl
@[simp] theorem modStore_cfs : (s.modStore f).cfs = s.cfs := rfl
@[simp] theorem modStore_doms : (s.modStore f).doms = s.doms := rfl
@[simp] theorem modStore_fw : (s.modStore f).fw = s.fw := rfl
@[simp] theorem modStore_ctl : (s.modStore f).ctl = s.ctl := rfl
@[simp] theorem modStore_pci : (s.modStore f).pci = s.pci := rfl
@[simp] theorem modStore_att : (s.modStore f).att = s.att := rfl
@[simp] theorem modStore_tap : (s.modStore f).tap = s.tap := rfl
@[simp] theorem modStore_posted : (s.modStore f).posted = s.posted := rfl
@[simp] theorem modStore_reads : (s.modStore f).reads = s.reads := rfl
@[simp] theorem modStore_late : (s.modStore f).late = s.late := rfl
@[simp] theorem modStore_latches : (s.modStore f).latches = s.latches := rfl
@[simp] theorem modStore_rd : (s.modStore f).rd = s.rd := rfl
@[simp] theorem modStore_store : (s.modStore f).store = f s.store := rfl

end modStore

section modFw
variable (f : Fw → Fw)

@[simp] theorem modFw_pending : (s.modFw f).pending = s.pending := rfl
@[simp] theorem modFw_now : (s.modFw f).now = s.now := rfl
@[simp] theorem modFw_nextId : (s.modFw f).nextId = s.nextId := rfl
@[simp] theorem modFw_ordinal : (s.modFw f).ordinal = s.ordinal := rfl
@[simp] theorem modFw_free : (s.modFw f).free = s.free := rfl
@[simp] theorem modFw_causesNow : (s.modFw f).causesNow = s.causesNow := rfl
@[simp] theorem modFw_regs : (s.modFw f).regs = s.regs := rfl
@[simp] theorem modFw_seq : (s.modFw f).seq = s.seq := rfl
@[simp] theorem modFw_dtime : (s.modFw f).dtime = s.dtime := rfl
@[simp] theorem modFw_dphase : (s.modFw f).dphase = s.dphase := rfl
@[simp] theorem modFw_qps : (s.modFw f).qps = s.qps := rfl
@[simp] theorem modFw_wis : (s.modFw f).wis = s.wis := rfl
@[simp] theorem modFw_park : (s.modFw f).park = s.park := rfl
@[simp] theorem modFw_events : (s.modFw f).events = s.events := rfl
@[simp] theorem modFw_visitPtr : (s.modFw f).visitPtr = s.visitPtr := rfl
@[simp] theorem modFw_perPtr : (s.modFw f).perPtr = s.perPtr := rfl
@[simp] theorem modFw_rrPtr : (s.modFw f).rrPtr = s.rrPtr := rfl
@[simp] theorem modFw_wisPeak : (s.modFw f).wisPeak = s.wisPeak := rfl
@[simp] theorem modFw_flowPeak : (s.modFw f).flowPeak = s.flowPeak := rfl
@[simp] theorem modFw_pfPeak : (s.modFw f).pfPeak = s.pfPeak := rfl
@[simp] theorem modFw_poolPeak : (s.modFw f).poolPeak = s.poolPeak := rfl
@[simp] theorem modFw_poolWaits : (s.modFw f).poolWaits = s.poolWaits := rfl
@[simp] theorem modFw_engs : (s.modFw f).engs = s.engs := rfl
@[simp] theorem modFw_ctxs : (s.modFw f).ctxs = s.ctxs := rfl
@[simp] theorem modFw_closed : (s.modFw f).closed = s.closed := rfl
@[simp] theorem modFw_flushing : (s.modFw f).flushing = s.flushing := rfl
@[simp] theorem modFw_ports : (s.modFw f).ports = s.ports := rfl
@[simp] theorem modFw_clks : (s.modFw f).clks = s.clks := rfl
@[simp] theorem modFw_refClk : (s.modFw f).refClk = s.refClk := rfl
@[simp] theorem modFw_husks : (s.modFw f).husks = s.husks := rfl
@[simp] theorem modFw_regions : (s.modFw f).regions = s.regions := rfl
@[simp] theorem modFw_gaps : (s.modFw f).gaps = s.gaps := rfl
@[simp] theorem modFw_overRuns : (s.modFw f).overRuns = s.overRuns := rfl
@[simp] theorem modFw_slices : (s.modFw f).slices = s.slices := rfl
@[simp] theorem modFw_dmchs : (s.modFw f).dmchs = s.dmchs := rfl
@[simp] theorem modFw_dms : (s.modFw f).dms = s.dms := rfl
@[simp] theorem modFw_cfs : (s.modFw f).cfs = s.cfs := rfl
@[simp] theorem modFw_doms : (s.modFw f).doms = s.doms := rfl
@[simp] theorem modFw_store : (s.modFw f).store = s.store := rfl
@[simp] theorem modFw_ctl : (s.modFw f).ctl = s.ctl := rfl
@[simp] theorem modFw_pci : (s.modFw f).pci = s.pci := rfl
@[simp] theorem modFw_att : (s.modFw f).att = s.att := rfl
@[simp] theorem modFw_tap : (s.modFw f).tap = s.tap := rfl
@[simp] theorem modFw_posted : (s.modFw f).posted = s.posted := rfl
@[simp] theorem modFw_reads : (s.modFw f).reads = s.reads := rfl
@[simp] theorem modFw_late : (s.modFw f).late = s.late := rfl
@[simp] theorem modFw_latches : (s.modFw f).latches = s.latches := rfl
@[simp] theorem modFw_rd : (s.modFw f).rd = s.rd := rfl
@[simp] theorem modFw_fw : (s.modFw f).fw = f s.fw := rfl

end modFw

section modCtl
variable (f : Ctl → Ctl)

@[simp] theorem modCtl_pending : (s.modCtl f).pending = s.pending := rfl
@[simp] theorem modCtl_now : (s.modCtl f).now = s.now := rfl
@[simp] theorem modCtl_nextId : (s.modCtl f).nextId = s.nextId := rfl
@[simp] theorem modCtl_ordinal : (s.modCtl f).ordinal = s.ordinal := rfl
@[simp] theorem modCtl_free : (s.modCtl f).free = s.free := rfl
@[simp] theorem modCtl_causesNow : (s.modCtl f).causesNow = s.causesNow := rfl
@[simp] theorem modCtl_regs : (s.modCtl f).regs = s.regs := rfl
@[simp] theorem modCtl_seq : (s.modCtl f).seq = s.seq := rfl
@[simp] theorem modCtl_dtime : (s.modCtl f).dtime = s.dtime := rfl
@[simp] theorem modCtl_dphase : (s.modCtl f).dphase = s.dphase := rfl
@[simp] theorem modCtl_qps : (s.modCtl f).qps = s.qps := rfl
@[simp] theorem modCtl_wis : (s.modCtl f).wis = s.wis := rfl
@[simp] theorem modCtl_park : (s.modCtl f).park = s.park := rfl
@[simp] theorem modCtl_events : (s.modCtl f).events = s.events := rfl
@[simp] theorem modCtl_visitPtr : (s.modCtl f).visitPtr = s.visitPtr := rfl
@[simp] theorem modCtl_perPtr : (s.modCtl f).perPtr = s.perPtr := rfl
@[simp] theorem modCtl_rrPtr : (s.modCtl f).rrPtr = s.rrPtr := rfl
@[simp] theorem modCtl_wisPeak : (s.modCtl f).wisPeak = s.wisPeak := rfl
@[simp] theorem modCtl_flowPeak : (s.modCtl f).flowPeak = s.flowPeak := rfl
@[simp] theorem modCtl_pfPeak : (s.modCtl f).pfPeak = s.pfPeak := rfl
@[simp] theorem modCtl_poolPeak : (s.modCtl f).poolPeak = s.poolPeak := rfl
@[simp] theorem modCtl_poolWaits : (s.modCtl f).poolWaits = s.poolWaits := rfl
@[simp] theorem modCtl_engs : (s.modCtl f).engs = s.engs := rfl
@[simp] theorem modCtl_ctxs : (s.modCtl f).ctxs = s.ctxs := rfl
@[simp] theorem modCtl_closed : (s.modCtl f).closed = s.closed := rfl
@[simp] theorem modCtl_flushing : (s.modCtl f).flushing = s.flushing := rfl
@[simp] theorem modCtl_ports : (s.modCtl f).ports = s.ports := rfl
@[simp] theorem modCtl_clks : (s.modCtl f).clks = s.clks := rfl
@[simp] theorem modCtl_refClk : (s.modCtl f).refClk = s.refClk := rfl
@[simp] theorem modCtl_husks : (s.modCtl f).husks = s.husks := rfl
@[simp] theorem modCtl_regions : (s.modCtl f).regions = s.regions := rfl
@[simp] theorem modCtl_gaps : (s.modCtl f).gaps = s.gaps := rfl
@[simp] theorem modCtl_overRuns : (s.modCtl f).overRuns = s.overRuns := rfl
@[simp] theorem modCtl_slices : (s.modCtl f).slices = s.slices := rfl
@[simp] theorem modCtl_dmchs : (s.modCtl f).dmchs = s.dmchs := rfl
@[simp] theorem modCtl_dms : (s.modCtl f).dms = s.dms := rfl
@[simp] theorem modCtl_cfs : (s.modCtl f).cfs = s.cfs := rfl
@[simp] theorem modCtl_doms : (s.modCtl f).doms = s.doms := rfl
@[simp] theorem modCtl_store : (s.modCtl f).store = s.store := rfl
@[simp] theorem modCtl_fw : (s.modCtl f).fw = s.fw := rfl
@[simp] theorem modCtl_pci : (s.modCtl f).pci = s.pci := rfl
@[simp] theorem modCtl_att : (s.modCtl f).att = s.att := rfl
@[simp] theorem modCtl_tap : (s.modCtl f).tap = s.tap := rfl
@[simp] theorem modCtl_posted : (s.modCtl f).posted = s.posted := rfl
@[simp] theorem modCtl_reads : (s.modCtl f).reads = s.reads := rfl
@[simp] theorem modCtl_late : (s.modCtl f).late = s.late := rfl
@[simp] theorem modCtl_latches : (s.modCtl f).latches = s.latches := rfl
@[simp] theorem modCtl_rd : (s.modCtl f).rd = s.rd := rfl
@[simp] theorem modCtl_ctl : (s.modCtl f).ctl = f s.ctl := rfl

end modCtl

section modPci
variable (f : Pci → Pci)

@[simp] theorem modPci_pending : (s.modPci f).pending = s.pending := rfl
@[simp] theorem modPci_now : (s.modPci f).now = s.now := rfl
@[simp] theorem modPci_nextId : (s.modPci f).nextId = s.nextId := rfl
@[simp] theorem modPci_ordinal : (s.modPci f).ordinal = s.ordinal := rfl
@[simp] theorem modPci_free : (s.modPci f).free = s.free := rfl
@[simp] theorem modPci_causesNow : (s.modPci f).causesNow = s.causesNow := rfl
@[simp] theorem modPci_regs : (s.modPci f).regs = s.regs := rfl
@[simp] theorem modPci_seq : (s.modPci f).seq = s.seq := rfl
@[simp] theorem modPci_dtime : (s.modPci f).dtime = s.dtime := rfl
@[simp] theorem modPci_dphase : (s.modPci f).dphase = s.dphase := rfl
@[simp] theorem modPci_qps : (s.modPci f).qps = s.qps := rfl
@[simp] theorem modPci_wis : (s.modPci f).wis = s.wis := rfl
@[simp] theorem modPci_park : (s.modPci f).park = s.park := rfl
@[simp] theorem modPci_events : (s.modPci f).events = s.events := rfl
@[simp] theorem modPci_visitPtr : (s.modPci f).visitPtr = s.visitPtr := rfl
@[simp] theorem modPci_perPtr : (s.modPci f).perPtr = s.perPtr := rfl
@[simp] theorem modPci_rrPtr : (s.modPci f).rrPtr = s.rrPtr := rfl
@[simp] theorem modPci_wisPeak : (s.modPci f).wisPeak = s.wisPeak := rfl
@[simp] theorem modPci_flowPeak : (s.modPci f).flowPeak = s.flowPeak := rfl
@[simp] theorem modPci_pfPeak : (s.modPci f).pfPeak = s.pfPeak := rfl
@[simp] theorem modPci_poolPeak : (s.modPci f).poolPeak = s.poolPeak := rfl
@[simp] theorem modPci_poolWaits : (s.modPci f).poolWaits = s.poolWaits := rfl
@[simp] theorem modPci_engs : (s.modPci f).engs = s.engs := rfl
@[simp] theorem modPci_ctxs : (s.modPci f).ctxs = s.ctxs := rfl
@[simp] theorem modPci_closed : (s.modPci f).closed = s.closed := rfl
@[simp] theorem modPci_flushing : (s.modPci f).flushing = s.flushing := rfl
@[simp] theorem modPci_ports : (s.modPci f).ports = s.ports := rfl
@[simp] theorem modPci_clks : (s.modPci f).clks = s.clks := rfl
@[simp] theorem modPci_refClk : (s.modPci f).refClk = s.refClk := rfl
@[simp] theorem modPci_husks : (s.modPci f).husks = s.husks := rfl
@[simp] theorem modPci_regions : (s.modPci f).regions = s.regions := rfl
@[simp] theorem modPci_gaps : (s.modPci f).gaps = s.gaps := rfl
@[simp] theorem modPci_overRuns : (s.modPci f).overRuns = s.overRuns := rfl
@[simp] theorem modPci_slices : (s.modPci f).slices = s.slices := rfl
@[simp] theorem modPci_dmchs : (s.modPci f).dmchs = s.dmchs := rfl
@[simp] theorem modPci_dms : (s.modPci f).dms = s.dms := rfl
@[simp] theorem modPci_cfs : (s.modPci f).cfs = s.cfs := rfl
@[simp] theorem modPci_doms : (s.modPci f).doms = s.doms := rfl
@[simp] theorem modPci_store : (s.modPci f).store = s.store := rfl
@[simp] theorem modPci_fw : (s.modPci f).fw = s.fw := rfl
@[simp] theorem modPci_ctl : (s.modPci f).ctl = s.ctl := rfl
@[simp] theorem modPci_att : (s.modPci f).att = s.att := rfl
@[simp] theorem modPci_tap : (s.modPci f).tap = s.tap := rfl
@[simp] theorem modPci_posted : (s.modPci f).posted = s.posted := rfl
@[simp] theorem modPci_reads : (s.modPci f).reads = s.reads := rfl
@[simp] theorem modPci_late : (s.modPci f).late = s.late := rfl
@[simp] theorem modPci_latches : (s.modPci f).latches = s.latches := rfl
@[simp] theorem modPci_rd : (s.modPci f).rd = s.rd := rfl
@[simp] theorem modPci_pci : (s.modPci f).pci = f s.pci := rfl

end modPci

section modAtt
variable (f : Att → Att)

@[simp] theorem modAtt_pending : (s.modAtt f).pending = s.pending := rfl
@[simp] theorem modAtt_now : (s.modAtt f).now = s.now := rfl
@[simp] theorem modAtt_nextId : (s.modAtt f).nextId = s.nextId := rfl
@[simp] theorem modAtt_ordinal : (s.modAtt f).ordinal = s.ordinal := rfl
@[simp] theorem modAtt_free : (s.modAtt f).free = s.free := rfl
@[simp] theorem modAtt_causesNow : (s.modAtt f).causesNow = s.causesNow := rfl
@[simp] theorem modAtt_regs : (s.modAtt f).regs = s.regs := rfl
@[simp] theorem modAtt_seq : (s.modAtt f).seq = s.seq := rfl
@[simp] theorem modAtt_dtime : (s.modAtt f).dtime = s.dtime := rfl
@[simp] theorem modAtt_dphase : (s.modAtt f).dphase = s.dphase := rfl
@[simp] theorem modAtt_qps : (s.modAtt f).qps = s.qps := rfl
@[simp] theorem modAtt_wis : (s.modAtt f).wis = s.wis := rfl
@[simp] theorem modAtt_park : (s.modAtt f).park = s.park := rfl
@[simp] theorem modAtt_events : (s.modAtt f).events = s.events := rfl
@[simp] theorem modAtt_visitPtr : (s.modAtt f).visitPtr = s.visitPtr := rfl
@[simp] theorem modAtt_perPtr : (s.modAtt f).perPtr = s.perPtr := rfl
@[simp] theorem modAtt_rrPtr : (s.modAtt f).rrPtr = s.rrPtr := rfl
@[simp] theorem modAtt_wisPeak : (s.modAtt f).wisPeak = s.wisPeak := rfl
@[simp] theorem modAtt_flowPeak : (s.modAtt f).flowPeak = s.flowPeak := rfl
@[simp] theorem modAtt_pfPeak : (s.modAtt f).pfPeak = s.pfPeak := rfl
@[simp] theorem modAtt_poolPeak : (s.modAtt f).poolPeak = s.poolPeak := rfl
@[simp] theorem modAtt_poolWaits : (s.modAtt f).poolWaits = s.poolWaits := rfl
@[simp] theorem modAtt_engs : (s.modAtt f).engs = s.engs := rfl
@[simp] theorem modAtt_ctxs : (s.modAtt f).ctxs = s.ctxs := rfl
@[simp] theorem modAtt_closed : (s.modAtt f).closed = s.closed := rfl
@[simp] theorem modAtt_flushing : (s.modAtt f).flushing = s.flushing := rfl
@[simp] theorem modAtt_ports : (s.modAtt f).ports = s.ports := rfl
@[simp] theorem modAtt_clks : (s.modAtt f).clks = s.clks := rfl
@[simp] theorem modAtt_refClk : (s.modAtt f).refClk = s.refClk := rfl
@[simp] theorem modAtt_husks : (s.modAtt f).husks = s.husks := rfl
@[simp] theorem modAtt_regions : (s.modAtt f).regions = s.regions := rfl
@[simp] theorem modAtt_gaps : (s.modAtt f).gaps = s.gaps := rfl
@[simp] theorem modAtt_overRuns : (s.modAtt f).overRuns = s.overRuns := rfl
@[simp] theorem modAtt_slices : (s.modAtt f).slices = s.slices := rfl
@[simp] theorem modAtt_dmchs : (s.modAtt f).dmchs = s.dmchs := rfl
@[simp] theorem modAtt_dms : (s.modAtt f).dms = s.dms := rfl
@[simp] theorem modAtt_cfs : (s.modAtt f).cfs = s.cfs := rfl
@[simp] theorem modAtt_doms : (s.modAtt f).doms = s.doms := rfl
@[simp] theorem modAtt_store : (s.modAtt f).store = s.store := rfl
@[simp] theorem modAtt_fw : (s.modAtt f).fw = s.fw := rfl
@[simp] theorem modAtt_ctl : (s.modAtt f).ctl = s.ctl := rfl
@[simp] theorem modAtt_pci : (s.modAtt f).pci = s.pci := rfl
@[simp] theorem modAtt_tap : (s.modAtt f).tap = s.tap := rfl
@[simp] theorem modAtt_posted : (s.modAtt f).posted = s.posted := rfl
@[simp] theorem modAtt_reads : (s.modAtt f).reads = s.reads := rfl
@[simp] theorem modAtt_late : (s.modAtt f).late = s.late := rfl
@[simp] theorem modAtt_latches : (s.modAtt f).latches = s.latches := rfl
@[simp] theorem modAtt_rd : (s.modAtt f).rd = s.rd := rfl
@[simp] theorem modAtt_att : (s.modAtt f).att = f s.att := rfl

end modAtt

section modClk
variable (k : ClkId) (f : Clk → Clk)

@[simp] theorem modClk_pending : (s.modClk k f).pending = s.pending := by cases k <;> rfl
@[simp] theorem modClk_now : (s.modClk k f).now = s.now := by cases k <;> rfl
@[simp] theorem modClk_nextId : (s.modClk k f).nextId = s.nextId := by cases k <;> rfl
@[simp] theorem modClk_ordinal : (s.modClk k f).ordinal = s.ordinal := by cases k <;> rfl
@[simp] theorem modClk_free : (s.modClk k f).free = s.free := by cases k <;> rfl
@[simp] theorem modClk_causesNow : (s.modClk k f).causesNow = s.causesNow := by cases k <;> rfl
@[simp] theorem modClk_regs : (s.modClk k f).regs = s.regs := by cases k <;> rfl
@[simp] theorem modClk_seq : (s.modClk k f).seq = s.seq := by cases k <;> rfl
@[simp] theorem modClk_dtime : (s.modClk k f).dtime = s.dtime := by cases k <;> rfl
@[simp] theorem modClk_dphase : (s.modClk k f).dphase = s.dphase := by cases k <;> rfl
@[simp] theorem modClk_qps : (s.modClk k f).qps = s.qps := by cases k <;> rfl
@[simp] theorem modClk_wis : (s.modClk k f).wis = s.wis := by cases k <;> rfl
@[simp] theorem modClk_park : (s.modClk k f).park = s.park := by cases k <;> rfl
@[simp] theorem modClk_events : (s.modClk k f).events = s.events := by cases k <;> rfl
@[simp] theorem modClk_visitPtr : (s.modClk k f).visitPtr = s.visitPtr := by cases k <;> rfl
@[simp] theorem modClk_perPtr : (s.modClk k f).perPtr = s.perPtr := by cases k <;> rfl
@[simp] theorem modClk_rrPtr : (s.modClk k f).rrPtr = s.rrPtr := by cases k <;> rfl
@[simp] theorem modClk_wisPeak : (s.modClk k f).wisPeak = s.wisPeak := by cases k <;> rfl
@[simp] theorem modClk_flowPeak : (s.modClk k f).flowPeak = s.flowPeak := by cases k <;> rfl
@[simp] theorem modClk_pfPeak : (s.modClk k f).pfPeak = s.pfPeak := by cases k <;> rfl
@[simp] theorem modClk_poolPeak : (s.modClk k f).poolPeak = s.poolPeak := by cases k <;> rfl
@[simp] theorem modClk_poolWaits : (s.modClk k f).poolWaits = s.poolWaits := by cases k <;> rfl
@[simp] theorem modClk_engs : (s.modClk k f).engs = s.engs := by cases k <;> rfl
@[simp] theorem modClk_ctxs : (s.modClk k f).ctxs = s.ctxs := by cases k <;> rfl
@[simp] theorem modClk_closed : (s.modClk k f).closed = s.closed := by cases k <;> rfl
@[simp] theorem modClk_flushing : (s.modClk k f).flushing = s.flushing := by cases k <;> rfl
@[simp] theorem modClk_ports : (s.modClk k f).ports = s.ports := by cases k <;> rfl
@[simp] theorem modClk_husks : (s.modClk k f).husks = s.husks := by cases k <;> rfl
@[simp] theorem modClk_regions : (s.modClk k f).regions = s.regions := by cases k <;> rfl
@[simp] theorem modClk_gaps : (s.modClk k f).gaps = s.gaps := by cases k <;> rfl
@[simp] theorem modClk_overRuns : (s.modClk k f).overRuns = s.overRuns := by cases k <;> rfl
@[simp] theorem modClk_slices : (s.modClk k f).slices = s.slices := by cases k <;> rfl
@[simp] theorem modClk_dmchs : (s.modClk k f).dmchs = s.dmchs := by cases k <;> rfl
@[simp] theorem modClk_dms : (s.modClk k f).dms = s.dms := by cases k <;> rfl
@[simp] theorem modClk_cfs : (s.modClk k f).cfs = s.cfs := by cases k <;> rfl
@[simp] theorem modClk_doms : (s.modClk k f).doms = s.doms := by cases k <;> rfl
@[simp] theorem modClk_store : (s.modClk k f).store = s.store := by cases k <;> rfl
@[simp] theorem modClk_fw : (s.modClk k f).fw = s.fw := by cases k <;> rfl
@[simp] theorem modClk_ctl : (s.modClk k f).ctl = s.ctl := by cases k <;> rfl
@[simp] theorem modClk_pci : (s.modClk k f).pci = s.pci := by cases k <;> rfl
@[simp] theorem modClk_att : (s.modClk k f).att = s.att := by cases k <;> rfl
@[simp] theorem modClk_tap : (s.modClk k f).tap = s.tap := by cases k <;> rfl
@[simp] theorem modClk_posted : (s.modClk k f).posted = s.posted := by cases k <;> rfl
@[simp] theorem modClk_reads : (s.modClk k f).reads = s.reads := by cases k <;> rfl
@[simp] theorem modClk_late : (s.modClk k f).late = s.late := by cases k <;> rfl
@[simp] theorem modClk_latches : (s.modClk k f).latches = s.latches := by cases k <;> rfl
@[simp] theorem modClk_rd : (s.modClk k f).rd = s.rd := by cases k <;> rfl

end modClk

section modItem
variable (id : Nat) (f : Item → Item)

@[simp] theorem modItem_pending : (s.modItem id f).pending = s.pending := rfl
@[simp] theorem modItem_now : (s.modItem id f).now = s.now := rfl
@[simp] theorem modItem_nextId : (s.modItem id f).nextId = s.nextId := rfl
@[simp] theorem modItem_ordinal : (s.modItem id f).ordinal = s.ordinal := rfl
@[simp] theorem modItem_free : (s.modItem id f).free = s.free := rfl
@[simp] theorem modItem_causesNow : (s.modItem id f).causesNow = s.causesNow := rfl
@[simp] theorem modItem_regs : (s.modItem id f).regs = s.regs := rfl
@[simp] theorem modItem_seq : (s.modItem id f).seq = s.seq := rfl
@[simp] theorem modItem_dtime : (s.modItem id f).dtime = s.dtime := rfl
@[simp] theorem modItem_dphase : (s.modItem id f).dphase = s.dphase := rfl
@[simp] theorem modItem_qps : (s.modItem id f).qps = s.qps := rfl
@[simp] theorem modItem_park : (s.modItem id f).park = s.park := rfl
@[simp] theorem modItem_events : (s.modItem id f).events = s.events := rfl
@[simp] theorem modItem_visitPtr : (s.modItem id f).visitPtr = s.visitPtr := rfl
@[simp] theorem modItem_perPtr : (s.modItem id f).perPtr = s.perPtr := rfl
@[simp] theorem modItem_rrPtr : (s.modItem id f).rrPtr = s.rrPtr := rfl
@[simp] theorem modItem_wisPeak : (s.modItem id f).wisPeak = s.wisPeak := rfl
@[simp] theorem modItem_flowPeak : (s.modItem id f).flowPeak = s.flowPeak := rfl
@[simp] theorem modItem_pfPeak : (s.modItem id f).pfPeak = s.pfPeak := rfl
@[simp] theorem modItem_poolPeak : (s.modItem id f).poolPeak = s.poolPeak := rfl
@[simp] theorem modItem_poolWaits : (s.modItem id f).poolWaits = s.poolWaits := rfl
@[simp] theorem modItem_engs : (s.modItem id f).engs = s.engs := rfl
@[simp] theorem modItem_ctxs : (s.modItem id f).ctxs = s.ctxs := rfl
@[simp] theorem modItem_closed : (s.modItem id f).closed = s.closed := rfl
@[simp] theorem modItem_flushing : (s.modItem id f).flushing = s.flushing := rfl
@[simp] theorem modItem_ports : (s.modItem id f).ports = s.ports := rfl
@[simp] theorem modItem_clks : (s.modItem id f).clks = s.clks := rfl
@[simp] theorem modItem_refClk : (s.modItem id f).refClk = s.refClk := rfl
@[simp] theorem modItem_husks : (s.modItem id f).husks = s.husks := rfl
@[simp] theorem modItem_regions : (s.modItem id f).regions = s.regions := rfl
@[simp] theorem modItem_gaps : (s.modItem id f).gaps = s.gaps := rfl
@[simp] theorem modItem_overRuns : (s.modItem id f).overRuns = s.overRuns := rfl
@[simp] theorem modItem_slices : (s.modItem id f).slices = s.slices := rfl
@[simp] theorem modItem_dmchs : (s.modItem id f).dmchs = s.dmchs := rfl
@[simp] theorem modItem_dms : (s.modItem id f).dms = s.dms := rfl
@[simp] theorem modItem_cfs : (s.modItem id f).cfs = s.cfs := rfl
@[simp] theorem modItem_doms : (s.modItem id f).doms = s.doms := rfl
@[simp] theorem modItem_store : (s.modItem id f).store = s.store := rfl
@[simp] theorem modItem_fw : (s.modItem id f).fw = s.fw := rfl
@[simp] theorem modItem_ctl : (s.modItem id f).ctl = s.ctl := rfl
@[simp] theorem modItem_pci : (s.modItem id f).pci = s.pci := rfl
@[simp] theorem modItem_att : (s.modItem id f).att = s.att := rfl
@[simp] theorem modItem_tap : (s.modItem id f).tap = s.tap := rfl
@[simp] theorem modItem_posted : (s.modItem id f).posted = s.posted := rfl
@[simp] theorem modItem_reads : (s.modItem id f).reads = s.reads := rfl
@[simp] theorem modItem_late : (s.modItem id f).late = s.late := rfl
@[simp] theorem modItem_latches : (s.modItem id f).latches = s.latches := rfl
@[simp] theorem modItem_rd : (s.modItem id f).rd = s.rd := rfl

end modItem

section modX
variable (id : Nat) (f : Xfer → Xfer)

@[simp] theorem modX_pending : (s.modX id f).pending = s.pending := rfl
@[simp] theorem modX_now : (s.modX id f).now = s.now := rfl
@[simp] theorem modX_nextId : (s.modX id f).nextId = s.nextId := rfl
@[simp] theorem modX_ordinal : (s.modX id f).ordinal = s.ordinal := rfl
@[simp] theorem modX_free : (s.modX id f).free = s.free := rfl
@[simp] theorem modX_causesNow : (s.modX id f).causesNow = s.causesNow := rfl
@[simp] theorem modX_regs : (s.modX id f).regs = s.regs := rfl
@[simp] theorem modX_seq : (s.modX id f).seq = s.seq := rfl
@[simp] theorem modX_dtime : (s.modX id f).dtime = s.dtime := rfl
@[simp] theorem modX_dphase : (s.modX id f).dphase = s.dphase := rfl
@[simp] theorem modX_qps : (s.modX id f).qps = s.qps := rfl
@[simp] theorem modX_park : (s.modX id f).park = s.park := rfl
@[simp] theorem modX_events : (s.modX id f).events = s.events := rfl
@[simp] theorem modX_visitPtr : (s.modX id f).visitPtr = s.visitPtr := rfl
@[simp] theorem modX_perPtr : (s.modX id f).perPtr = s.perPtr := rfl
@[simp] theorem modX_rrPtr : (s.modX id f).rrPtr = s.rrPtr := rfl
@[simp] theorem modX_wisPeak : (s.modX id f).wisPeak = s.wisPeak := rfl
@[simp] theorem modX_flowPeak : (s.modX id f).flowPeak = s.flowPeak := rfl
@[simp] theorem modX_pfPeak : (s.modX id f).pfPeak = s.pfPeak := rfl
@[simp] theorem modX_poolPeak : (s.modX id f).poolPeak = s.poolPeak := rfl
@[simp] theorem modX_poolWaits : (s.modX id f).poolWaits = s.poolWaits := rfl
@[simp] theorem modX_engs : (s.modX id f).engs = s.engs := rfl
@[simp] theorem modX_ctxs : (s.modX id f).ctxs = s.ctxs := rfl
@[simp] theorem modX_closed : (s.modX id f).closed = s.closed := rfl
@[simp] theorem modX_flushing : (s.modX id f).flushing = s.flushing := rfl
@[simp] theorem modX_ports : (s.modX id f).ports = s.ports := rfl
@[simp] theorem modX_clks : (s.modX id f).clks = s.clks := rfl
@[simp] theorem modX_refClk : (s.modX id f).refClk = s.refClk := rfl
@[simp] theorem modX_husks : (s.modX id f).husks = s.husks := rfl
@[simp] theorem modX_regions : (s.modX id f).regions = s.regions := rfl
@[simp] theorem modX_gaps : (s.modX id f).gaps = s.gaps := rfl
@[simp] theorem modX_overRuns : (s.modX id f).overRuns = s.overRuns := rfl
@[simp] theorem modX_slices : (s.modX id f).slices = s.slices := rfl
@[simp] theorem modX_dmchs : (s.modX id f).dmchs = s.dmchs := rfl
@[simp] theorem modX_dms : (s.modX id f).dms = s.dms := rfl
@[simp] theorem modX_cfs : (s.modX id f).cfs = s.cfs := rfl
@[simp] theorem modX_doms : (s.modX id f).doms = s.doms := rfl
@[simp] theorem modX_store : (s.modX id f).store = s.store := rfl
@[simp] theorem modX_fw : (s.modX id f).fw = s.fw := rfl
@[simp] theorem modX_ctl : (s.modX id f).ctl = s.ctl := rfl
@[simp] theorem modX_pci : (s.modX id f).pci = s.pci := rfl
@[simp] theorem modX_att : (s.modX id f).att = s.att := rfl
@[simp] theorem modX_tap : (s.modX id f).tap = s.tap := rfl
@[simp] theorem modX_posted : (s.modX id f).posted = s.posted := rfl
@[simp] theorem modX_reads : (s.modX id f).reads = s.reads := rfl
@[simp] theorem modX_late : (s.modX id f).late = s.late := rfl
@[simp] theorem modX_latches : (s.modX id f).latches = s.latches := rfl
@[simp] theorem modX_rd : (s.modX id f).rd = s.rd := rfl

end modX

section modCtx
variable (p : PortId) (a e : Nat) (d : Bool) (f : Ctx → Ctx)

@[simp] theorem modCtx_pending : (s.modCtx p a e d f).pending = s.pending := rfl
@[simp] theorem modCtx_now : (s.modCtx p a e d f).now = s.now := rfl
@[simp] theorem modCtx_nextId : (s.modCtx p a e d f).nextId = s.nextId := rfl
@[simp] theorem modCtx_ordinal : (s.modCtx p a e d f).ordinal = s.ordinal := rfl
@[simp] theorem modCtx_free : (s.modCtx p a e d f).free = s.free := rfl
@[simp] theorem modCtx_causesNow : (s.modCtx p a e d f).causesNow = s.causesNow := rfl
@[simp] theorem modCtx_regs : (s.modCtx p a e d f).regs = s.regs := rfl
@[simp] theorem modCtx_seq : (s.modCtx p a e d f).seq = s.seq := rfl
@[simp] theorem modCtx_dtime : (s.modCtx p a e d f).dtime = s.dtime := rfl
@[simp] theorem modCtx_dphase : (s.modCtx p a e d f).dphase = s.dphase := rfl
@[simp] theorem modCtx_qps : (s.modCtx p a e d f).qps = s.qps := rfl
@[simp] theorem modCtx_wis : (s.modCtx p a e d f).wis = s.wis := rfl
@[simp] theorem modCtx_park : (s.modCtx p a e d f).park = s.park := rfl
@[simp] theorem modCtx_events : (s.modCtx p a e d f).events = s.events := rfl
@[simp] theorem modCtx_visitPtr : (s.modCtx p a e d f).visitPtr = s.visitPtr := rfl
@[simp] theorem modCtx_perPtr : (s.modCtx p a e d f).perPtr = s.perPtr := rfl
@[simp] theorem modCtx_rrPtr : (s.modCtx p a e d f).rrPtr = s.rrPtr := rfl
@[simp] theorem modCtx_wisPeak : (s.modCtx p a e d f).wisPeak = s.wisPeak := rfl
@[simp] theorem modCtx_flowPeak : (s.modCtx p a e d f).flowPeak = s.flowPeak := rfl
@[simp] theorem modCtx_pfPeak : (s.modCtx p a e d f).pfPeak = s.pfPeak := rfl
@[simp] theorem modCtx_poolPeak : (s.modCtx p a e d f).poolPeak = s.poolPeak := rfl
@[simp] theorem modCtx_poolWaits : (s.modCtx p a e d f).poolWaits = s.poolWaits := rfl
@[simp] theorem modCtx_engs : (s.modCtx p a e d f).engs = s.engs := rfl
@[simp] theorem modCtx_closed : (s.modCtx p a e d f).closed = s.closed := rfl
@[simp] theorem modCtx_flushing : (s.modCtx p a e d f).flushing = s.flushing := rfl
@[simp] theorem modCtx_ports : (s.modCtx p a e d f).ports = s.ports := rfl
@[simp] theorem modCtx_clks : (s.modCtx p a e d f).clks = s.clks := rfl
@[simp] theorem modCtx_refClk : (s.modCtx p a e d f).refClk = s.refClk := rfl
@[simp] theorem modCtx_husks : (s.modCtx p a e d f).husks = s.husks := rfl
@[simp] theorem modCtx_regions : (s.modCtx p a e d f).regions = s.regions := rfl
@[simp] theorem modCtx_gaps : (s.modCtx p a e d f).gaps = s.gaps := rfl
@[simp] theorem modCtx_overRuns : (s.modCtx p a e d f).overRuns = s.overRuns := rfl
@[simp] theorem modCtx_slices : (s.modCtx p a e d f).slices = s.slices := rfl
@[simp] theorem modCtx_dmchs : (s.modCtx p a e d f).dmchs = s.dmchs := rfl
@[simp] theorem modCtx_dms : (s.modCtx p a e d f).dms = s.dms := rfl
@[simp] theorem modCtx_cfs : (s.modCtx p a e d f).cfs = s.cfs := rfl
@[simp] theorem modCtx_doms : (s.modCtx p a e d f).doms = s.doms := rfl
@[simp] theorem modCtx_store : (s.modCtx p a e d f).store = s.store := rfl
@[simp] theorem modCtx_fw : (s.modCtx p a e d f).fw = s.fw := rfl
@[simp] theorem modCtx_ctl : (s.modCtx p a e d f).ctl = s.ctl := rfl
@[simp] theorem modCtx_pci : (s.modCtx p a e d f).pci = s.pci := rfl
@[simp] theorem modCtx_att : (s.modCtx p a e d f).att = s.att := rfl
@[simp] theorem modCtx_tap : (s.modCtx p a e d f).tap = s.tap := rfl
@[simp] theorem modCtx_posted : (s.modCtx p a e d f).posted = s.posted := rfl
@[simp] theorem modCtx_reads : (s.modCtx p a e d f).reads = s.reads := rfl
@[simp] theorem modCtx_late : (s.modCtx p a e d f).late = s.late := rfl
@[simp] theorem modCtx_latches : (s.modCtx p a e d f).latches = s.latches := rfl
@[simp] theorem modCtx_rd : (s.modCtx p a e d f).rd = s.rd := rfl

end modCtx

/-! ### One member of a group -/

theorem vset_same {α : Type} {n : Nat} (v : Vector α n) (i : Fin n) (x : α) : (vset v i x)[i] = x := by
  simp [vset]

@[simp] theorem vset_same_val {α : Type} {n : Nat} (v : Vector α n) (i : Fin n) (x : α) :
    (vset v i x)[i.val] = x := vset_same v i x

theorem vset_other {α : Type} {n : Nat} (v : Vector α n) (i j : Fin n) (x : α) (h : j ≠ i) :
    (vset v i x)[j] = v[j] := by
  have h' : ¬ i.val = j.val := fun e => h (Fin.ext e.symm)
  simp [vset, h']

theorem modQp_same (i : QpId) (f : Qp → Qp) : (s.modQp i f).qps[i] = f s.qps[i] := by
  rw [modQp_qps, vset_same]
@[simp] theorem modQp_same_val (i : QpId) (f : Qp → Qp) : (s.modQp i f).qps[i.val] = f s.qps[i.val] :=
  modQp_same s i f
theorem modQp_other (i j : QpId) (f : Qp → Qp) (h : j ≠ i) : (s.modQp i f).qps[j] = s.qps[j] := by
  rw [modQp_qps, vset_other _ _ _ _ h]

theorem modPort_same (i : PortId) (f : Port → Port) : (s.modPort i f).ports[i] = f s.ports[i] := by
  rw [modPort_ports, vset_same]
@[simp] theorem modPort_same_val (i : PortId) (f : Port → Port) : (s.modPort i f).ports[i.val] = f s.ports[i.val] :=
  modPort_same s i f
theorem modPort_other (i j : PortId) (f : Port → Port) (h : j ≠ i) : (s.modPort i f).ports[j] = s.ports[j] := by
  rw [modPort_ports, vset_other _ _ _ _ h]

theorem modHusk_same (i : PortId) (f : Husk → Husk) : (s.modHusk i f).husks[i] = f s.husks[i] := by
  rw [modHusk_husks, vset_same]
@[simp] theorem modHusk_same_val (i : PortId) (f : Husk → Husk) : (s.modHusk i f).husks[i.val] = f s.husks[i.val] :=
  modHusk_same s i f
theorem modHusk_other (i j : PortId) (f : Husk → Husk) (h : j ≠ i) : (s.modHusk i f).husks[j] = s.husks[j] := by
  rw [modHusk_husks, vset_other _ _ _ _ h]

theorem modRegion_same (i : RegId) (f : Region → Region) : (s.modRegion i f).regions[i] = f s.regions[i] := by
  rw [modRegion_regions, vset_same]
@[simp] theorem modRegion_same_val (i : RegId) (f : Region → Region) : (s.modRegion i f).regions[i.val] = f s.regions[i.val] :=
  modRegion_same s i f
theorem modRegion_other (i j : RegId) (f : Region → Region) (h : j ≠ i) : (s.modRegion i f).regions[j] = s.regions[j] := by
  rw [modRegion_regions, vset_other _ _ _ _ h]

theorem modSlice_same (i : SliceId) (f : Slice → Slice) : (s.modSlice i f).slices[i] = f s.slices[i] := by
  rw [modSlice_slices, vset_same]
@[simp] theorem modSlice_same_val (i : SliceId) (f : Slice → Slice) : (s.modSlice i f).slices[i.val] = f s.slices[i.val] :=
  modSlice_same s i f
theorem modSlice_other (i j : SliceId) (f : Slice → Slice) (h : j ≠ i) : (s.modSlice i f).slices[j] = s.slices[j] := by
  rw [modSlice_slices, vset_other _ _ _ _ h]

theorem winCauseSet_same (i : SliceId) (b : Nat) : (s.winCauseSet i b).slices[i] =
    { s.slices[i] with winCause := s.slices[i].winCause ||| (1#32 <<< b) } := by
  rw [winCauseSet_slices, vset_same]
theorem winCauseSet_other (i j : SliceId) (b : Nat) (h : j ≠ i) : (s.winCauseSet i b).slices[j] = s.slices[j] := by
  rw [winCauseSet_slices, vset_other _ _ _ _ h]

theorem modCh_same (i : ChId) (f : Dmch → Dmch) : (s.modCh i f).dmchs[i] = f s.dmchs[i] := by
  rw [modCh_dmchs, vset_same]
@[simp] theorem modCh_same_val (i : ChId) (f : Dmch → Dmch) : (s.modCh i f).dmchs[i.val] = f s.dmchs[i.val] :=
  modCh_same s i f
theorem modCh_other (i j : ChId) (f : Dmch → Dmch) (h : j ≠ i) : (s.modCh i f).dmchs[j] = s.dmchs[j] := by
  rw [modCh_dmchs, vset_other _ _ _ _ h]

theorem modDm_same (i : DmId) (f : Dm → Dm) : (s.modDm i f).dms[i] = f s.dms[i] := by
  rw [modDm_dms, vset_same]
@[simp] theorem modDm_same_val (i : DmId) (f : Dm → Dm) : (s.modDm i f).dms[i.val] = f s.dms[i.val] :=
  modDm_same s i f
theorem modDm_other (i j : DmId) (f : Dm → Dm) (h : j ≠ i) : (s.modDm i f).dms[j] = s.dms[j] := by
  rw [modDm_dms, vset_other _ _ _ _ h]

theorem modCf_same (i : CfId) (f : Cf → Cf) : (s.modCf i f).cfs[i] = f s.cfs[i] := by
  rw [modCf_cfs, vset_same]
@[simp] theorem modCf_same_val (i : CfId) (f : Cf → Cf) : (s.modCf i f).cfs[i.val] = f s.cfs[i.val] :=
  modCf_same s i f
theorem modCf_other (i j : CfId) (f : Cf → Cf) (h : j ≠ i) : (s.modCf i f).cfs[j] = s.cfs[j] := by
  rw [modCf_cfs, vset_other _ _ _ _ h]

theorem modDom_same (i : DomId) (f : Dom → Dom) : (s.modDom i f).doms[i] = f s.doms[i] := by
  rw [modDom_doms, vset_same]
@[simp] theorem modDom_same_val (i : DomId) (f : Dom → Dom) : (s.modDom i f).doms[i.val] = f s.doms[i.val] :=
  modDom_same s i f
theorem modDom_other (i j : DomId) (f : Dom → Dom) (h : j ≠ i) : (s.modDom i f).doms[j] = s.doms[j] := by
  rw [modDom_doms, vset_other _ _ _ _ h]

theorem modEng_same (i : EngId) (f : EngStat → EngStat) : (s.modEng i f).engs[i] = f s.engs[i] := by
  rw [modEng_engs, vset_same]
@[simp] theorem modEng_same_val (i : EngId) (f : EngStat → EngStat) : (s.modEng i f).engs[i.val] = f s.engs[i.val] :=
  modEng_same s i f
theorem modEng_other (i j : EngId) (f : EngStat → EngStat) (h : j ≠ i) : (s.modEng i f).engs[j] = s.engs[j] := by
  rw [modEng_engs, vset_other _ _ _ _ h]

@[simp] theorem modClk_same (k : ClkId) (f : Clk → Clk) : (s.modClk k f).clk k = f (s.clk k) := by
  cases k with
  | ref => rfl
  | port p => simp only [State.modClk, State.clk]; exact vset_same _ _ _

theorem modClk_other (k j : ClkId) (f : Clk → Clk) (h : j ≠ k) : (s.modClk k f).clk j = s.clk j := by
  cases k with
  | ref =>
    cases j with
    | ref => exact absurd rfl h
    | port p => rfl
  | port p =>
    cases j with
    | ref => rfl
    | port q =>
      have hq : q ≠ p := fun e => h (by rw [e])
      simp only [State.modClk, State.clk]
      exact vset_other _ _ _ _ hq

end Sys2Proof.Machine
end

