-- ==== Sys2Proof/Laws/Cells.lean ====
section
/-!
SUPPORT. The laws of sparse cells: a read after a write, and the canonical form that every operation keeps; then
the same for the RAMs of the device and for register fields.
-/

namespace Sys2Proof.Machine

open Sys2Proof

section Cells

variable {α : Type} (dflt : Nat → α)

/-- Every key of a list lies above a bound. -/
def Above (k : Nat) (l : List (Nat × α)) : Prop := ∀ d ∈ l, k < d.1

theorem cellsWf_cons [DecidableEq α] (c : Nat × α) (t : List (Nat × α)) :
    cellsWf dflt (c :: t) = true ↔ c.2 ≠ dflt c.1 ∧ Above c.1 t ∧ cellsWf dflt t = true := by
  simp [cellsWf, Above, and_assoc]

theorem cellGet_above (k : Nat) (l : List (Nat × α)) (h : Above k l) : cellGet dflt l k = dflt k := by
  induction l with
  | nil => rfl
  | cons c t ih =>
    have hc : k < c.1 := h c (by simp)
    have ht : Above k t := fun d hd => h d (by simp [hd])
    have hne : ¬ c.1 = k := by omega
    simp [cellGet, hne, ih ht]

/-- A write leaves every other key alone, whatever the list. -/
theorem cellGet_set_other [DecidableEq α] (k j : Nat) (v : α) (l : List (Nat × α)) (h : j ≠ k) :
    cellGet dflt (cellSet dflt k v l) j = cellGet dflt l j := by
  have hkj : ¬ k = j := fun e => h e.symm
  induction l with
  | nil => by_cases hv : v = dflt k <;> simp [cellSet, hv, cellGet, hkj]
  | cons c t ih =>
    by_cases h1 : c.1 < k
    · simp [cellSet, h1, cellGet, ih]
    · by_cases h2 : c.1 = k
      · by_cases hv : v = dflt k
        · rw [cellSet, if_neg h1, if_pos h2, if_pos hv]
          simp [cellGet, hkj, h2]
        · rw [cellSet, if_neg h1, if_pos h2, if_neg hv]
          simp [cellGet, hkj, h2]
      · by_cases hv : v = dflt k
        · simp only [cellSet, h1, h2, hv, if_true, if_false]
        · simp only [cellSet, h1, h2, hv, if_false]
          simp [cellGet, hkj]

/-- A read after a write to the same key of a canonical list. -/
theorem cellGet_set_same [DecidableEq α] (k : Nat) (v : α) (l : List (Nat × α)) (h : cellsWf dflt l = true) :
    cellGet dflt (cellSet dflt k v l) k = v := by
  induction l with
  | nil =>
    by_cases hv : v = dflt k
    · simp [cellSet, hv, cellGet]
    · simp [cellSet, hv, cellGet]
  | cons c t ih =>
    have hw := (cellsWf_cons dflt c t).1 h
    by_cases h1 : c.1 < k
    · have hne : ¬ c.1 = k := by omega
      simp [cellSet, h1, cellGet, hne, ih hw.2.2]
    · by_cases h2 : c.1 = k
      · by_cases hv : v = dflt k
        · rw [cellSet, if_neg h1, if_pos h2, if_pos hv, cellGet_above dflt k t (h2 ▸ hw.2.1), hv]
        · rw [cellSet, if_neg h1, if_pos h2, if_neg hv]
          simp [cellGet]
      · by_cases hv : v = dflt k
        · rw [cellSet, if_neg h1, if_neg h2, if_pos hv, hv]
          apply cellGet_above
          intro d hd
          rcases List.mem_cons.1 hd with e | hd
          · subst e; omega
          · have := hw.2.1 d hd; omega
        · simp only [cellSet, h1, h2, hv, if_false]
          simp [cellGet]

theorem above_set [DecidableEq α] (b k : Nat) (v : α) (l : List (Nat × α)) (hb : b < k) (h : Above b l) :
    Above b (cellSet dflt k v l) := by
  induction l with
  | nil =>
    by_cases hv : v = dflt k <;> simp [cellSet, hv, Above, hb]
  | cons c t ih =>
    have hc : b < c.1 := h c (by simp)
    have ht : Above b t := fun d hd => h d (by simp [hd])
    intro d hd
    unfold cellSet at hd
    split at hd
    · rcases List.mem_cons.1 hd with e | hd
      · subst e; exact hc
      · exact ih ht d hd
    · split at hd
      · split at hd
        · exact ht d hd
        · rcases List.mem_cons.1 hd with e | hd
          · subst e; exact hb
          · exact ht d hd
      · split at hd
        · exact h d hd
        · rcases List.mem_cons.1 hd with e | hd
          · subst e; exact hb
          · exact h d hd

/-- A write keeps the canonical form. -/
theorem cellSet_wf [DecidableEq α] (k : Nat) (v : α) (l : List (Nat × α)) (h : cellsWf dflt l = true) :
    cellsWf dflt (cellSet dflt k v l) = true := by
  induction l with
  | nil =>
    by_cases hv : v = dflt k
    · simp [cellSet, hv, cellsWf]
    · simp [cellSet, hv, cellsWf]
  | cons c t ih =>
    have hw := (cellsWf_cons dflt c t).1 h
    unfold cellSet
    split
    · exact (cellsWf_cons dflt _ _).2 ⟨hw.1, above_set dflt _ _ _ _ (by assumption) hw.2.1, ih hw.2.2⟩
    · split
      · rename_i h2
        split
        · exact hw.2.2
        · rename_i hv
          exact (cellsWf_cons dflt _ _).2 ⟨hv, h2 ▸ hw.2.1, hw.2.2⟩
      · split
        · exact h
        · rename_i h1 h2 hv
          refine (cellsWf_cons dflt _ _).2 ⟨hv, ?_, h⟩
          intro d hd
          rcases List.mem_cons.1 hd with e | hd
          · subst e; show k < d.1; omega
          · have := hw.2.1 d hd; show k < d.1; omega

/-- Dropping entries keeps the canonical form. -/
theorem filter_wf [DecidableEq α] (f : Nat × α → Bool) (l : List (Nat × α)) (h : cellsWf dflt l = true) :
    cellsWf dflt (l.filter f) = true := by
  induction l with
  | nil => rfl
  | cons c t ih =>
    have hw := (cellsWf_cons dflt c t).1 h
    by_cases hc : f c = true
    · rw [List.filter_cons_of_pos hc]
      exact (cellsWf_cons dflt _ _).2 ⟨hw.1, fun d hd => hw.2.1 d (List.mem_filter.1 hd).1, ih hw.2.2⟩
    · rw [List.filter_cons_of_neg hc]
      exact ih hw.2.2

/-- The value at a key of a filtered canonical list. -/
theorem cellGet_filter (sel : Nat → Bool) (l : List (Nat × α)) (k : Nat) :
    cellGet dflt (l.filter (fun c => !sel c.1)) k = if sel k then dflt k else cellGet dflt l k := by
  induction l with
  | nil => simp [cellGet]
  | cons c t ih =>
    by_cases hc : sel c.1 = true
    · rw [List.filter_cons_of_neg (by simp [hc]), ih]
      by_cases hk : sel k = true
      · simp [hk]
      · have : ¬ c.1 = k := fun e => hk (e ▸ hc)
        simp [hk, cellGet, this]
    · rw [List.filter_cons_of_pos (by simp [hc])]
      by_cases hk : c.1 = k
      · have : sel k = false := by rw [← hk]; simpa using hc
        simp [cellGet, hk, this]
      · simp [cellGet, hk, ih]

end Cells

/-! ### The RAMs -/

theorem memSet_wf (m : List Host.Cell) (a : Nat) (b : Byte) (h : Memory.wf m = true) : Memory.wf (memSet m a b) = true :=
  cellSet_wf zeroByte a b m h

theorem memGet_set_same (m : List Host.Cell) (a : Nat) (b : Byte) (h : Memory.wf m = true) :
    memGet (memSet m a b) a = b := cellGet_set_same zeroByte a b m h

theorem memGet_set_other (m : List Host.Cell) (a c : Nat) (b : Byte) (h : c ≠ a) :
    memGet (memSet m a b) c = memGet m c := cellGet_set_other zeroByte a c b m h

/-- A write of `n` bytes keeps the canonical form. -/
theorem memWrite_wf (m : List Host.Cell) (a n v : Nat) (h : Memory.wf m = true) : Memory.wf (memWrite m a n v) = true := by
  induction n generalizing m a v with
  | zero => exact h
  | succ n ih => exact ih _ _ _ (memSet_wf m a _ h)

/-- A write of `n` bytes leaves every byte outside them alone. -/
theorem memGet_write_other (m : List Host.Cell) (a n v c : Nat) (h : c < a ∨ a + n ≤ c) :
    memGet (memWrite m a n v) c = memGet m c := by
  induction n generalizing m a v with
  | zero => rfl
  | succ n ih =>
    rw [memWrite, ih _ _ _ (by omega)]
    exact memGet_set_other m a c _ (by omega)

/-- The bytes written, in order, least significant first (spec/00_scope.md R10). -/
theorem memRead_write (m : List Host.Cell) (a n v : Nat) (h : Memory.wf m = true) :
    memRead (memWrite m a n v) a n = v % 256 ^ n := by
  induction n generalizing m a v with
  | zero => simp [memRead, Nat.mod_one]
  | succ n ih =>
    rw [memRead, memWrite, ih _ _ _ (memSet_wf m a _ h), memGet_write_other _ _ _ _ _ (by omega),
      memGet_set_same m a _ h]
    have e : 256 ^ (n + 1) = 256 * 256 ^ n := by rw [Nat.pow_succ, Nat.mul_comm]
    rw [e, Nat.mod_mul]
    rfl

end Sys2Proof.Machine
end

