-- ==== Sys2Proof/Laws/Fields.lean ====
section
/-!
SUPPORT. Register fields: a field written reads what was written, every other field and every other register is left
alone.
-/

namespace Sys2Proof.Machine

open Sys2Proof

/-! ### Bits -/

theorem testBit_bits (w lo len i : Nat) : (bits w lo len).testBit i = (decide (i < len) && w.testBit (lo + i)) := by
  rw [bits, Nat.testBit_mod_two_pow, Nat.testBit_div_two_pow, Nat.add_comm]

/-- Every bit of a value with a field replaced. -/
theorem testBit_putBits (w : Word) (lo len v i : Nat) (h : i < 32) :
    (putBits w lo len v).toNat.testBit i
      = if lo ≤ i ∧ i < lo + len then v.testBit (i - lo) else w.toNat.testBit i := by
  rw [BitVec.testBit_toNat, BitVec.testBit_toNat]
  simp only [putBits, BitVec.getLsbD_or, BitVec.getLsbD_and, BitVec.getLsbD_not, BitVec.getLsbD_ofNat, h,
    decide_true, Bool.true_and, Nat.testBit_mul_two_pow, Nat.testBit_mod_two_pow]
  by_cases h1 : lo ≤ i
  · by_cases h2 : i < lo + len
    · have : i - lo < len := by omega
      simp [h1, h2, this]
    · have : ¬ i - lo < len := by omega
      simp [h2, this]
  · simp [h1]

/-- A field replaced reads what was put there. -/
theorem bits_putBits_same (w : Word) (lo len v : Nat) (h : lo + len ≤ 32) :
    bits (putBits w lo len v).toNat lo len = v % 2 ^ len := by
  apply Nat.eq_of_testBit_eq
  intro i
  rw [testBit_bits, Nat.testBit_mod_two_pow]
  by_cases hi : i < len
  · rw [testBit_putBits _ _ _ _ _ (by omega), if_pos (by omega)]
    simp [hi]
  · simp [hi]

/-- A field that does not meet the one replaced keeps its value. -/
theorem bits_putBits_other (w : Word) (lo len v a n : Nat) (h : a + n ≤ 32) (hd : a + n ≤ lo ∨ lo + len ≤ a) :
    bits (putBits w lo len v).toNat a n = bits w.toNat a n := by
  apply Nat.eq_of_testBit_eq
  intro i
  rw [testBit_bits, testBit_bits]
  by_cases hi : i < n
  · rw [testBit_putBits _ _ _ _ _ (by omega), if_neg (by omega)]
  · simp [hi]

theorem bits_lt (w lo len : Nat) : bits w lo len < 2 ^ len := Nat.mod_lt _ (Nat.two_pow_pos len)

theorem bitAt_eq_testBit (w i : Nat) : bitAt w i = w.testBit i := by
  have h : bits w i 1 = (w.testBit i).toNat := by
    apply Nat.eq_of_testBit_eq
    intro j
    rw [testBit_bits]
    cases j with
    | zero => cases w.testBit i <;> simp
    | succ j => cases w.testBit i <;> simp [Nat.testBit_succ]
  cases hb : w.testBit i <;> simp [bitAt, h, hb]

/-! ### Registers -/

variable (s : State)

/-- The registers are in canonical form. -/
def State.RegsWf : Prop := cellsWf resetValue s.regs = true

theorem reg_setReg_same (o : Nat) (v : Word) (h : s.RegsWf) : (s.setReg o v).reg o = v :=
  cellGet_set_same resetValue o v s.regs h

theorem reg_setReg_other (o p : Nat) (v : Word) (h : p ≠ o) : (s.setReg o v).reg p = s.reg p :=
  cellGet_set_other resetValue o p v s.regs h

theorem setReg_wf (o : Nat) (v : Word) (h : s.RegsWf) : (s.setReg o v).RegsWf := cellSet_wf resetValue o v s.regs h

theorem setFld_wf (o lo len v : Nat) (h : s.RegsWf) : (s.setFld o lo len v).RegsWf := setReg_wf s _ _ h

theorem cause_wf (page i : Nat) (h : s.RegsWf) : (s.cause page i).RegsWf := setFld_wf s _ _ _ _ h

theorem causeIf_wf (c : Bool) (page i : Nat) (h : s.RegsWf) : (s.causeIf c page i).RegsWf := by
  cases c
  · exact h
  · exact cause_wf s page i h

theorem satF_wf (o lo len n : Nat) (h : s.RegsWf) : (s.satF o lo len n).RegsWf := setFld_wf s _ _ _ _ h

theorem wrap_wf (o n : Nat) (h : s.RegsWf) : (s.wrap o n).RegsWf := setReg_wf s _ _ h

theorem resetRegs_wf (sel : Nat → Bool) (h : s.RegsWf) : (s.resetRegs sel).RegsWf := filter_wf resetValue _ s.regs h

/-- A register reset with others reads its Reset value; the rest keep theirs. -/
theorem reg_resetRegs (sel : Nat → Bool) (o : Nat) :
    (s.resetRegs sel).reg o = if sel o then resetValue o else s.reg o := cellGet_filter resetValue sel s.regs o

theorem reg_clearRegs (l : List Nat) (o : Nat) :
    (s.clearRegs l).reg o = if o ∈ l then resetValue o else s.reg o := by
  rw [State.clearRegs, reg_resetRegs]
  by_cases h : o ∈ l <;> simp [h]

theorem fld_setFld_same (o lo len v : Nat) (h : s.RegsWf) (hl : lo + len ≤ 32) :
    (s.setFld o lo len v).fld o lo len = v % 2 ^ len := by
  rw [State.fld, State.setFld, reg_setReg_same s _ _ h, bits_putBits_same _ _ _ _ hl]

theorem fld_setFld_other (o lo len v a n : Nat) (h : s.RegsWf) (ha : a + n ≤ 32) (hd : a + n ≤ lo ∨ lo + len ≤ a) :
    (s.setFld o lo len v).fld o a n = s.fld o a n := by
  rw [State.fld, State.setFld, reg_setReg_same s _ _ h, bits_putBits_other _ _ _ _ _ _ ha hd, State.fld]

theorem reg_setFld_other (o lo len v p : Nat) (h : p ≠ o) : (s.setFld o lo len v).reg p = s.reg p :=
  reg_setReg_other s _ _ _ h

theorem reg_cause_other (page i p : Nat) (h : p ≠ at_ page 8) : (s.cause page i).reg p = s.reg p :=
  reg_setFld_other s _ _ _ _ _ h

/-- A cause set reads 1. -/
theorem flag_cause_same (page i : Nat) (h : s.RegsWf) (hi : i < 32) : (s.cause page i).flag (at_ page 8) i = true := by
  have e := fld_setFld_same s (at_ page 8) i 1 1 h (by omega)
  simp only [State.fld] at e
  show (s.setFld (at_ page 8) i 1 1).flag (at_ page 8) i = true
  simp [State.flag, bitAt, e]

/-- Setting one cause leaves the other bits of the register alone. -/
theorem flag_cause_other (page i j : Nat) (h : s.RegsWf) (hj : j < 32) (hij : j ≠ i) :
    (s.cause page i).flag (at_ page 8) j = s.flag (at_ page 8) j := by
  have e := fld_setFld_other s (at_ page 8) i 1 1 j 1 h (by omega) (by omega)
  simp only [State.fld] at e
  show (s.setFld (at_ page 8) i 1 1).flag (at_ page 8) j = s.flag (at_ page 8) j
  simp only [State.flag, bitAt, e]

theorem flag_other (u : State) (o i : Nat) (h : u.reg o = s.reg o) : u.flag o i = s.flag o i := by
  rw [State.flag, State.flag, h]

theorem fld_other (u : State) (o lo len : Nat) (h : u.reg o = s.reg o) : u.fld o lo len = s.fld o lo len := by
  rw [State.fld, State.fld, h]

end Sys2Proof.Machine
end

