-- ==== Sys2Proof/Laws/Settle.lean ====
section
/-!
SUPPORT. What every meaning ends with (`done`), what every register write passes (`gate`), and how frames compose.
-/

namespace Sys2Proof.Machine

open Sys2Proof

/-! ### A fold keeps what each of its steps keeps -/

theorem forAll_keeps {α β : Type} (g : State → β) (l : List α) (f : State → α → State)
    (h : ∀ t a, g (f t a) = g t) (s : State) : g (s.forAll l f) = g s := by
  induction l generalizing s with
  | nil => rfl
  | cons a l ih => exact (ih (f s a)).trans (h s a)

theorem forAll_inv {α : Type} (P : State → Prop) (l : List α) (f : State → α → State)
    (h : ∀ t a, P t → P (f t a)) (s : State) (hs : P s) : P (s.forAll l f) := by
  induction l generalizing s with
  | nil => exact hs
  | cons a l ih => exact ih (f s a) (h s a hs)

/-! ### settle and slicesReady, field by field -/

@[simp] theorem settle_pending (s : State) : (settle s).pending = s.pending := by
  unfold settle; split <;> rfl
@[simp] theorem settle_now (s : State) : (settle s).now = s.now := by
  unfold settle; split <;> rfl
@[simp] theorem settle_nextId (s : State) : (settle s).nextId = s.nextId := by
  unfold settle; split <;> rfl
@[simp] theorem settle_ordinal (s : State) : (settle s).ordinal = s.ordinal := by
  unfold settle; split <;> rfl
@[simp] theorem settle_free (s : State) : (settle s).free = s.free := by
  unfold settle; split <;> rfl
@[simp] theorem settle_regs (s : State) : (settle s).regs = s.regs := by
  unfold settle; split <;> rfl
@[simp] theorem settle_causesNow (s : State) : (settle s).causesNow = s.causesNow := by
  unfold settle; split <;> rfl
@[simp] theorem settle_seq (s : State) : (settle s).seq = s.seq := by
  unfold settle; split <;> rfl
@[simp] theorem settle_dtime (s : State) : (settle s).dtime = s.dtime := by
  unfold settle; split <;> rfl
@[simp] theorem settle_dphase (s : State) : (settle s).dphase = s.dphase := by
  unfold settle; split <;> rfl
@[simp] theorem settle_qps (s : State) : (settle s).qps = s.qps := by
  unfold settle; split <;> rfl
@[simp] theorem settle_wis (s : State) : (settle s).wis = s.wis := by
  unfold settle; split <;> rfl
@[simp] theorem settle_park (s : State) : (settle s).park = s.park := by
  unfold settle; split <;> rfl
@[simp] theorem settle_events (s : State) : (settle s).events = s.events := by
  unfold settle; split <;> rfl
@[simp] theorem settle_visitPtr (s : State) : (settle s).visitPtr = s.visitPtr := by
  unfold settle; split <;> rfl
@[simp] theorem settle_perPtr (s : State) : (settle s).perPtr = s.perPtr := by
  unfold settle; split <;> rfl
@[simp] theorem settle_rrPtr (s : State) : (settle s).rrPtr = s.rrPtr := by
  unfold settle; split <;> rfl
@[simp] theorem settle_wisPeak (s : State) : (settle s).wisPeak = s.wisPeak := by
  unfold settle; split <;> rfl
@[simp] theorem settle_flowPeak (s : State) : (settle s).flowPeak = s.flowPeak := by
  unfold settle; split <;> rfl
@[simp] theorem settle_pfPeak (s : State) : (settle s).pfPeak = s.pfPeak := by
  unfold settle; split <;> rfl
@[simp] theorem settle_poolPeak (s : State) : (settle s).poolPeak = s.poolPeak := by
  unfold settle; split <;> rfl
@[simp] theorem settle_poolWaits (s : State) : (settle s).poolWaits = s.poolWaits := by
  unfold settle; split <;> rfl
@[simp] theorem settle_engs (s : State) : (settle s).engs = s.engs := by
  unfold settle; split <;> rfl
@[simp] theorem settle_ctxs (s : State) : (settle s).ctxs = s.ctxs := by
  unfold settle; split <;> rfl
@[simp] theorem settle_closed (s : State) : (settle s).closed = s.closed := by
  unfold settle; split <;> rfl
@[simp] theorem settle_flushing (s : State) : (settle s).flushing = s.flushing := by
  unfold settle; split <;> rfl
@[simp] theorem settle_ports (s : State) : (settle s).ports = s.ports := by
  unfold settle; split <;> rfl
@[simp] theorem settle_clks (s : State) : (settle s).clks = s.clks := by
  unfold settle; split <;> rfl
@[simp] theorem settle_refClk (s : State) : (settle s).refClk = s.refClk := by
  unfold settle; split <;> rfl
@[simp] theorem settle_husks (s : State) : (settle s).husks = s.husks := by
  unfold settle; split <;> rfl
@[simp] theorem settle_regions (s : State) : (settle s).regions = s.regions := by
  unfold settle; split <;> rfl
@[simp] theorem settle_gaps (s : State) : (settle s).gaps = s.gaps := by
  unfold settle; split <;> rfl
@[simp] theorem settle_overRuns (s : State) : (settle s).overRuns = s.overRuns := by
  unfold settle; split <;> rfl
@[simp] theorem settle_slices (s : State) : (settle s).slices = s.slices := by
  unfold settle; split <;> rfl
@[simp] theorem settle_dmchs (s : State) : (settle s).dmchs = s.dmchs := by
  unfold settle; split <;> rfl
@[simp] theorem settle_dms (s : State) : (settle s).dms = s.dms := by
  unfold settle; split <;> rfl
@[simp] theorem settle_cfs (s : State) : (settle s).cfs = s.cfs := by
  unfold settle; split <;> rfl
@[simp] theorem settle_doms (s : State) : (settle s).doms = s.doms := by
  unfold settle; split <;> rfl
@[simp] theorem settle_store (s : State) : (settle s).store = s.store := by
  unfold settle; split <;> rfl
@[simp] theorem settle_fw (s : State) : (settle s).fw = s.fw := by
  unfold settle; split <;> rfl
@[simp] theorem settle_ctl (s : State) : (settle s).ctl = s.ctl := by
  unfold settle; split <;> rfl
@[simp] theorem settle_pci (s : State) : (settle s).pci = s.pci := by
  unfold settle; split <;> rfl
@[simp] theorem settle_tap (s : State) : (settle s).tap = s.tap := by
  unfold settle; split <;> rfl
@[simp] theorem settle_posted (s : State) : (settle s).posted = s.posted := by
  unfold settle; split <;> rfl
@[simp] theorem settle_reads (s : State) : (settle s).reads = s.reads := by
  unfold settle; split <;> rfl
@[simp] theorem settle_late (s : State) : (settle s).late = s.late := by
  unfold settle; split <;> rfl
@[simp] theorem settle_latches (s : State) : (settle s).latches = s.latches := by
  unfold settle; split <;> rfl
@[simp] theorem settle_rd (s : State) : (settle s).rd = s.rd := by
  unfold settle; split <;> rfl
@[simp] theorem slicesReady_pending (s : State) : s.slicesReady.pending = s.pending :=
  forAll_keeps (fun t => t.pending) _ _ (fun t i => by split <;> rfl) s
@[simp] theorem slicesReady_now (s : State) : s.slicesReady.now = s.now :=
  forAll_keeps (fun t => t.now) _ _ (fun t i => by split <;> rfl) s
@[simp] theorem slicesReady_nextId (s : State) : s.slicesReady.nextId = s.nextId :=
  forAll_keeps (fun t => t.nextId) _ _ (fun t i => by split <;> rfl) s
@[simp] theorem slicesReady_ordinal (s : State) : s.slicesReady.ordinal = s.ordinal :=
  forAll_keeps (fun t => t.ordinal) _ _ (fun t i => by split <;> rfl) s
@[simp] theorem slicesReady_free (s : State) : s.slicesReady.free = s.free :=
  forAll_keeps (fun t => t.free) _ _ (fun t i => by split <;> rfl) s
@[simp] theorem slicesReady_regs (s : State) : s.slicesReady.regs = s.regs :=
  forAll_keeps (fun t => t.regs) _ _ (fun t i => by split <;> rfl) s
/-- The end of a slice's reset sets causes of slice windows only. -/
theorem slicesReady_causesNow (s : State) : ∀ c ∈ s.slicesReady.causesNow, c ∈ s.causesNow ∨ 512 ≤ c.1 := by
  refine forAll_inv (fun t => ∀ c ∈ t.causesNow, c ∈ s.causesNow ∨ 512 ≤ c.1) _ _ ?_ s (fun c hc => .inl hc)
  intro t i ht c hc
  split at hc
  · rcases List.mem_cons.mp hc with rfl | h
    · exact .inr (Nat.le_add_right 512 i.val)
    · exact ht c h
  · exact ht c hc
@[simp] theorem slicesReady_seq (s : State) : s.slicesReady.seq = s.seq :=
  forAll_keeps (fun t => t.seq) _ _ (fun t i => by split <;> rfl) s
@[simp] theorem slicesReady_dtime (s : State) : s.slicesReady.dtime = s.dtime :=
  forAll_keeps (fun t => t.dtime) _ _ (fun t i => by split <;> rfl) s
@[simp] theorem slicesReady_dphase (s : State) : s.slicesReady.dphase = s.dphase :=
  forAll_keeps (fun t => t.dphase) _ _ (fun t i => by split <;> rfl) s
@[simp] theorem slicesReady_qps (s : State) : s.slicesReady.qps = s.qps :=
  forAll_keeps (fun t => t.qps) _ _ (fun t i => by split <;> rfl) s
@[simp] theorem slicesReady_wis (s : State) : s.slicesReady.wis = s.wis :=
  forAll_keeps (fun t => t.wis) _ _ (fun t i => by split <;> rfl) s
@[simp] theorem slicesReady_park (s : State) : s.slicesReady.park = s.park :=
  forAll_keeps (fun t => t.park) _ _ (fun t i => by split <;> rfl) s
@[simp] theorem slicesReady_events (s : State) : s.slicesReady.events = s.events :=
  forAll_keeps (fun t => t.events) _ _ (fun t i => by split <;> rfl) s
@[simp] theorem slicesReady_visitPtr (s : State) : s.slicesReady.visitPtr = s.visitPtr :=
  forAll_keeps (fun t => t.visitPtr) _ _ (fun t i => by split <;> rfl) s
@[simp] theorem slicesReady_perPtr (s : State) : s.slicesReady.perPtr = s.perPtr :=
  forAll_keeps (fun t => t.perPtr) _ _ (fun t i => by split <;> rfl) s
@[simp] theorem slicesReady_rrPtr (s : State) : s.slicesReady.rrPtr = s.rrPtr :=
  forAll_keeps (fun t => t.rrPtr) _ _ (fun t i => by split <;> rfl) s
@[simp] theorem slicesReady_wisPeak (s : State) : s.slicesReady.wisPeak = s.wisPeak :=
  forAll_keeps (fun t => t.wisPeak) _ _ (fun t i => by split <;> rfl) s
@[simp] theorem slicesReady_flowPeak (s : State) : s.slicesReady.flowPeak = s.flowPeak :=
  forAll_keeps (fun t => t.flowPeak) _ _ (fun t i => by split <;> rfl) s
@[simp] theorem slicesReady_pfPeak (s : State) : s.slicesReady.pfPeak = s.pfPeak :=
  forAll_keeps (fun t => t.pfPeak) _ _ (fun t i => by split <;> rfl) s
@[simp] theorem slicesReady_poolPeak (s : State) : s.slicesReady.poolPeak = s.poolPeak :=
  forAll_keeps (fun t => t.poolPeak) _ _ (fun t i => by split <;> rfl) s
@[simp] theorem slicesReady_poolWaits (s : State) : s.slicesReady.poolWaits = s.poolWaits :=
  forAll_keeps (fun t => t.poolWaits) _ _ (fun t i => by split <;> rfl) s
@[simp] theorem slicesReady_engs (s : State) : s.slicesReady.engs = s.engs :=
  forAll_keeps (fun t => t.engs) _ _ (fun t i => by split <;> rfl) s
@[simp] theorem slicesReady_ctxs (s : State) : s.slicesReady.ctxs = s.ctxs :=
  forAll_keeps (fun t => t.ctxs) _ _ (fun t i => by split <;> rfl) s
@[simp] theorem slicesReady_closed (s : State) : s.slicesReady.closed = s.closed :=
  forAll_keeps (fun t => t.closed) _ _ (fun t i => by split <;> rfl) s
@[simp] theorem slicesReady_flushing (s : State) : s.slicesReady.flushing = s.flushing :=
  forAll_keeps (fun t => t.flushing) _ _ (fun t i => by split <;> rfl) s
@[simp] theorem slicesReady_ports (s : State) : s.slicesReady.ports = s.ports :=
  forAll_keeps (fun t => t.ports) _ _ (fun t i => by split <;> rfl) s
@[simp] theorem slicesReady_clks (s : State) : s.slicesReady.clks = s.clks :=
  forAll_keeps (fun t => t.clks) _ _ (fun t i => by split <;> rfl) s
@[simp] theorem slicesReady_refClk (s : State) : s.slicesReady.refClk = s.refClk :=
  forAll_keeps (fun t => t.refClk) _ _ (fun t i => by split <;> rfl) s
@[simp] theorem slicesReady_husks (s : State) : s.slicesReady.husks = s.husks :=
  forAll_keeps (fun t => t.husks) _ _ (fun t i => by split <;> rfl) s
@[simp] theorem slicesReady_regions (s : State) : s.slicesReady.regions = s.regions :=
  forAll_keeps (fun t => t.regions) _ _ (fun t i => by split <;> rfl) s
@[simp] theorem slicesReady_gaps (s : State) : s.slicesReady.gaps = s.gaps :=
  forAll_keeps (fun t => t.gaps) _ _ (fun t i => by split <;> rfl) s
@[simp] theorem slicesReady_overRuns (s : State) : s.slicesReady.overRuns = s.overRuns :=
  forAll_keeps (fun t => t.overRuns) _ _ (fun t i => by split <;> rfl) s
@[simp] theorem slicesReady_dmchs (s : State) : s.slicesReady.dmchs = s.dmchs :=
  forAll_keeps (fun t => t.dmchs) _ _ (fun t i => by split <;> rfl) s
@[simp] theorem slicesReady_dms (s : State) : s.slicesReady.dms = s.dms :=
  forAll_keeps (fun t => t.dms) _ _ (fun t i => by split <;> rfl) s
@[simp] theorem slicesReady_cfs (s : State) : s.slicesReady.cfs = s.cfs :=
  forAll_keeps (fun t => t.cfs) _ _ (fun t i => by split <;> rfl) s
@[simp] theorem slicesReady_doms (s : State) : s.slicesReady.doms = s.doms :=
  forAll_keeps (fun t => t.doms) _ _ (fun t i => by split <;> rfl) s
@[simp] theorem slicesReady_store (s : State) : s.slicesReady.store = s.store :=
  forAll_keeps (fun t => t.store) _ _ (fun t i => by split <;> rfl) s
@[simp] theorem slicesReady_fw (s : State) : s.slicesReady.fw = s.fw :=
  forAll_keeps (fun t => t.fw) _ _ (fun t i => by split <;> rfl) s
@[simp] theorem slicesReady_ctl (s : State) : s.slicesReady.ctl = s.ctl :=
  forAll_keeps (fun t => t.ctl) _ _ (fun t i => by split <;> rfl) s
@[simp] theorem slicesReady_pci (s : State) : s.slicesReady.pci = s.pci :=
  forAll_keeps (fun t => t.pci) _ _ (fun t i => by split <;> rfl) s
@[simp] theorem slicesReady_tap (s : State) : s.slicesReady.tap = s.tap :=
  forAll_keeps (fun t => t.tap) _ _ (fun t i => by split <;> rfl) s
@[simp] theorem slicesReady_posted (s : State) : s.slicesReady.posted = s.posted :=
  forAll_keeps (fun t => t.posted) _ _ (fun t i => by split <;> rfl) s
@[simp] theorem slicesReady_reads (s : State) : s.slicesReady.reads = s.reads :=
  forAll_keeps (fun t => t.reads) _ _ (fun t i => by split <;> rfl) s
@[simp] theorem slicesReady_late (s : State) : s.slicesReady.late = s.late :=
  forAll_keeps (fun t => t.late) _ _ (fun t i => by split <;> rfl) s
@[simp] theorem slicesReady_latches (s : State) : s.slicesReady.latches = s.latches :=
  forAll_keeps (fun t => t.latches) _ _ (fun t i => by split <;> rfl) s
@[simp] theorem slicesReady_rd (s : State) : s.slicesReady.rd = s.rd :=
  forAll_keeps (fun t => t.rd) _ _ (fun t i => by split <;> rfl) s
@[simp] theorem slicesReady_att (s : State) : s.slicesReady.att = s.att :=
  forAll_keeps (fun t => t.att) _ _ (fun t i => by split <;> rfl) s

/-! ### The end of a meaning -/

/-- Every slice is as it was, or its reset is over. -/
theorem slicesReady_kept (s : State) (i : SliceId) : SliceKept s.slices[i] s.slicesReady.slices[i] := by
  refine forAll_inv (fun t => SliceKept s.slices[i] t.slices[i]) _ _ ?_ s (.inl rfl)
  intro t j ht
  split
  · rename_i hc
    by_cases e : i = j
    · subst e
      rw [winCauseSet_same, modSlice_same]
      rcases ht with h | ⟨_, h⟩
      · rw [h] at hc ⊢
        exact .inr ⟨hc.1, rfl⟩
      · rw [h] at hc
        exact absurd hc.1 (by simp)
    · rw [winCauseSet_other _ _ _ _ e, modSlice_other _ _ _ _ e]
      exact ht
  · exact ht

/-- A slice whose reset is not running is left alone. -/
theorem slicesReady_other (s : State) (i : SliceId) (h : s.slices[i].st ≠ .resetting) :
    s.slicesReady.slices[i] = s.slices[i] := by
  rcases slicesReady_kept s i with e | ⟨e, _⟩
  · exact e
  · exact absurd e h

/-- What a meaning leaves is what it computed, but for slices whose reset is over, and attention. -/
theorem only_done (l : List Part) (s u : State) (h : Only l s u) (hs : Part.slices ∉ l → u.slices = s.slices) :
    Only l s (settle u.slicesReady) := by
  intro p hp
  have hh := h p hp
  cases p
  case pending => exact (settle_pending _).trans ((slicesReady_pending u).trans hh)
  case now => exact (settle_now _).trans ((slicesReady_now u).trans hh)
  case nextId => exact (settle_nextId _).trans ((slicesReady_nextId u).trans hh)
  case ordinal => exact (settle_ordinal _).trans ((slicesReady_ordinal u).trans hh)
  case free => exact (settle_free _).trans ((slicesReady_free u).trans hh)
  case regs =>
    refine ⟨(settle_regs _).trans ((slicesReady_regs u).trans hh.1), fun c hc => ?_⟩
    rw [settle_causesNow] at hc
    rcases slicesReady_causesNow u c hc with h | h
    · exact hh.2 c h
    · exact .inr h
  case seq => exact (settle_seq _).trans ((slicesReady_seq u).trans hh)
  case dtime => exact (settle_dtime _).trans ((slicesReady_dtime u).trans hh)
  case dphase => exact (settle_dphase _).trans ((slicesReady_dphase u).trans hh)
  case qps => exact (settle_qps _).trans ((slicesReady_qps u).trans hh)
  case wis => exact (settle_wis _).trans ((slicesReady_wis u).trans hh)
  case park => exact (settle_park _).trans ((slicesReady_park u).trans hh)
  case events => exact (settle_events _).trans ((slicesReady_events u).trans hh)
  case visitPtr => exact (settle_visitPtr _).trans ((slicesReady_visitPtr u).trans hh)
  case perPtr => exact (settle_perPtr _).trans ((slicesReady_perPtr u).trans hh)
  case rrPtr => exact (settle_rrPtr _).trans ((slicesReady_rrPtr u).trans hh)
  case wisPeak => exact (settle_wisPeak _).trans ((slicesReady_wisPeak u).trans hh)
  case flowPeak => exact (settle_flowPeak _).trans ((slicesReady_flowPeak u).trans hh)
  case pfPeak => exact (settle_pfPeak _).trans ((slicesReady_pfPeak u).trans hh)
  case poolPeak => exact (settle_poolPeak _).trans ((slicesReady_poolPeak u).trans hh)
  case poolWaits => exact (settle_poolWaits _).trans ((slicesReady_poolWaits u).trans hh)
  case engs => exact (settle_engs _).trans ((slicesReady_engs u).trans hh)
  case ctxs => exact (settle_ctxs _).trans ((slicesReady_ctxs u).trans hh)
  case closed => exact (settle_closed _).trans ((slicesReady_closed u).trans hh)
  case flushing => exact (settle_flushing _).trans ((slicesReady_flushing u).trans hh)
  case ports => exact (settle_ports _).trans ((slicesReady_ports u).trans hh)
  case clks => exact (settle_clks _).trans ((slicesReady_clks u).trans hh)
  case refClk => exact (settle_refClk _).trans ((slicesReady_refClk u).trans hh)
  case husks => exact (settle_husks _).trans ((slicesReady_husks u).trans hh)
  case regions => exact (settle_regions _).trans ((slicesReady_regions u).trans hh)
  case gaps => exact (settle_gaps _).trans ((slicesReady_gaps u).trans hh)
  case overRuns => exact (settle_overRuns _).trans ((slicesReady_overRuns u).trans hh)
  case slices =>
    intro i
    rw [settle_slices]
    have hk := slicesReady_kept u i
    rwa [hs hp] at hk
  case dmchs => exact (settle_dmchs _).trans ((slicesReady_dmchs u).trans hh)
  case dms => exact (settle_dms _).trans ((slicesReady_dms u).trans hh)
  case cfs => exact (settle_cfs _).trans ((slicesReady_cfs u).trans hh)
  case doms => exact (settle_doms _).trans ((slicesReady_doms u).trans hh)
  case store => exact (settle_store _).trans ((slicesReady_store u).trans hh)
  case fw => exact (settle_fw _).trans ((slicesReady_fw u).trans hh)
  case ctl => exact (settle_ctl _).trans ((slicesReady_ctl u).trans hh)
  case pci => exact (settle_pci _).trans ((slicesReady_pci u).trans hh)
  case tap => exact (settle_tap _).trans ((slicesReady_tap u).trans hh)
  case posted => exact (settle_posted _).trans ((slicesReady_posted u).trans hh)
  case reads => exact (settle_reads _).trans ((slicesReady_reads u).trans hh)
  case late => exact (settle_late _).trans ((slicesReady_late u).trans hh)
  case latches => exact (settle_latches _).trans ((slicesReady_latches u).trans hh)
  case rd => exact (settle_rd _).trans ((slicesReady_rd u).trans hh)

theorem settle_reg (s : State) (o : Nat) : (settle s).reg o = s.reg o := by simp [State.reg]

theorem slicesReady_reg (s : State) (o : Nat) : s.slicesReady.reg o = s.reg o := by simp [State.reg]

theorem settle_clk (s : State) (k : ClkId) : (settle s).clk k = s.clk k := by cases k <;> simp [State.clk]

theorem slicesReady_clk (s : State) (k : ClkId) : s.slicesReady.clk k = s.clk k := by cases k <;> simp [State.clk]

/-- A meaning answers the settled state. -/
theorem done_next (u : State) (P : State → Prop) (h : P (settle u.slicesReady)) : ∃ t, done u = .next t ∧ P t :=
  ⟨_, rfl, h⟩

/-! ### The gate of register writes -/

/-- A write that takes effect does what its register does. -/
theorem gate_takes (s : State) (src : Source) (page o : Nat) (act : State → State) (h : s.Takes src page o) :
    s.gate src page o act = act s := by
  obtain ⟨h0, h1, h2, h3⟩ := h
  cases src with
  | win i =>
    obtain ⟨h4, h5, h6⟩ := h3
    simp [State.gate, State.gateIn, h0, h1, h2, State.winGate, h4, h5, h6, -Fin.getElem_fin]
  | bar0 =>
    have h4 : mayWrite .bar0 page o = true := h3
    simp [State.gate, State.gateIn, h0, h1, h2, h4]
  | smbus =>
    have h4 : mayWrite .smbus page o = true := h3
    simp [State.gate, State.gateIn, h0, h1, h2, h4]
  | mc =>
    have h4 : mayWrite .mc page o = true := h3
    simp [State.gate, State.gateIn, h0, h1, h2, h4]

/-- A write while the control die is held in reset has no effect. -/
theorem gate_held (s : State) (src : Source) (page o : Nat) (act : State → State) (h : s.held = true) :
    s.gate src page o act = s := by simp [State.gate, State.gateIn, h]

/-- A write that does not reach the registers has no effect. -/
theorem gate_unreached (s : State) (src : Source) (page o : Nat) (act : State → State) (h : s.reaches src = false) :
    s.gate src page o act = s := by simp [State.gate, h]

/-- A write of a block that is off is dropped and recorded. -/
theorem gate_off (s : State) (src : Source) (page o : Nat) (act : State → State) (hr : s.reaches src = true)
    (h : s.held = false) (ho : s.blockOff (blockOf page) = true) : s.gate src page o act = s.accOff src page := by
  simp [State.gate, State.gateIn, hr, h, ho]

/-! ### Frames -/

theorem only_refl (l : List Part) (s : State) : Only l s s := by
  intro p _
  cases p <;> first | exact fun i => .inl rfl | exact ⟨rfl, fun c hc => .inl hc⟩ | rfl

theorem only_mono {l m : List Part} {s t : State} (h : Only l s t) (hm : ∀ p ∈ l, p ∈ m) : Only m s t :=
  fun p hp => h p (fun hl => hp (hm p hl))

theorem regsBut_refl (l : List Nat) (s : State) : RegsBut l s s := fun _ _ => rfl

theorem regsBut_trans {l : List Nat} {s t u : State} (h : RegsBut l s t) (k : RegsBut l t u) : RegsBut l s u :=
  fun o ho => (k o ho).trans (h o ho)

theorem regsBut_setReg (l : List Nat) (s : State) (o : Nat) (v : Word) (h : o ∈ l) : RegsBut l s (s.setReg o v) :=
  fun p hp => reg_setReg_other s o p v (fun e => hp (e ▸ h))

theorem regsBut_cause (l : List Nat) (s : State) (page i : Nat) (h : at_ page 8 ∈ l) : RegsBut l s (s.cause page i) :=
  regsBut_setReg l s _ _ h

theorem regsBut_done (l : List Nat) (s u : State) (h : RegsBut l s u) : RegsBut l s (settle u.slicesReady) :=
  fun o ho => by rw [settle_reg, slicesReady_reg]; exact h o ho

theorem allBut_vset {α : Type} {n : Nat} (i : Fin n) (v : Vector α n) (x : α) : AllBut i v (vset v i x) :=
  fun j hj => vset_other v i j x hj

end Sys2Proof.Machine
end

