-- ==== Sys2Proof/Tests/Slice0.lean ====
section
/-!
SUPPORT. Tests. First a working board to start from and small lemmas that let a computation answer for the named
conditions of Safety.lean; then a term that each check of WellFormed refuses; then single effects, with values worked
out from the rules of spec/ by hand; last, for every statement, operands and a state that meet its hypotheses, clause by
clause.
-/

namespace Sys2Proof.Tests

open Sys2Proof Sys2Proof.Machine

set_option Elab.async false

/-- A board in use: the control die out of reset, the PCI Express link up, the management controller running and the
four region links up. -/
def up : State := { State.reset with
  ctl := { Ctl.init with pllLock := true }
  pci := { Pci.init with ready := true, training := false }
  fw := { Fw.init with mc := .running, served := true }
  regions := Vector.replicate 4 { Region.init with
    linkUp := true, closed := true, everConnected := true, running := true, copied := true }
  doms := Vector.replicate 20 (Dom.init true) }

/-- An item of queue pair 0, ready. -/
def wItem : Item :=
  { id := 0, qp := 0, owner := none, gen := 0, entry := 0, segs := [], idx := 0, cnt := 1, st := .ready,
    retire := none, failed := false, evOk := true, ending := none, storedAt := 0, readyAt := 0, readyNo := 0,
    binned := false, aged := false, guarded := false, cutoffAt := 0, svcAt := 0, pipAt := 0, freshGen := false,
    noSnoop := false, x := Xfer.init }

/-- An endpoint context of port 0: device 0, bulk OUT endpoint 0. -/
def wCtx : Ctx :=
  { port := 0, addr := 0, ep := 0, dir := false, owner := none, gen := 0, halted := false, typ := 2, speed := 0,
    toggle := false, mult := 0, interval := 0, mps := 512, hubAddr := 0, hubPort := 0, phase := 0, splitY := 0,
    charge := 0, bufId := 0, granules := 0, iface := 0, devSpeed := 0, nextAt := 0, svcAt := 0, svcUsed := 0,
    errs := 0, snooped := false, block := 0, dirty := false, cached := true, used := 0 }

/-- The board with these items stored and these contexts open. -/
def board (items : List Item) (ctxs : List Ctx) : State := { up with wis := items, ctxs := ctxs }

/-- A state is in canonical form when its stores compute so. -/
theorem canonical_of (s : State) (h : (cellsWf resetValue s.regs && Memory.wf s.fw.buf && Memory.wf s.store.slot &&
    Memory.wf s.store.fixed && (List.finRange 4).all (fun e => Memory.wf s.dms[e].ram) &&
    (List.finRange 2).all (fun b => Memory.wf s.fw.ustore[b] && Memory.wf s.fw.sram[b]) &&
    s.latches.all (fun l => latchKey l.1 l.2.1)) = true) :
    s.Canonical := by
  simp only [Bool.and_eq_true, List.all_eq_true] at h
  exact ⟨h.1.1.1.1.1.1, fun e => h.1.1.2 e (List.mem_finRange e), h.1.1.1.1.1.2, h.1.1.1.1.2, h.1.1.1.2,
    fun b => h.1.2 b (List.mem_finRange b), h.2⟩

/-- An item is live when its generations compute so. -/
theorem live_of (s : State) (it : Item) (h : (!it.freshGen && it.gen == s.genOf it.owner &&
    !s.recordStale it.owner it.gen) = true) : s.Live it := by
  simpa [State.Live, and_assoc] using h

/-- A region hears the control die when its link and the die compute so. -/
theorem told_of (s : State) (m : RegId) (h : (s.regions[m].linkUp && !s.regions[m].lost && !s.held &&
    s.ctl.pllLock) = true) : s.Told m := by
  simpa [State.Told, and_assoc] using h

/-- A write takes effect when the gate computes so. -/
theorem takes_of (s : State) (src : Source) (page o : Nat) (h : (s.reaches src && !s.held && !s.blockOff (blockOf page) &&
    match src with
    | .win i => s.slices[i].st == .active && s.ownerPage page == some i && winMay page o
    | _ => mayWrite src page o) = true) : s.Takes src page o := by
  cases src <;> simpa [State.Takes, and_assoc] using h

/-- No descriptor is left when the list says so. -/
theorem listDone_of (it : Item) (h : (!it.x.isoReady || it.x.iso.all (fun p => p.served)) = true) : it.listDone := by
  intro hr; simpa [hr, List.all_eq_true] using h

/-- The one place of an endpoint whose period is 1 has phase 0. -/
theorem origin {ph y a : Nat} {c : Prop} [Decidable c] (h : ph < a ∧ if c then y < 4 else y = 0) (ha : a ≤ 1) :
    ph = 0 ∧ y < 4 := by
  obtain ⟨h1, h2⟩ := h
  split at h2 <;> omega

/-- The only gap is the one that ends first. -/
theorem least_gap {s : State} {l : ShedLevel} {a e : Nat} (hg : s.gaps = [(l, a)]) (he : s.gapEnd l = some e) :
    ∀ (x : ShedLevel) (d : Nat), s.gapEnd x = some d → e ≤ d := by
  intro x d h
  by_cases hx : l = x
  · subst hx
    rw [he] at h
    exact Nat.le_of_eq (Option.some.inj h)
  · simp [State.gapEnd, State.gapAt, hg, hx] at h

/-- A condition on the members of a list that a computation decides. -/
theorem all_of {α : Type} {l : List α} {p : α → Prop} [DecidablePred p] (h : l.all (fun x => decide (p x)) = true) :
    ∀ x ∈ l, p x := by
  simpa using h

/-- The same of what may be there. -/
theorem some_of {α : Type} {o : Option α} {p : α → Prop} [DecidablePred p] (h : o.all (fun x => decide (p x)) = true) :
    ∀ x ∈ o, p x := by
  cases o <;> simp_all

/-! ### Terms that the checks of WellFormed refuse -/

/-- BAR0 is 2 MiB, and an access carries 1 to 8 bytes. -/
theorem test_wf_mmio_write : (Instr.mmioWrite .bar0 0x1FFFFC 8 0 false).wf = false ∧
    (Instr.mmioWrite .bar0 0x1FFFFC 4 0 false).wf = true ∧ (Instr.mmioWrite .bar0 0 9 0 false).wf = false := by decide

/-- A slice window is 64 KiB. -/
theorem test_wf_low_dword_latch : (Instr.lowDwordLatch (.win 0) 0x10000 4 false).wf = false ∧
    (Instr.lowDwordLatch .bar0 0x10000 4 false).wf = true ∧ (Instr.lowDwordLatch .bar0 0 0 false).wf = false := by decide

/-- A write through a window lies within its 64 KiB. -/
theorem test_wf_window_write : (Instr.windowWrite 0 0xFFFC 8 0).wf = false ∧ (Instr.windowWrite 0 0xFFFC 4 0).wf = true := by
  decide

/-- A push window is 512 bytes, and a push carries at most 64. -/
theorem test_wf_push_write : (Instr.pushWrite .bar0 0 480 64 0).wf = false ∧ (Instr.pushWrite .bar0 0 0 65 0).wf = false ∧
    (Instr.pushWrite .bar0 0 448 64 0).wf = true := by decide

/-- A ring holds at most 65,536 entries. -/
theorem test_wf_ring_fetch_done : ({ entries := List.replicate 65537 0, failed := false } : FetchResult).wf = false := by
  simp only [FetchResult.wf, List.length_replicate]; decide

/-- A measurement names 48 channels and 4 regions. -/
theorem test_wf_measurement_update : (Instr.measurementUpdate ⟨[], [], [], [], [], [], [], [], [], 25, [0, 0, 0, 0]⟩).wf = false := by decide

theorem test_wf_write_at : (Instr.writeAt ⟨0x58, 1, 256, false⟩ 0 [] false 0).wf = false ∧
    (Instr.writeAt ⟨0x58, 1, 255, false⟩ 0 (List.replicate 63 0) false 0).wf = false ∧
    (Instr.writeAt ⟨0x58, 2, 8, false⟩ 0 [0] false 0).wf = false ∧
    (Instr.writeAt ⟨0x58, 1, 8, false⟩ 0 [0] false 0).wf = true := by decide

theorem test_wf_read_at : (Instr.readAt ⟨0x58, 1, 5, false⟩ 0 1 0).wf = false ∧
    (Instr.readAt ⟨0x58, 2, 256, false⟩ 0 1 0).wf = false ∧ (Instr.readAt ⟨0x58, 2, 5, false⟩ 0 1 0).wf = true := by decide

/-- The debug port reaches BAR0 offsets. -/
theorem test_wf_tck_edge : (Instr.tckEdge false false ⟨false, some ⟨true, 0x200000, 4, 0⟩⟩ true).wf = false ∧
    (Instr.tckEdge false false ⟨false, some ⟨true, 0x6008, 4, 0⟩⟩ true).wf = true := by decide

/-! ### Single effects, by hand from the spec -/

/-- The state a command leaves. -/
def after (c : Instr) (s : State) : State :=
  match exec c s with
  | .next t => t
  | _ => s

/-- The board with queue pair 0 enabled, rings of 2^4 and 2^6 slots, SQ_HEAD 30 and the tail 12. -/
def ring16 : State :=
  (((up.setReg (at_ 0x010 0x014) 1).setReg (at_ 0x010 0x118) 0x604).setReg (at_ 0x010 0x120) 16).modQp 0
    (fun x => { x with fetchPtr := 30, tail := 12 })

/-- The worked table under spec/02_queue_pairs_and_doorbells.md R64: 14 fills the ring of 16. -/
theorem test_sq_db_accepts : (after (.sqDbWrite .bar0 0 14) ring16).qps[0].tail = 14 := by decide +kernel

/-- The same table: 15, 10 and 40 are ignored and set DB_RANGE, bit 1. -/
theorem test_sq_db_refuses :
    ((after (.sqDbWrite .bar0 0 15) ring16).qps[0].tail = 12 ∧
      (after (.sqDbWrite .bar0 0 15) ring16).flag (at_ 0x010 0x008) 1 = true) ∧
    ((after (.sqDbWrite .bar0 0 10) ring16).qps[0].tail = 12 ∧
      (after (.sqDbWrite .bar0 0 10) ring16).flag (at_ 0x010 0x008) 1 = true) ∧
    ((after (.sqDbWrite .bar0 0 40) ring16).qps[0].tail = 12 ∧
      (after (.sqDbWrite .bar0 0 40) ring16).flag (at_ 0x010 0x008) 1 = true) := by decide +kernel

/-- spec/02_queue_pairs_and_doorbells.md R63: on an empty CQ the head does not move. -/
theorem test_cq_db_refuses : (after (.cqDbWrite .bar0 0 1) ring16).qps[0].cqHead = 0 ∧
    (after (.cqDbWrite .bar0 0 1) ring16).flag (at_ 0x010 0x008) 1 = true := by decide +kernel

/-- The worked credit of spec/02_queue_pairs_and_doorbells.md (after R96), first row without the dispatched items: 4
free slots and a quota of 16. -/
theorem test_credit : (ring16.modQp 0 (fun x => { x with cqTail := 60 })).credit 0 = 20 := by decide +kernel

/-- The worked charges under spec/04_transfer_engines_and_endpoints.md R141: 29,424, 998 and 19,616 bit times, 6 and 1
granules. -/
theorem test_charges : chargeOf 0 1 1024 2 = 29424 ∧ chargeOf 0 3 64 0 = 998 ∧ chargeOf 0 1 1024 1 = 19616 ∧
    granulesOf 1024 2 = 6 ∧ granulesOf 64 0 = 1 := by decide

/-- The worked sleep under spec/06_frame_timing.md R214: 600 s, 150,062 us on the RC and 30,062 us on the crystal. -/
theorem test_sleep : sleepNs 19660800 = 600000000000 ∧ sleepUncert 19660800 true = 150062 ∧
    sleepUncert 19660800 false = 30062 := by decide

/-- The worked references of spec/00_scope.md: PORT[5] is page 0x085 and HUSK[17] page 0x0D1. -/
theorem test_pages : portPage 5 = 0x085 ∧ huskPage 17 = 0x0D1 := by decide

/-- The worked SMBus write of spec/15_register_map.md: 36.00 A to PKG.SYS_BUDGET. -/
theorem test_smbus_write : (after (.writeAt ⟨0x58, 1, 8, false⟩ 0x6104 [0xE10] false 0) up).fld (at_ 6 0x104) 0 13 = 3600 := by
  decide +kernel

/-- The same register from BAR0 keeps its value: SMBus alone writes it. -/
theorem test_sys_budget_not_from_bar0 :
    (after (.budgetWrite .bar0 .system 0xE10) up).regs = up.regs := by decide +kernel

/-- spec/00_scope.md R14: a write of 3 bytes is dropped and sets ACC_SIZE, bit 1. -/
theorem test_size : (after (.mmioWrite .bar0 0x60014 3 1 false) up).flag (at_ 0 0x008) 1 = true := by decide +kernel

/-- The worked quotas under spec/03_dispatch_scheduler.md R118: with six slices at 512, the physical function takes
1,024 and not 1,025. -/
theorem test_wis_quota :
    let s := ([0, 1, 2, 3, 4, 5] : List SliceId).foldl (fun s k =>
      (s.modSlice k (fun x => { x with st := .active })).setReg (at_ (slicePage k) 0x130) 512) up
    (after (.pfWisQuotaWrite .bar0 1024) s).wisQuota none = 1024 ∧
    (after (.pfWisQuotaWrite .bar0 1025) s).flag (at_ 0x050 0x008) 0 = true := by decide +kernel

/-- spec/05_root_ports.md R167: an attach sets CONN. -/
theorem test_attach :
    (after (.attachQualified 0) (up.modPort 0 (fun x => { x with st := .disconnected, line := .j }))).ports[0].conn = true := by decide +kernel

/-- spec/07_husk_power_path.md R222: an on request with ILIM 0 is refused with ILIM_ZERO, bit 3. -/
theorem test_on_request : (after (.huskOn .bar0 0) up).flag (at_ 0x0C0 0x008) 3 = true ∧
    (after (.huskOn .bar0 0) up).husks[0].claim = false := by decide +kernel

/-- spec/07_husk_power_path.md R232: code 80 is 100.0 ms and code 88 is 316.2 ms; an accumulator counts eighths of a microsecond. -/
theorem test_curve_time : reached 800000 80 = true ∧ reached 799999 80 = false ∧
    reached 2529823 88 = true ∧ reached 2529822 88 = false := by decide +kernel

/-- spec/09_slices.md R281: a window write to a queue pair the slice does not own sets DENIED in WIN_CAUSE and on the
SLICE page. -/
theorem test_window_denied :
    (after (.sqDbWrite (.win 0) 0 0) (up.modSlice 0 (fun x => { x with st := .active }))).slices[0].winCause = 1 := by
  decide +kernel

/-- spec/10_data_mover.md R310: STOP of an idle channel is ignored. -/
theorem test_dm_stop_idle : (after (.dmStop .bar0 0) up).dmchs = up.dmchs := by decide +kernel

/-- spec/12_power_domains.md R335: HOST does not leave ON while SCHED needs it. -/
theorem test_domain_refused : (after (.domainRequest .bar0 domHOST 1) up).doms[domHOST].st = .on := by decide +kernel

/-- spec/14_attention_and_errors.md R388: DEV_RESET needs no cause; the control die is held at once. -/
theorem test_dev_reset : (after (.devReset .bar0) up).held = true := by decide +kernel

/-- spec/15_register_map.md R395: CAUSE_SET sets causes of the GLOBAL page and never FATAL. -/
theorem test_cause_set : (after (.causeSetWrite .bar0 0 0x1FF) up).flag (at_ 0 0x008) 0 = true ∧
    (after (.causeSetWrite .bar0 0 0x1FF) up).fatal = false := by decide +kernel

/-- spec/95_what_each_step_holds.md: a step takes the front command and leaves the rest waiting. -/
theorem test_step : ∃ t, step { up with pending := [.devReset .bar0, .nop 0] } = .next t ∧ t.pending = [.nop 0] ∧
    t.held = true := ⟨_, rfl, by decide +kernel⟩

/-- The check values of the two cyclic codes: the nine characters 1 to 9 give 0xCBF43926 and 0xF4. -/
theorem test_cyclic_codes : crc32 (leBytes 9 0x393837363534333231) = 0xCBF43926 ∧
    pec (leBytes 9 0x393837363534333231) = 0xF4 := by decide +kernel

/-- FIPS 180-4: SHA-384 of the three characters abc. -/
theorem test_sha384 : sha384 (leBytes 3 0x636261) =
    0xcb00753f45a35e8bb5a03d699ac65007272c32ab0eded1631a8b605a43ff5bed8086072ba1e7cc2358baeca134c825a7 := by
  decide +kernel

/-- spec/15_register_map.md R400: a transaction at another address takes nothing. -/
theorem test_smbus_address : (after (.writeAt ⟨0x59, 1, 8, false⟩ 0x6104 [0xE10] false 0) up).regs = up.regs := by
  decide +kernel

/-- spec/17_bring_up.md R433: BAR0 is not served before configuration is accepted. -/
theorem test_bar0_waits : (after (.huskOn .bar0 0) (up.modPci (fun x => { x with ready := false }))).flag
    (at_ 0x0C0 0x008) 3 = false := by decide +kernel

/-! ### The hypotheses of every statement can be met -/

/-- The hypotheses of StepRunsTheFrontCommand can be met, clause by clause. -/
theorem test_step_runs_the_front_command_applies :
    ∃ (c : Instr) (rest : List Instr) (s : State), s.pending = c :: rest :=
  ⟨.attachQualified 0, [.detachDetected 0], { up with pending := [.attachQualified 0, .detachDetected 0] }, rfl⟩

/-- The hypotheses of EmptyQueueTicks can be met, clause by clause. -/
theorem test_empty_queue_ticks_applies :
    ∃ (s : State), s.pending = [] :=
  ⟨up, by decide +kernel⟩

/-- The hypotheses of StepKeepsCanonicalForm can be met, clause by clause. -/
theorem test_step_keeps_canonical_form_applies :
    ∃ s t : State, s.Canonical ∧ step s = .next t :=
  ⟨up, _, canonical_of _ (by decide +kernel), rfl⟩

/-- The hypotheses of StepKeepsOwnersExclusive can be met, clause by clause. -/
theorem test_step_keeps_owners_exclusive_applies :
    ∃ s t : State, s.Exclusive ∧ step s = .next t :=
  ⟨up, _, ⟨by decide +kernel, by decide +kernel, by decide +kernel, by decide +kernel⟩, rfl⟩

/-- The hypotheses of AttentionFollowsTheCauses can be met, clause by clause. -/
theorem test_attention_follows_the_causes_applies :
    (∃ (c : Instr) (s t : State), exec c s = .next t ∧ t.held = false) ∧
    (∃ (c : Instr) (s t : State), exec c s = .next t ∧ t.held = true ∧ ∀ x : Straps, c ≠ .powerOnReset x) ∧
    (∃ (c : Instr) (s t : State) (x : Straps), exec c s = .next t ∧ t.held = true ∧ c = .powerOnReset x) :=
  ⟨⟨.ctxFlush .bar0, up, _, rfl, by decide +kernel⟩,
   ⟨.ctxFlush .bar0, up.modCtl (fun x => { x with perstHold := true }), _, rfl, by decide +kernel, nofun⟩,
   ⟨.powerOnReset ⟨0, 0, false⟩, up.modCtl (fun x => { x with thermHold := true }), _, ⟨0, 0, false⟩, rfl, by
     decide +kernel, rfl⟩⟩

/-- The hypotheses of RegisterWriteGate can be met, clause by clause. -/
theorem test_register_write_gate_applies :
    (∃ (c : Instr) (src : Source) (page o : Nat) (s : State), target c = some (src, page, o) ∧ (s.held = true ∨
      s.reaches src = false)) ∧
    (∃ (c : Instr) (src : Source) (page o : Nat) (s : State), (∀ (via : Source) (q : QpId) (ofs size : Nat) (d :
      BitVec 512), c = .pushWrite via q ofs size d → pushSizeOk ofs size = true) ∧ target c = some (src, page, o) ∧
      s.reaches src = true ∧ s.held = false ∧ s.blockOff (blockOf page) = true) ∧
    (∃ (c : Instr) (src : Source) (page o : Nat) (s : State) (via : Source) (q : QpId) (ofs size : Nat) (d : BitVec
      512), target c = some (src, page, o) ∧ c = .pushWrite via q ofs size d ∧ s.reaches src = true ∧ s.held = false ∧
      s.blockOff (blockOf page) = true ∧ pushSizeOk ofs size = false) ∧
    (∃ (c : Instr) (src : Source) (page o : Nat) (s : State), target c = some (src, page, o) ∧ s.held = false ∧
      s.blockOff (blockOf page) = false ∧ (∀ i : SliceId, src ≠ .win i) ∧ mayWrite src page o = false) :=
  ⟨⟨.ctxFlush .bar0, .bar0, 0x060, 0x014, up.modCtl (fun x => { x with perstHold := true }), by decide +kernel⟩,
   ⟨.ctxFlush .bar0, .bar0, 0x060, 0x014, up.modDom domSCHED (fun x => { x with st := .off }),
     (fun _ _ _ _ _ h => nomatch h), by decide +kernel⟩,
   ⟨.pushWrite .bar0 0 0 8 0, .bar0, qpPage 0, 0x130, up.modDom domSCHED (fun x => { x with st := .off }), .bar0, 0,
     0, 8, 0, by decide +kernel⟩,
   ⟨.sqDbWrite .smbus 0 0, .smbus, qpPage 0, 0x130, up, by decide +kernel⟩⟩

/-- The hypotheses of WindowRefusesWhatASliceDoesNotOwn can be met, clause by clause. -/
theorem test_window_refuses_what_a_slice_does_not_own_applies :
    (∃ (c : Instr) (i : SliceId) (page o : Nat) (s : State), target c = some (.win i, page, o) ∧ s.reaches (.win i) =
      true ∧ s.held = false ∧ s.blockOff (blockOf page) = false ∧ s.slices[i].st = .none) ∧
    (∃ (c : Instr) (i : SliceId) (page o : Nat) (s : State),
      let denied := s.ownerPage page ≠ some i
      let inactive := s.slices[i].st ≠ .active ∧ ¬ (blockOf page = .port ∧ o = 0x008)
      target c = some (.win i, page, o) ∧ s.reaches (.win i) = true ∧ s.held = false ∧ s.blockOff (blockOf page) =
        false ∧ s.slices[i].st ≠ .none ∧ (denied ∨ inactive)) :=
  ⟨⟨.sqDbWrite (.win 0) 0 0, 0, qpPage 0, 0x130, up, by decide +kernel⟩,
   ⟨.sqDbWrite (.win 0) 0 0, 0, qpPage 0, 0x130, up.modSlice 0 (fun x => { x with st := .active }), by decide +kernel⟩⟩

/-- The hypotheses of MmioWriteRules can be met, clause by clause. -/
theorem test_mmio_write_rules_applies :
    (∃ (src : Source) (ofs size : Nat) (s : State), (∀ i : SliceId, src ≠ .win i) ∧ s.held = false ∧ inPush ofs =
      false ∧ sizeOk ofs size = false) ∧
    (∃ (src : Source) (page : Nat) (s : State), s.Canonical ∧ s.Takes src page 8 ∧ (∀ i : SliceId, src ≠ .win i)) ∧
    (∃ (src : Source) (page : Nat) (s : State), s.Canonical ∧ s.Takes src page 0xC ∧ (∀ i : SliceId, src ≠ .win i) ∧
      blockOf page ≠ .absent) ∧
    (∃ (src : Source) (s : State), s.Canonical ∧ s.Takes src 0 0x110 ∧ (∀ i : SliceId, src ≠ .win i)) ∧
    (∃ (src : Source) (s : State), s.Canonical ∧ s.Takes src 4 0x104 ∧ (∀ i : SliceId, src ≠ .win i)) ∧
    (∃ (src : Source) (n : PortId) (s : State), s.Canonical ∧ s.Takes src (huskPage n) 0x108 ∧ (∀ i : SliceId, src ≠
      .win i) ∧ s.linkDown (regionOf n) = false) :=
  ⟨⟨.bar0, 0, 0, up, by decide +kernel⟩,
   ⟨.bar0, 0, up, canonical_of _ (by decide +kernel), takes_of _ _ _ _ (by decide +kernel), by decide +kernel⟩,
   ⟨.bar0, 0, up, canonical_of _ (by decide +kernel), takes_of _ _ _ _ (by decide +kernel), by decide +kernel⟩,
   ⟨.bar0, up, canonical_of _ (by decide +kernel), takes_of _ _ _ _ (by decide +kernel), by decide +kernel⟩,
   ⟨.bar0, up, canonical_of _ (by decide +kernel), takes_of _ _ _ _ (by decide +kernel), by decide +kernel⟩,
   ⟨.bar0, 0, up, canonical_of _ (by decide +kernel), takes_of _ _ _ _ (by decide +kernel), by decide +kernel⟩⟩

/-- The hypotheses of WindowWriteRules can be met, clause by clause. -/
theorem test_window_write_rules_applies :
    (∃ (i : SliceId) (s : State), s.reaches (.win i) = true ∧ s.held = false ∧ s.blockOff .slice = false ∧
      s.slices[i].st ≠ .none) ∧
    (∃ (i : SliceId) (s : State), s.Canonical ∧ s.reaches (.win i) = true ∧ s.held = false ∧ s.blockOff .slice = false
      ∧ s.slices[i].st ≠ .none ∧ s.slices[i].st = .active ∧ (∀ x ∈ s.ctxs, x.owner ≠ some i)) ∧
    (∃ (i : SliceId) (s : State), s.reaches (.win i) = true ∧ s.held = false ∧ s.blockOff .slice = false ∧
      s.slices[i].st ≠ .none ∧ s.slices[i].st = .active ∧ (∃ x ∈ s.ctxs, x.owner = some i)) ∧
    (∃ (i : SliceId) (q : QpId) (s : State), s.Takes (.win i) (qpPage q) 0xC ∧ s.Canonical) :=
  ⟨⟨0, up.modSlice 0 (fun x => { x with st := .active }), by decide +kernel⟩,
   ⟨0, (board [] [wCtx]).modSlice 0 (fun x => { x with st := .active }), canonical_of _ (by decide +kernel), by
     decide +kernel⟩,
   ⟨0, (board [] [{ wCtx with owner := some 0 }]).modSlice 0 (fun x => { x with st := .active }), by decide +kernel⟩,
   ⟨0, 0, up.modSlice 0 (fun x => { x with st := .active, qps := 1 }), takes_of _ _ _ _ (by decide +kernel),
     canonical_of _ (by decide +kernel)⟩⟩

/-- The hypotheses of UnassignedPages can be met, clause by clause. -/
theorem test_unassigned_pages_applies :
    (∃ (src : Source) (page o : Nat) (s : State), s.Canonical ∧ (∀ i : SliceId, src ≠ .win i) ∧ blockOf page = .absent
      ∧ o % 4 = 0 ∧ o < 4096 ∧ s.reaches src = true ∧ s.held = false) ∧
    (∃ (page : Nat), page < 512) ∧
    (∃ (page : Nat), page < 512 ∧ blockOf page ≠ .absent) :=
  ⟨⟨.bar0, 7, 0, up, canonical_of _ (by decide +kernel), by decide +kernel⟩,
   ⟨511, by decide +kernel⟩,
   ⟨0, by decide +kernel⟩⟩

/-- The hypotheses of ParityErrors can be met, clause by clause. -/
theorem test_parity_errors_applies :
    (∃ (src : Source) (ofs size : Nat) (s : State), s.Canonical ∧ s.reaches src = true ∧ s.held = false ∧ sizeOk ofs
      size = true ∧ pushAt src ofs = false) ∧
    (∃ (ofs : Word) (s : State), s.Canonical ∧ s.mcRuns = true ∧ s.fw.served = true ∧ ofs.toNat < 2 ^ 21 ∧ ofs.toNat %
      4 = 0) ∧
    (∃ (page : Nat) (s : State), s.Canonical ∧ s.Takes .smbus page 0xC ∧ s.mcRuns = true ∧ s.fw.served = true ∧ page <
      512 ∧ blockOf page ≠ .absent) :=
  ⟨⟨.bar0, 0, 4, up, canonical_of _ (by decide +kernel), by decide +kernel⟩,
   ⟨0, up, canonical_of _ (by decide +kernel), by decide +kernel⟩,
   ⟨0, up, canonical_of _ (by decide +kernel), takes_of _ _ _ _ (by decide +kernel), by decide +kernel⟩⟩

/-- The hypotheses of FenceReads can be met, clause by clause. -/
theorem test_fence_reads_applies :
    (∃ (src : Source) (s : State), s.Canonical ∧ (∀ i : SliceId, src ≠ .win i) ∧ s.reaches src = true ∧ s.held =
      false) ∧
    (∃ (i : SliceId) (s : State), s.Canonical ∧ s.reaches (.win i) = true ∧ s.held = false ∧ s.blockOff .slice = false
      ∧ s.slices[i].st ≠ .none) :=
  ⟨⟨.bar0, up, canonical_of _ (by decide +kernel), by decide +kernel⟩,
   ⟨0, up.modSlice 0 (fun x => { x with st := .active }), canonical_of _ (by decide +kernel), by decide +kernel⟩⟩

/-- The hypotheses of RegisterReads can be met, clause by clause. -/
theorem test_register_reads_applies :
    (∃ (src : Source) (s : State), s.Canonical ∧ (∀ i : SliceId, src ≠ .win i) ∧ s.reaches src = true ∧ s.held = false
      ∧ s.blockOff .time = false) ∧
    (∃ (src : Source) (s : State) (v : Word), s.Canonical ∧ (∀ i : SliceId, src ≠ .win i) ∧ s.reaches src = true ∧
      s.held = false ∧ s.blockOff .time = false ∧ s.latches.find? (fun l => l.1 == src && l.2.1 == at_ 5 0x104) = some
      (src, at_ 5 0x104, v)) ∧
    (∃ (src : Source) (s : State), (s.held = true ∨ s.reaches src = false)) ∧
    (∃ (src : Source) (ofs : Nat) (s : State), (∀ i : SliceId, src ≠ .win i) ∧ s.reaches src = true ∧ s.held = false ∧
      ofs % 4 = 0 ∧ inPush ofs = false ∧ s.blockOff (blockOf (ofs / 4096)) = true) ∧
    (∃ (src : Source) (ofs size : Nat) (s : State), (∀ i : SliceId, src ≠ .win i) ∧ s.reaches src = true ∧ s.held =
      false ∧ inPush ofs = false ∧ sizeOk ofs size = false) ∧
    (∃ (src : Source) (page o : Nat) (s : State), s.Canonical ∧ (∀ i : SliceId, src ≠ .win i) ∧ s.reaches src = true ∧
      s.held = false ∧ s.blockOff (blockOf page) = false ∧ blockOf page ≠ .absent ∧ (o = 8 ∨ o = 0xC ∨ o = 0x10) ∧
      mayRead src page o = true) ∧
    (∃ (src : Source) (page o : Nat) (s : State), (∀ i : SliceId, src ≠ .win i) ∧ s.reaches src = true ∧ s.held =
      false ∧ s.blockOff (blockOf page) = false ∧ o % 4 = 0 ∧ o < 4096 ∧ ¬ (blockOf page = .qp ∧ 0x800 ≤ o) ∧ mayRead
      src page o = false) :=
  ⟨⟨.bar0, up, canonical_of _ (by decide +kernel), by decide +kernel⟩,
   ⟨.bar0, { up with latches := [(.bar0, at_ 5 0x104, 0)] }, 0, canonical_of _ (by decide +kernel), by decide +kernel⟩,
   ⟨.bar0, up.modCtl (fun x => { x with perstHold := true }), by decide +kernel⟩,
   ⟨.bar0, 0x50008, up.modDom domSCHED (fun x => { x with st := .off }), by decide +kernel⟩,
   ⟨.bar0, 0, 0, up, by decide +kernel⟩,
   ⟨.bar0, 0, 8, up, canonical_of _ (by decide +kernel), by decide +kernel⟩,
   ⟨.smbus, 16, 0, up, by decide +kernel⟩⟩

/-- The hypotheses of CauseSetWrites can be met, clause by clause. -/
theorem test_cause_set_writes_applies :
    (∃ (src : Source) (page : Fin 512) (s : State), s.Takes src page.val 0x010 ∧ s.Canonical) ∧
    (∃ (page : Fin 512) (s : State), s.reaches .bar0 = true ∧ s.reaches .smbus = true ∧ s.blockOff (blockOf page.val)
      = false) :=
  ⟨⟨.bar0, 0, up, takes_of _ _ _ _ (by decide +kernel), canonical_of _ (by decide +kernel)⟩,
   ⟨0, up, by decide +kernel⟩⟩

/-- The hypotheses of SmbusTransactions can be met, clause by clause. -/
theorem test_smbus_transactions_applies :
    (∃ (h : SmbHead) (ofs : Word) (vals : List Word) (s : State), s.Canonical ∧ s.mcRuns = true ∧ s.fw.served = true ∧
      h.addr = s.smbAddr ∧ h.code = 1 ∧ h.pec = true ∧ h.count = 4 + 4 * vals.length ∧ 8 ≤ h.count ∧ h.count ≤ 252 ∧
      smbOfsOk ofs = true) ∧
    (∃ (h : SmbHead) (ofs : Word) (vals : List Word) (s : State), s.mcRuns = true ∧ s.fw.served = true ∧ h.addr =
      s.smbAddr ∧ (h.code ≠ 1 ∨ h.count < 8 ∨ 252 < h.count ∨ h.count ≠ 4 + 4 * vals.length ∨ smbOfsOk ofs = false)) ∧
    (∃ (page : Nat) (s : State), s.Canonical ∧ s.Takes .smbus page 0xC ∧ s.mcRuns = true ∧ s.fw.served = true ∧ page <
      512 ∧ blockOf page ≠ .absent) ∧
    (∃ (page : Nat) (h : SmbHead) (s : State), s.Canonical ∧ s.mcRuns = true ∧ s.fw.served = true ∧ page < 512 ∧
      h.addr = s.smbAddr ∧ h.code = 2 ∧ h.count = 5 ∧ s.blockOff (blockOf page) = false ∧ blockOf page ≠ .absent ∧
      smbusSees page 0xC = true) ∧
    (∃ (h : SmbHead) (ofs : Word) (n : Nat) (s : State), s.mcRuns = true ∧ s.fw.served = true ∧ h.addr = s.smbAddr ∧
      (h.code ≠ 2 ∨ h.count ≠ 5 ∨ n < 1 ∨ 63 < n ∨ smbOfsOk ofs = false)) ∧
    (∃ (h : SmbHead) (s : State), (s.mcRuns = false ∨ h.addr ≠ s.smbAddr)) :=
  ⟨⟨⟨0x58, 1, 8, true⟩, 0x6104, [0xE10], up, canonical_of _ (by decide +kernel), by decide +kernel⟩,
   ⟨⟨0x58, 1, 8, false⟩, 0, [], up, by decide +kernel⟩,
   ⟨0, up, canonical_of _ (by decide +kernel), takes_of _ _ _ _ (by decide +kernel), by decide +kernel⟩,
   ⟨0, ⟨0x58, 2, 5, false⟩, up, canonical_of _ (by decide +kernel), by decide +kernel⟩,
   ⟨⟨0x58, 1, 8, false⟩, 0, 0, up, by decide +kernel⟩,
   ⟨⟨0x57, 1, 8, false⟩, up, by decide +kernel⟩⟩

/-- The hypotheses of HotResetsHoldTheDie can be met, clause by clause. -/
theorem test_hot_resets_hold_the_die_applies :
    (∃ (s : State), s.Canonical) ∧
    (∃ (src : Source) (s : State), s.Canonical ∧ s.Takes src 0 0x014) ∧
    (∃ (s : State), s.Canonical ∧ s.held = false ∧ s.ctl.perstLow = false ∧ s.doms[domHOST].st ≠ .off) ∧
    (∃ (s : State), (s.held = true ∨ s.ctl.perstLow = true ∨ s.doms[domHOST].st = .off)) ∧
    (∃ (s : State), s.Canonical ∧ s.ctl.pllLock = true) ∧
    (∃ (s : State), s.ctl.pllLock = false) :=
  ⟨⟨up, canonical_of _ (by decide +kernel)⟩,
   ⟨.bar0, up, canonical_of _ (by decide +kernel), takes_of _ _ _ _ (by decide +kernel)⟩,
   ⟨up, canonical_of _ (by decide +kernel), by decide +kernel⟩,
   ⟨up.modCtl (fun x => { x with perstLow := true }), by decide +kernel⟩,
   ⟨up, canonical_of _ (by decide +kernel), by decide +kernel⟩,
   ⟨up.modCtl (fun x => { x with pllLock := false }), by decide +kernel⟩⟩

/-- The hypotheses of ReleasesOfTheDie can be met, clause by clause. -/
theorem test_releases_of_the_die_applies :
    (∃ (s : State), s.ctl.perstHold = false) ∧
    (∃ (s : State), s.Canonical ∧ s.ctl.pllHold = false ∧ s.held = false ∧ s.ctl.pllLock = false ∧ s.ctl.pllStopped =
      false) ∧
    (∃ (c : Instr) (s s' : State), ((c = .perstNRelease ∧ s.ctl.perstHold = true ∧ s' = s.modCtl (fun x =>
      { x with perstLow := false, perstHold := false })) ∨ (c = .controlDieResetRelease ∧ s.ctl.timedHold = true ∧ s'
      = s.modCtl (fun x => { x with timedHold := false })) ∨ (c = .controlDieCooled ∧ s.ctl.thermHold = true ∧ s' =
      s.modCtl (fun x => { x with thermHold := false })) ∨ (c = .rootPllLock ∧ s.ctl.pllHold = true ∧ s.ctl.pllLock =
      false ∧ s.ctl.pllStopped = false ∧ s' = (s.satF (at_ 2 0x104) 0 16 1).modCtl (fun x =>
      { x with pllLock := true, pllHold := false, pllWaits := false }))) ∧ s'.held = true) ∧
    (∃ (c : Instr) (s s' : State), ((c = .perstNRelease ∧ s.ctl.perstHold = true ∧ s' = s.modCtl (fun x =>
      { x with perstLow := false, perstHold := false })) ∨ (c = .controlDieResetRelease ∧ s.ctl.timedHold = true ∧ s'
      = s.modCtl (fun x => { x with timedHold := false })) ∨ (c = .controlDieCooled ∧ s.ctl.thermHold = true ∧ s' =
      s.modCtl (fun x => { x with thermHold := false })) ∨ (c = .rootPllLock ∧ s.ctl.pllHold = true ∧ s.ctl.pllLock =
      false ∧ s.ctl.pllStopped = false ∧ s' = (s.satF (at_ 2 0x104) 0 16 1).modCtl (fun x =>
      { x with pllLock := true, pllHold := false, pllWaits := false }))) ∧ s'.held = false) :=
  ⟨⟨up, by decide +kernel⟩,
   ⟨up.modCtl (fun x => { x with pllLock := false }), canonical_of _ (by decide +kernel), by decide +kernel⟩,
   ⟨.perstNRelease, up.modCtl (fun x => { x with perstHold := true, thermHold := true }), _, Or.inl ⟨rfl, by
     decide +kernel, rfl⟩, by decide +kernel⟩,
   ⟨.perstNRelease, { up with ctl := { Ctl.init with perstHold := true, timedHold := false, pllHold := false } }, _,
     Or.inl ⟨rfl, by decide +kernel, rfl⟩, by decide +kernel⟩⟩

/-- The hypotheses of ClocksAndLink can be met, clause by clause. -/
theorem test_clocks_and_link_applies :
    (∃ (c : Instr) (src : Source) (v : Word) (s : State), s.Takes src 2 0x014 ∧ s.Canonical ∧ (c = .aonXtalRequest src
      v ∨ c = .mcClkSelect src v)) ∧
    (∃ (s : State), s.Canonical ∧ s.held = false ∧ s.ctl.qual = true) ∧
    (∃ (s : State), s.Canonical ∧ s.held = false ∧ s.ctl.onXtal = true) ∧
    (∃ (s : State), (s.held = true ∨ s.ctl.perstLow = true ∨ s.domOn domHOST = false ∨ s.pci.inL2 = true)) ∧
    (∃ (r : ConfigReq) (s : State), (∀ (w : LinkWidth) (g : Fin 4), r ≠ .elapsed w g) ∧ s.held = false ∧
      s.ctl.perstLow = false ∧ s.domOn domHOST = true ∧ s.pci.inL2 = false ∧ s.pci.ready = false) ∧
    (∃ (s : State), s.held = false ∧ s.ctl.perstLow = false ∧ s.domOn domHOST = true ∧ s.pci.inL2 = false ∧
      s.pci.training = true) ∧
    (∃ (s : State), s.held = false ∧ s.ctl.perstLow = false ∧ s.domOn domHOST = true ∧ s.pci.inL2 = false ∧
      s.pci.ready = true) ∧
    (∃ (s : State), s.held = false ∧ s.domOn domHOST = true ∧ s.pci.ready = true ∧ s.pci.inL2 = false) ∧
    (∃ (s : State), s.held = false ∧ s.doms[domHOST].st = .on ∧ s.doms[domHOST].phase = .none) ∧
    (∃ (s : State), s.Canonical ∧ s.held = false ∧ s.doms[domHOST].st = .ret ∧ s.doms[domHOST].phase = .none) ∧
    (∃ (a : Option DebugAccess) (s : State), (a = none ∨ s.store.straps.getLsbD 3 = false ∨ s.store.debugFuse = false
      ∨ s.tap.st ≠ .updDr)) ∧
    (∃ (s : State), s.store.straps.getLsbD 3 = true ∧ s.store.debugFuse = true ∧ s.tap.st = .updDr ∧ s.tap.ir ≠ 0 ∧
      s.tap.ir ≠ 2 ∧ s.reaches .bar0 = true) ∧
    (∃ (page : Nat) (s : State), s.Canonical ∧ s.store.straps.getLsbD 3 = true ∧ s.store.debugFuse = true ∧ s.tap.st =
      .updDr ∧ s.tap.ir ≠ 0 ∧ s.tap.ir ≠ 2 ∧ s.held = false ∧ s.blockOff (blockOf page) = false ∧ blockOf page ≠
      .absent) :=
  ⟨⟨.aonXtalRequest (.bar0) (0), .bar0, 0, up, takes_of _ _ _ _ (by decide +kernel), canonical_of _ (by
    decide +kernel), by decide +kernel⟩,
   ⟨up.modCtl (fun x => { x with qual := true }), canonical_of _ (by decide +kernel), by decide +kernel⟩,
   ⟨up.modCtl (fun x => { x with onXtal := true }), canonical_of _ (by decide +kernel), by decide +kernel⟩,
   ⟨up.modCtl (fun x => { x with perstLow := true }), by decide +kernel⟩,
   ⟨.read .linkStatus, up.modPci (fun x => { x with ready := false, training := true }), nofun, by decide +kernel⟩,
   ⟨up.modPci (fun x => { x with training := true }), by decide +kernel⟩,
   ⟨up, by decide +kernel⟩,
   ⟨up, by decide +kernel⟩,
   ⟨up, by decide +kernel⟩,
   ⟨up.modDom 1 (fun x => { x with st := .ret }), canonical_of _ (by decide +kernel), by decide +kernel⟩,
   ⟨none, up, by decide +kernel⟩,
   ⟨{ up with store := { Store.init with straps := 8, debugFuse := true }, tap := { up.tap with st := .updDr } }, by
     decide +kernel⟩,
   ⟨0x0C0,
     { up with store := { Store.init with straps := 8, debugFuse := true }, tap := { up.tap with st := .updDr } },
     canonical_of _ (by decide +kernel), by decide +kernel⟩⟩

/-- The hypotheses of EccErrors can be met, clause by clause. -/
theorem test_ecc_errors_applies :
    (∃ (k : EccStruct) (s : State), s.Canonical ∧ s.eccPowered k = true) ∧
    (∃ (k : EccStruct) (inst : Nat) (live : Bool) (s : State), s.Canonical ∧ s.eccPowered k = true ∧ (live = false ∨
      s.eccOwner k inst = .nothing)) ∧
    (∃ (k : EccStruct) (inst : Nat) (i : SliceId) (s : State), s.Canonical ∧ s.eccPowered k = true ∧ s.fatal = false ∧
      k ≠ .pram ∧ s.eccOwner k inst = .slice i ∧ s.slices[i].st = .active) ∧
    (∃ (k : EccStruct) (inst : Nat) (s : State), s.Canonical ∧ k ≠ .ebr ∧ k ≠ .captureFifo ∧ k ≠ .pram ∧ s.eccOwner k
      inst = .other ∧ s.eccPowered k = true ∧ s.fatal = false) ∧
    (∃ (it : Item) (s : State), s.Canonical ∧ s.Live it ∧ s.eccPowered .ebr = true ∧ s.fatal = false ∧ s.fw.paused =
      false ∧ s.item? it.id = some it ∧ it.inService = true ∧ it.owner = none ∧ it.x.iso = [] ∧ s.onWire it = false) ∧
    (∃ (it : Item) (s : State), s.Canonical ∧ s.eccPowered .ebr = true ∧ s.fatal = false ∧ s.item? it.id = some it ∧
      it.inService = true ∧ it.owner = none ∧ it.x.iso = [] ∧ it.ending = none ∧ s.onWire it = true) ∧
    (∃ (k : CfId) (s : State), s.Canonical ∧ s.eccPowered .captureFifo = true ∧ s.fatal = false ∧ s.ownerCf k = none)
      ∧
    (∃ (ch : ChId) (s : State), s.Canonical ∧ s.eccPowered .pram = true ∧ s.fatal = false ∧ s.dmchs[ch].st ≠ .running
      ∧ s.dmchs[ch].st ≠ .waiting) ∧
    (∃ (ch : ChId) (s : State), s.Canonical ∧ s.eccPowered .pram = true ∧ s.fatal = false ∧ (s.dmchs[ch].st = .running
      ∨ s.dmchs[ch].st = .waiting)) ∧
    (∃ (k : EccStruct) (inst : Nat) (s : State), s.Canonical ∧ s.eccPowered k = true ∧ s.fatal = true ∧ s.eccOwner k
      inst ≠ .nothing) ∧
    (∃ (k : EccStruct), k ≠ .ebr) ∧
    (∃ (k : EccStruct) (s : State), s.Canonical ∧ k = .ebr ∧ s.eccPowered .ebr = true) ∧
    (∃ (k : EccStruct) (s : State), s.eccPowered k = false) :=
  ⟨⟨.wis, up, canonical_of _ (by decide +kernel), by decide +kernel⟩,
   ⟨.wis, 0, false, up, canonical_of _ (by decide +kernel), by decide +kernel⟩,
   ⟨.fabric, 0, 0, up.modSlice 0 (fun x => { x with st := .active }), canonical_of _ (by decide +kernel), by
     decide +kernel⟩,
   ⟨.flowTable, 0, up, canonical_of _ (by decide +kernel), by decide +kernel⟩,
   ⟨{ wItem with st := .service 0 none }, board [{ wItem with st := .service 0 none }] [], canonical_of _ (by
     decide +kernel), live_of _ _ (by decide +kernel), by decide +kernel⟩,
   ⟨{ wItem with st := .service 0 none }, (board [{ wItem with st := .service 0 none }] []).modPort 0 (fun x =>
     { x with wire := some 0 }), canonical_of _ (by decide +kernel), by decide +kernel⟩,
   ⟨0, up, canonical_of _ (by decide +kernel), by decide +kernel⟩,
   ⟨0, up, canonical_of _ (by decide +kernel), by decide +kernel⟩,
   ⟨0, up.modCh 0 (fun x => { x with st := .running }), canonical_of _ (by decide +kernel), by decide +kernel⟩,
   ⟨.flowTable, 0, up.modCtl (fun x => { x with fatal := true }), canonical_of _ (by decide +kernel), by
     decide +kernel⟩,
   ⟨.wis, by decide +kernel⟩,
   ⟨.ebr, up, canonical_of _ (by decide +kernel), by decide +kernel⟩,
   ⟨.wis, up.modCtl (fun x => { x with perstHold := true }), by decide +kernel⟩⟩

/-- The hypotheses of CounterClears can be met, clause by clause. -/
theorem test_counter_clears_applies :
    (∃ (src : Source) (s : State), s.Takes src 0x050 0x014) ∧
    (∃ (src : Source) (s : State), s.Takes src 0x060 0x014) ∧
    (∃ (src : Source) (s : State), s.Takes src 0x070 0x014) ∧
    (∃ (src : Source) (p : PortId) (s : State), s.Takes src (portPage p) 0x014) ∧
    (∃ (src : Source) (n : PortId) (s : State), s.Takes src (huskPage n) 0x014 ∧ s.Canonical) ∧
    (∃ (src : Source) (m : RegId) (s : State), s.Takes src (regionPage m) 0x014 ∧ s.Canonical) ∧
    (∃ (src : Source) (ch : ChId) (s : State), s.Takes src (dmchPage ch) 0x014) ∧
    (∃ (src : Source) (e : DmId) (s : State), s.Takes src (dmPage e) 0x014) ∧
    (∃ (src : Source) (k : CfId) (s : State), s.Takes src (cfPage k) 0x014) ∧
    (∃ (src : Source) (s : State), s.Takes src 0 0x014) ∧
    (∃ (src : Source) (s : State), s.Takes src 3 0x014) ∧
    (∃ (src : Source) (s : State), s.Takes src 5 0x014 ∧ s.Canonical) ∧
    (∃ (src : Source) (s : State), s.Takes src 4 0x014) :=
  ⟨⟨.bar0, up, takes_of _ _ _ _ (by decide +kernel)⟩,
   ⟨.bar0, up, takes_of _ _ _ _ (by decide +kernel)⟩,
   ⟨.bar0, up, takes_of _ _ _ _ (by decide +kernel)⟩,
   ⟨.bar0, 0, up, takes_of _ _ _ _ (by decide +kernel)⟩,
   ⟨.bar0, 0, up, takes_of _ _ _ _ (by decide +kernel), canonical_of _ (by decide +kernel)⟩,
   ⟨.bar0, 0, up, takes_of _ _ _ _ (by decide +kernel), canonical_of _ (by decide +kernel)⟩,
   ⟨.bar0, 0, up, takes_of _ _ _ _ (by decide +kernel)⟩,
   ⟨.bar0, 0, up, takes_of _ _ _ _ (by decide +kernel)⟩,
   ⟨.bar0, 0, up, takes_of _ _ _ _ (by decide +kernel)⟩,
   ⟨.bar0, up, takes_of _ _ _ _ (by decide +kernel)⟩,
   ⟨.bar0, up, takes_of _ _ _ _ (by decide +kernel)⟩,
   ⟨.bar0, up, takes_of _ _ _ _ (by decide +kernel), canonical_of _ (by decide +kernel)⟩,
   ⟨.bar0, up, takes_of _ _ _ _ (by decide +kernel)⟩⟩

/-- The hypotheses of SqDoorbell can be met, clause by clause. -/
theorem test_sq_doorbell_applies :
    (∃ (via : Source) (q : QpId) (v : Word) (s : State),
      let n := s.sqN q
      let x := bits v.toNat 0 17
      let ok := x < 2 * n ∧ ringDist n (s.sqHead q) x ≤ n ∧ ringDist n (s.sqHead q) s.qps[q].tail ≤ ringDist n
        (s.sqHead q) x
      s.Takes via (qpPage q) 0x130 ∧ s.Canonical ∧ s.qpEn q = true ∧ ok) ∧
    (∃ (via : Source) (q : QpId) (v : Word) (s : State),
      let n := s.sqN q
      let x := bits v.toNat 0 17
      let ok := x < 2 * n ∧ ringDist n (s.sqHead q) x ≤ n ∧ ringDist n (s.sqHead q) s.qps[q].tail ≤ ringDist n
        (s.sqHead q) x
      s.Takes via (qpPage q) 0x130 ∧ s.Canonical ∧ s.qpEn q = true ∧ ¬ ok) ∧
    (∃ (via : Source) (q : QpId) (s : State), s.Takes via (qpPage q) 0x130 ∧ s.Canonical ∧ s.qpEn q = false) ∧
    (∃ (via : Source) (q : QpId) (s : State) (ofs size : Nat), s.Takes via (qpPage q) 0x130 ∧ s.Canonical ∧ s.qpEn q =
      false ∧ pushSizeOk ofs size = true) ∧
    (∃ (via : Source) (q : QpId) (s : State), s.Takes via (qpPage q) 0x130 ∧ s.Canonical ∧ s.Takes via (qpPage q)
      0x138) :=
  ⟨⟨.bar0, 0, 0, up.setReg (at_ 0x010 0x014) 1, takes_of _ _ _ _ (by decide +kernel), canonical_of _ (by
    decide +kernel), by decide +kernel⟩,
   ⟨.bar0, 0, 0x100, up.setReg (at_ 0x010 0x014) 1, takes_of _ _ _ _ (by decide +kernel), canonical_of _ (by
     decide +kernel), by decide +kernel⟩,
   ⟨.bar0, 0, up, takes_of _ _ _ _ (by decide +kernel), canonical_of _ (by decide +kernel), by decide +kernel⟩,
   ⟨.bar0, 0, up, 0, 32, takes_of _ _ _ _ (by decide +kernel), canonical_of _ (by decide +kernel), by decide +kernel⟩,
   ⟨.bar0, 0, up, takes_of _ _ _ _ (by decide +kernel), canonical_of _ (by decide +kernel), takes_of _ _ _ _ (by
     decide +kernel)⟩⟩

/-- The hypotheses of CqDoorbell can be met, clause by clause. -/
theorem test_cq_doorbell_applies :
    (∃ (via : Source) (q : QpId) (v : Word) (s : State),
      let n := s.cqN q
      let x := bits v.toNat 0 17
      let head := s.qps[q].cqHead
      let ok := x < 2 * n ∧ ringDist n head x ≤ ringDist n head s.qps[q].cqTail
      s.Takes via (qpPage q) 0x138 ∧ s.Canonical ∧ ok) ∧
    (∃ (via : Source) (q : QpId) (v : Word) (s : State),
      let n := s.cqN q
      let x := bits v.toNat 0 17
      let head := s.qps[q].cqHead
      let ok := x < 2 * n ∧ ringDist n head x ≤ ringDist n head s.qps[q].cqTail
      s.Takes via (qpPage q) 0x138 ∧ s.Canonical ∧ ¬ ok) :=
  ⟨⟨.bar0, 0, 0, up, takes_of _ _ _ _ (by decide +kernel), canonical_of _ (by decide +kernel), by decide +kernel⟩,
   ⟨.bar0, 0, 1, up, takes_of _ _ _ _ (by decide +kernel), canonical_of _ (by decide +kernel), by decide +kernel⟩⟩

/-- The hypotheses of Pushes can be met, clause by clause. -/
theorem test_pushes_applies :
    (∃ (via : Source) (q : QpId) (ofs size : Nat) (s : State),
      let good := (size = 32 ∨ size = 64) ∧ ofs % size = 0
      s.Takes via (qpPage q) 0x130 ∧ s.Canonical ∧ ¬ good) ∧
    (∃ (via : Source) (q : QpId) (ofs size : Nat) (s : State),
      let good := (size = 32 ∨ size = 64) ∧ ofs % size = 0
      s.Takes via (qpPage q) 0x130 ∧ s.Canonical ∧ good ∧ s.qpEn q = false) ∧
    (∃ (via : Source) (q : QpId) (ofs size : Nat) (s : State),
      let good := (size = 32 ∨ size = 64) ∧ ofs % size = 0
      let k := size / 32
      let n := s.sqN q
      let v := (s.qps[q].tail + k) % (2 * n)
      let fits := s.dbOk q v = true ∧ ringDist n (s.sqHead q) s.qps[q].tail + k ≤ n
      s.Takes via (qpPage q) 0x130 ∧ s.Canonical ∧ good ∧ s.qpEn q = true ∧ ¬ fits) ∧
    (∃ (via : Source) (q : QpId) (ofs size : Nat) (s : State),
      let good := (size = 32 ∨ size = 64) ∧ ofs % size = 0
      let k := size / 32
      let n := s.sqN q
      let v := (s.qps[q].tail + k) % (2 * n)
      let fits := s.dbOk q v = true ∧ ringDist n (s.sqHead q) s.qps[q].tail + k ≤ n
      s.Takes via (qpPage q) 0x130 ∧ s.Canonical ∧ good ∧ s.qpEn q = true ∧ fits ∧ s.qps[q].push.length + k ≤ 4) ∧
    (∃ (via : Source) (q : QpId) (ofs size : Nat) (s : State),
      let good := (size = 32 ∨ size = 64) ∧ ofs % size = 0
      let k := size / 32
      let n := s.sqN q
      let v := (s.qps[q].tail + k) % (2 * n)
      let fits := s.dbOk q v = true ∧ ringDist n (s.sqHead q) s.qps[q].tail + k ≤ n
      s.Takes via (qpPage q) 0x130 ∧ s.Canonical ∧ good ∧ s.qpEn q = true ∧ fits ∧ 4 < s.qps[q].push.length + k) ∧
    (∃ (q : QpId) (e : Entry) (rest : List (Nat × Entry)) (s : State), s.Canonical ∧ s.held = false ∧ s.fatal = false
      ∧ s.rootOn domSCHED = true ∧ s.qpEn q = true ∧ s.qps[q].halted = false ∧ s.qps[q].fetch = none ∧ s.qps[q].staged
      = [] ∧ s.qps[q].push = (s.qps[q].fetchPtr, e) :: rest ∧ (s.pressure q = .free ∨ (s.pressure q = .maintOnly ∧
      maintEntry e = true))) ∧
    (∃ (q : QpId) (e : Entry) (rest : List Entry) (more : List (List Entry)) (s : State), s.Canonical ∧ s.held = false
      ∧ s.fatal = false ∧ s.rootOn domSCHED = true ∧ s.qps[q].staged = (e :: rest) :: more ∧ (s.pressure q = .free ∨
      (s.pressure q = .maintOnly ∧ maintEntry e = true))) :=
  ⟨⟨.bar0, 0, 0, 0, up, takes_of _ _ _ _ (by decide +kernel), canonical_of _ (by decide +kernel), by decide +kernel⟩,
   ⟨.bar0, 0, 0, 32, up, takes_of _ _ _ _ (by decide +kernel), canonical_of _ (by decide +kernel), by decide +kernel⟩,
   ⟨.bar0, 0, 0, 32, (up.modQp 0 (fun x => { x with tail := 70000 })).setReg (at_ 0x010 0x014) 1, takes_of _ _ _ _ (by
     decide +kernel), canonical_of _ (by decide +kernel), by decide +kernel⟩,
   ⟨.bar0, 0, 0, 32, up.setReg (at_ 0x010 0x014) 1, takes_of _ _ _ _ (by decide +kernel), canonical_of _ (by
     decide +kernel), by decide +kernel⟩,
   ⟨.bar0, 0, 0, 32, (up.modQp 0 (fun x => { x with push := [(0, 5), (1, 5), (2, 5), (3, 5)] })).setReg (at_ 0x010
     0x014) 1, takes_of _ _ _ _ (by decide +kernel), canonical_of _ (by decide +kernel), by decide +kernel⟩,
   ⟨0, 5, [], (up.modQp 0 (fun x => { x with push := [(0, 5)] })).setReg (at_ 0x010 0x014) 1, canonical_of _ (by
     decide +kernel), by decide +kernel⟩,
   ⟨0, 5, [], [], (up.modQp 0 (fun x => { x with staged := [[5]] })).setReg (at_ (qpPage 0) 0x014) 1, canonical_of _
     (by decide +kernel), by decide +kernel⟩⟩

/-- The hypotheses of QueuePairControl can be met, clause by clause. -/
theorem test_queue_pair_control_applies :
    (∃ (c : Instr) (src : Source) (q : QpId) (v : Word) (s : State), s.Takes src (qpPage q) 0x014 ∧ s.Canonical ∧ (c =
      .qpEnable src q v ∨ c = .qpDisable src q v ∨ c = .eventQSet src q v)) ∧
    (∃ (c : Instr) (src : Source) (q : QpId) (v : Word) (s : State), s.Takes src (qpPage q) 0x014 ∧ s.Canonical ∧ (c =
      .qpEnable src q v ∨ c = .qpDisable src q v ∨ c = .eventQSet src q v) ∧ v.getLsbD 0 = true ∧ s.qpEn q = false ∧
      s.fw.mc ≠ .acornOnly ∧ s.qpIdle q = true ∧ s.parkAdmits q = true) ∧
    (∃ (c : Instr) (src : Source) (q : QpId) (v : Word) (s : State), s.Takes src (qpPage q) 0x014 ∧ s.Canonical ∧ (c =
      .qpEnable src q v ∨ c = .qpDisable src q v ∨ c = .eventQSet src q v) ∧ v.getLsbD 0 = true ∧ s.qpEn q = false ∧
      s.fw.mc = .acornOnly) ∧
    (∃ (c : Instr) (src : Source) (q : QpId) (v : Word) (s : State), s.Takes src (qpPage q) 0x014 ∧ s.Canonical ∧ (c =
      .qpEnable src q v ∨ c = .qpDisable src q v ∨ c = .eventQSet src q v) ∧ v.getLsbD 0 = true ∧ s.qpEn q = false ∧
      s.fw.mc ≠ .acornOnly ∧ s.qpIdle q = false) ∧
    (∃ (c : Instr) (src : Source) (q : QpId) (v : Word) (s : State), s.Takes src (qpPage q) 0x014 ∧ s.Canonical ∧ (c =
      .qpEnable src q v ∨ c = .qpDisable src q v ∨ c = .eventQSet src q v) ∧ v.getLsbD 0 = true ∧ s.qpEn q = false ∧
      s.fw.mc ≠ .acornOnly ∧ s.qpIdle q = true ∧ s.parkAdmits q = false) ∧
    (∃ (c : Instr) (src : Source) (q : QpId) (v : Word) (s : State), s.Takes src (qpPage q) 0x014 ∧ s.Canonical ∧ (c =
      .qpEnable src q v ∨ c = .qpDisable src q v ∨ c = .eventQSet src q v) ∧ v.getLsbD 0 = false ∧ s.qpEn q = true) ∧
    (∃ (c : Instr) (src : Source) (q : QpId) (v : Word) (s : State), s.Takes src (qpPage q) 0x014 ∧ s.Canonical ∧ (c =
      .qpEnable src q v ∨ c = .qpDisable src q v ∨ c = .eventQSet src q v) ∧ v.getLsbD 0 = s.qpEn q) :=
  ⟨⟨.qpEnable (.bar0) (0) (0), .bar0, 0, 0, up, takes_of _ _ _ _ (by decide +kernel), canonical_of _ (by
    decide +kernel), by decide +kernel⟩,
   ⟨.qpEnable (.bar0) (1) (1), .bar0, 1, 1, board [wItem] [], takes_of _ _ _ _ (by decide +kernel), canonical_of _ (by
     decide +kernel), by decide +kernel⟩,
   ⟨.qpEnable (.bar0) (0) (1), .bar0, 0, 1, up.modFw (fun x => { x with mc := .acornOnly }), takes_of _ _ _ _ (by
     decide +kernel), canonical_of _ (by decide +kernel), by decide +kernel⟩,
   ⟨.qpEnable (.bar0) (0) (1), .bar0, 0, 1, board [wItem] [], takes_of _ _ _ _ (by decide +kernel), canonical_of _ (by
     decide +kernel), by decide +kernel⟩,
   ⟨.qpEnable (.bar0) (1) (1), .bar0, 1, 1, (board [wItem] []).modSlice 0 (fun x => { x with qps := .allOnes _ }),
     takes_of _ _ _ _ (by decide +kernel), canonical_of _ (by decide +kernel), by decide +kernel⟩,
   ⟨.qpEnable (.bar0) (0) (0), .bar0, 0, 0, up.setReg (at_ 0x010 0x014) 1, takes_of _ _ _ _ (by decide +kernel),
     canonical_of _ (by decide +kernel), by decide +kernel⟩,
   ⟨.qpEnable (.bar0) (0) (0), .bar0, 0, 0, up, takes_of _ _ _ _ (by decide +kernel), canonical_of _ (by
     decide +kernel), by decide +kernel⟩⟩

/-- The hypotheses of RingFetches can be met, clause by clause. -/
theorem test_ring_fetches_applies :
    (∃ (s : State), s.held = false ∧ s.rootOn domSCHED = true ∧ s.fatal = false ∧ ((∃ q : QpId, s.fetchOk q = true ∧
      s.qps[q].fetch = none ∧ 0 < s.qps[q].visits) ∨ ((∀ q : QpId, s.fetchOk q = true → s.qps[q].visits = 0) ∧ ∃ q :
      QpId, s.fetchOk q = true ∧ s.qps[q].fetch = none ∧ 0 < s.fld (at_ (qpPage q) 0x11C) 0 5))) ∧
    (∃ (q : QpId) (f : Fetch) (e : Entry) (rest es : List Entry) (s : State), (∀ x ∈ (e :: rest).dropLast, eChain x =
      true) ∧ s.Canonical ∧ s.held = false ∧ s.fatal = false ∧ s.rootOn domSCHED = true ∧ s.qps[q].fetch = some f ∧
      f.part ++ es = e :: rest ∧ es ≠ [] ∧ es.length = f.cnt ∧ eChain ((e :: rest).getLast?.getD e) = false ∧ (rest =
      [] ∨ opOf (eOp e) = some .bulkOut ∨ opOf (eOp e) = some .bulkIn) ∧ rest.length < 64 ∧ (f.rest = 0 ∨ f.left ≤ 1)
      ∧ s.qps[q].staged = [] ∧ (s.pressure q = .free ∨ (s.pressure q = .maintOnly ∧ maintEntry e = true))) ∧
    (∃ (q : QpId) (f : Fetch) (e : Entry) (rest es : List Entry) (s : State), (∀ x ∈ (e :: rest).dropLast, eChain x =
      true) ∧ s.Canonical ∧ s.held = false ∧ s.fatal = false ∧ s.rootOn domSCHED = true ∧ s.qps[q].fetch = some f ∧
      f.part ++ es = e :: rest ∧ es ≠ [] ∧ es.length = f.cnt ∧ eChain ((e :: rest).getLast?.getD e) = false ∧ (rest =
      [] ∨ opOf (eOp e) = some .bulkOut ∨ opOf (eOp e) = some .bulkIn) ∧ rest.length < 64 ∧ (f.rest = 0 ∨ f.left ≤ 1)
      ∧ s.qps[q].staged = [] ∧ (s.pressure q = .held ∨ (s.pressure q = .maintOnly ∧ maintEntry e = false))) ∧
    (∃ (q : QpId) (f : Fetch) (es : List Entry) (s : State), (∀ x ∈ es, eChain x = false) ∧ s.held = false ∧ s.fatal =
      false ∧ s.rootOn domSCHED = true ∧ s.qps[q].fetch = some f ∧ f.part = [] ∧ es.length = f.cnt ∧ (f.rest = 0 ∨
      f.left ≤ es.length) ∧ s.pressure q = .held) ∧
    (∃ (q : QpId) (f : Fetch) (e : Entry) (rest es : List Entry) (s : State), (∀ x ∈ e :: rest, eChain x = true) ∧
      s.held = false ∧ s.fatal = false ∧ s.rootOn domSCHED = true ∧ s.qps[q].fetch = some f ∧ f.part ++ es = e :: rest
      ∧ es.length = f.cnt ∧ (opOf (eOp e) = some .bulkOut ∨ opOf (eOp e) = some .bulkIn) ∧ rest.length < 63 ∧ f.rest =
      0 ∧ s.qps[q].push = []) ∧
    (∃ (q : QpId) (f : Fetch) (e : Entry) (rest es : List Entry) (s : State), (∀ x ∈ e :: rest, eChain x = true) ∧
      s.held = false ∧ s.fatal = false ∧ s.rootOn domSCHED = true ∧ s.qps[q].fetch = some f ∧ f.part ++ es = e :: rest
      ∧ es.length = f.cnt ∧ (opOf (eOp e) = some .bulkOut ∨ opOf (eOp e) = some .bulkIn) ∧ rest.length < 63 ∧ 0 <
      f.rest ∧ 0 < f.left) ∧
    (∃ (q : QpId) (f : Fetch) (s : State), (∀ x ∈ f.part, eChain x = true) ∧ (∀ x ∈ f.part.head?, opOf (eOp x) = some
      .bulkOut ∨ opOf (eOp x) = some .bulkIn) ∧ s.Canonical ∧ s.held = false ∧ s.fatal = false ∧ s.rootOn domSCHED =
      true ∧ s.qps[q].fetch = some f ∧ 0 < f.cnt ∧ f.part.length < 64 ∧ s.qps[q].staged = []) ∧
    (∃ (q : QpId) (f : Fetch) (s : State), (∀ x ∈ f.part, eChain x = true) ∧ (∀ x ∈ f.part.head?, opOf (eOp x) = some
      .bulkOut ∨ opOf (eOp x) = some .bulkIn) ∧ s.Canonical ∧ s.held = false ∧ s.fatal = false ∧ s.rootOn domSCHED =
      true ∧ s.qps[q].fetch = some f ∧ 0 < f.cnt ∧ f.part.length < 64 ∧ s.qps[q].staged ≠ []) :=
  ⟨⟨((up.setReg (at_ 0x010 0x014) 1).setReg (at_ 0x010 0x11C) 0x0101).modQp 0 (fun x => { x with tail := 1 }), by
    decide +kernel⟩,
   ⟨0, ⟨0, 1, 0, 1, [], 1⟩, 5, [], [5], up.modQp 0 (fun x => { x with fetch := some ⟨0, 1, 0, 1, [], 1⟩ }),
     all_of (by decide +kernel), canonical_of _ (by decide +kernel), by decide +kernel⟩,
   ⟨0, ⟨0, 1, 0, 1, [], 1⟩, 5, [], [5], (((board [wItem] []).setReg (at_ 0x050 0x104) 9).setReg (at_ (qpPage 0) 0x014)
     1).modQp 0 (fun x => { x with fetch := some ⟨0, 1, 0, 1, [], 1⟩ }), all_of (by decide +kernel), canonical_of _
     (by decide +kernel), by decide +kernel⟩,
   ⟨0, ⟨0, 1, 0, 1, [], 1⟩, [5], (((board [wItem] []).setReg (at_ 0x050 0x104) 9).setReg (at_ (qpPage 0) 0x014)
     1).modQp 0 (fun x => { x with fetch := some ⟨0, 1, 0, 1, [], 1⟩ }), all_of (by decide +kernel), by
     decide +kernel⟩,
   ⟨0, ⟨0, 1, 0, 1, [], 1⟩, 0x1002, [], [0x1002], up.modQp 0 (fun x => { x with fetch := some ⟨0, 1, 0, 1, [], 1⟩ }),
     all_of (by decide +kernel), by decide +kernel⟩,
   ⟨0, ⟨0, 1, 1, 2, [], 1⟩, 0x1002, [], [0x1002], up.modQp 0 (fun x => { x with fetch := some ⟨0, 1, 1, 2, [], 1⟩ }),
     all_of (by decide +kernel), by decide +kernel⟩,
   ⟨0, ⟨0, 1, 0, 1, [], 1⟩, up.modQp 0 (fun x => { x with fetch := some ⟨0, 1, 0, 1, [], 1⟩ }),
     all_of (by decide +kernel), some_of (by decide +kernel), canonical_of _ (by decide +kernel), by decide +kernel⟩,
   ⟨0, ⟨0, 1, 0, 1, [], 1⟩, up.modQp 0 (fun x => { x with fetch := some ⟨0, 1, 0, 1, [], 1⟩, staged := [[5]] }),
     all_of (by decide +kernel), some_of (by decide +kernel), canonical_of _ (by decide +kernel), by decide +kernel⟩⟩

/-- The hypotheses of CommitsToHostMemory can be met, clause by clause. -/
theorem test_commits_to_host_memory_applies :
    (∃ (page : Fin 512) (w : Waiting) (q : QpId) (s : State), s.Canonical ∧ s.held = false ∧ s.fatal = false ∧
      s.rootOn domSCHED = true ∧ s.events.find? (fun x => x.page = page.val) = some w ∧ s.eventQ (s.eventOwner
      page.val) = some q ∧ s.credit q ≠ 0 ∧ s.recordStale (s.eventOwner page.val) (s.genOf (s.eventOwner page.val)) =
      false) ∧
    (∃ (q : QpId) (r : Parked) (s : State), s.held = false ∧ s.fatal = false ∧ s.rootOn domSCHED = true ∧ s.park.find?
      (fun x => x.qp = q) = some r ∧ s.cqFree q ≠ 0 ∧ s.recordStale r.owner r.gen = false ∧ r.gen = s.genOf r.owner) ∧
    (∃ (q : QpId) (r : Parked) (s : State) (i : SliceId), s.Canonical ∧ s.held = false ∧ s.fatal = false ∧ s.rootOn
      domSCHED = true ∧ s.park.find? (fun x => x.qp = q) = some r ∧ s.cqFree q ≠ 0 ∧ r.owner = some i ∧ s.recordStale
      r.owner r.gen = true) ∧
    (∃ (q : QpId) (s : State), s.held = false ∧ s.fatal = false ∧ s.rootOn domSCHED = true ∧ s.qps[q].mirrorDue = true
      ∧ s.flag (at_ (qpPage q) 0x14) 1 = true ∧ s.recordStale (s.ownerQp q) (s.genOf (s.ownerQp q)) = false) ∧
    (∃ (c : Instr) (q : QpId) (s : State), s.Canonical ∧ s.held = false ∧ s.rootOn domSCHED = true ∧ ((c =
      .coalCountReached q ∧ (s.coalMax q ≤ s.qps[q].coalCount ∨ s.qps[q].coalHit = true)) ∨ (c = .coalTimerExpiry q ∧
      s.fld (at_ (qpPage q) 0x128) 8 16 ≠ 0 ∧ s.qps[q].coalStart.isSome = true))) :=
  ⟨⟨0, ⟨0, 1, 0, 0, 1, 0⟩, 0, ({ up with events := [⟨0, 1, 0, 0, 1, 0⟩] }).setReg (at_ 0x010 0x014) 9, canonical_of _
    (by decide +kernel), by decide +kernel⟩,
   ⟨0, ⟨0, none, 0, 0⟩, { up with park := [⟨0, none, 0, 0⟩] }, by decide +kernel⟩,
   ⟨0, ⟨0, some 0, 1, 0⟩, { up with park := [⟨0, some 0, 1, 0⟩] }, 0, canonical_of _ (by decide +kernel), by
     decide +kernel⟩,
   ⟨0, (up.modQp 0 (fun x => { x with mirrorDue := true })).setReg (at_ 0x010 0x014) 2, by decide +kernel⟩,
   ⟨.coalCountReached (0), 0, up.modQp 0 (fun x => { x with coalCount := 1 }), canonical_of _ (by decide +kernel), by
     decide +kernel⟩⟩

/-- The hypotheses of DispatchOfItems can be met, clause by clause. -/
theorem test_dispatch_of_items_applies :
    (∃ (s : State), s.held = false ∧ s.fatal = false ∧ s.fw.paused = false ∧ s.rootOn domSCHED = true ∧ (∃ it ∈ s.wis,
      s.eligible it = true) ∧ (∃ e : EngId, s.pipItem e = none)) ∧
    (∃ (e : EngId) (it : Item) (s : State), s.held = false ∧ s.fatal = false ∧ s.fw.paused = false ∧ s.rootOn domSCHED
      = true ∧ s.pipItem e = some it ∧ s.itemVerdict it = .wait) ∧
    (∃ (e : EngId) (it : Item) (s : State) (st d : Nat), s.Live it ∧ it.listDone ∧ s.Canonical ∧ s.held = false ∧
      s.fatal = false ∧ s.fw.paused = false ∧ s.rootOn domSCHED = true ∧ s.pipItem e = some it ∧ s.itemVerdict it =
      .ends st d) ∧
    (∃ (e : EngId) (it : Item) (s : State), s.held = false ∧ s.fatal = false ∧ s.fw.paused = false ∧ s.rootOn domSCHED
      = true ∧ s.pipItem e = some it ∧ s.itemVerdict it = .run ∧ s.couldStart e it.op = true) ∧
    (∃ (e : EngId) (it : Item) (s : State), s.held = false ∧ s.fatal = false ∧ s.fw.paused = false ∧ s.rootOn domSCHED
      = true ∧ s.pipItem e = some it ∧ s.itemVerdict it = .run ∧ s.couldStart e it.op = false) ∧
    (∃ (e f : EngId) (it : Item) (s : State), s.Canonical ∧ s.held = false ∧ s.fatal = false ∧ s.pipItem e = some it ∧
      f ≠ e ∧ (it.op.isBulk = true ∨ it.op = .control) ∧ s.pipItem f = none ∧ s.couldStart f it.op = true) ∧
    (∃ (it : Item) (s : State), s.Live it ∧ it.listDone ∧ s.Canonical ∧ s.held = false ∧ s.fatal = false ∧ s.rootOn
      domSCHED = true ∧ it ∈ s.wis ∧ it.st = .ready ∧ it.retiring = true ∧ 1 ≤ s.credit it.qp ∧ (∀ x ∈ s.wis, x ≠ it →
      x.st = .ready → x.retiring = true → 1 ≤ s.credit x.qp → it.readyNo < x.readyNo)) :=
  ⟨⟨board [{ wItem with entry := 1 }] [], by decide +kernel⟩,
   ⟨0, { wItem with st := .pip 0 }, (board [{ wItem with st := .pip 0 }] []).modPort 0 (fun x =>
     { x with st := .resetting }), by decide +kernel⟩,
   ⟨0, { wItem with entry := 2, st := .pip 0 }, board [{ wItem with entry := 2, st := .pip 0 }] [], 0x0B, 2, live_of _
     _ (by decide +kernel), listDone_of _ (by decide +kernel), canonical_of _ (by decide +kernel), by decide +kernel⟩,
   ⟨0, { wItem with entry := 17, st := .pip 0 }, board [{ wItem with entry := 17, st := .pip 0 }] [], by
     decide +kernel⟩,
   ⟨0, { wItem with entry := 2, st := .pip 0 }, ((board [{ wItem with entry := 2, st := .pip 0 },
     { wItem with entry := 2, id := 1, st := .service 0 (some 0) }] []).modPort 0 (fun x =>
     { x with st := .enabled })).setReg (at_ 0x050 0x108) 15, by decide +kernel⟩,
   ⟨1, 0, { wItem with entry := 1, st := .pip 1 }, board [{ wItem with entry := 1, st := .pip 1 }] [], canonical_of _
     (by decide +kernel), by decide +kernel⟩,
   ⟨wItem, board [wItem] [], live_of _ _ (by decide +kernel), listDone_of _ (by decide +kernel), canonical_of _ (by
     decide +kernel), by decide +kernel⟩⟩

/-- The hypotheses of ReleaseAgeAndWindows can be met, clause by clause. -/
theorem test_release_age_and_windows_applies :
    (∃ (it : Item) (p : PortId) (s : State), s.held = false ∧ s.fatal = false ∧ s.rootOn domTIME = true ∧ s.item?
      it.id = some it ∧ it.st = .frameWait ∧ portId? it.port = some p ∧ s.isoPassed it = false) ∧
    (∃ (it : Item) (p : PortId) (s : State), s.Canonical ∧ s.held = false ∧ s.fatal = false ∧ s.rootOn domTIME = true
      ∧ s.item? it.id = some it ∧ it.st = .frameWait ∧ portId? it.port = some p ∧ s.isoPassed it = true) ∧
    (∃ (s : State), s.Canonical ∧ s.held = false ∧ s.fatal = false ∧ s.rootOn domTIME = true) ∧
    (∃ (s : State), s.held = false) ∧
    (∃ (s : State), s.Canonical ∧ s.timeRuns = true ∧ s.rootOn domSCHED = true ∧ s.ctl.windowOff = false) :=
  ⟨⟨{ wItem with st := .frameWait }, 0, board [{ wItem with st := .frameWait }] [], by decide +kernel⟩,
   ⟨{ wItem with entry := 6 + 16000 * 2 ^ 160 + 2 ^ 192, st := .frameWait }, 0, board
     [{ wItem with entry := 6 + 16000 * 2 ^ 160 + 2 ^ 192, st := .frameWait }] [], canonical_of _ (by decide +kernel),
     by decide +kernel⟩,
   ⟨up, canonical_of _ (by decide +kernel), by decide +kernel⟩,
   ⟨up, by decide +kernel⟩,
   ⟨up, canonical_of _ (by decide +kernel), by decide +kernel⟩⟩

/-- The hypotheses of ContextReadsAndFlush can be met, clause by clause. -/
theorem test_context_reads_and_flush_applies :
    (∃ (id : Nat) (it : Item) (s : State), s.Live it ∧ it.listDone ∧ s.Canonical ∧ s.serving id = some it ∧
      it.x.ctxReady = false) ∧
    (∃ (id : Nat) (it : Item) (s : State) (p : PortId), s.Live it ∧ it.listDone ∧ s.Canonical ∧ s.serving id = some it
      ∧ it.x.ctxReady = false ∧ portId? it.port = some p) ∧
    (∃ (src : Source) (s : State), s.Takes src 0x060 0x014) ∧
    (∃ (s : State), s.flushing = true ∧ s.held = false ∧ s.fatal = false) :=
  ⟨⟨0, { wItem with st := .service 0 none }, board [{ wItem with st := .service 0 none }] [wCtx], live_of _ _ (by
    decide +kernel), listDone_of _ (by decide +kernel), canonical_of _ (by decide +kernel), by decide +kernel⟩,
   ⟨0, { wItem with st := .service 0 none }, board [{ wItem with st := .service 0 none }] [wCtx], 0, live_of _ _ (by
     decide +kernel), listDone_of _ (by decide +kernel), canonical_of _ (by decide +kernel), by decide +kernel⟩,
   ⟨.bar0, up, takes_of _ _ _ _ (by decide +kernel)⟩,
   ⟨{ up with flushing := true }, by decide +kernel⟩⟩

/-- The hypotheses of TransfersStart can be met, clause by clause. -/
theorem test_transfers_start_applies :
    (∃ (c : Instr) (id : Nat) (o : Op) (it : Item) (s : State) (x : Ctx), s.Canonical ∧ ((c = .control id ∧ o =
      .control) ∨ (c = .bulkOut id ∧ o = .bulkOut) ∨ (c = .bulkIn id ∧ o = .bulkIn) ∨ (c = .intrOut id ∧ o = .intrOut)
      ∨ (c = .intrIn id ∧ o = .intrIn) ∨ (c = .isocOut id ∧ o = .isocOut) ∨ (c = .isocIn id ∧ o = .isocIn)) ∧
      s.serving id = some it ∧ it.op = o ∧ it.x.ctxReady = true ∧ it.x.running = false ∧ s.ctxOf it = some x ∧
      x.halted = false ∧ (∀ n ∈ (eLength it.entry :: it.segs.map (fun g => g.2)).dropLast, n % x.mps = 0)) ∧
    (∃ (c : Instr) (id : Nat) (o : Op) (it : Item) (s : State), s.Canonical ∧ s.Live it ∧ it.listDone ∧ ((c = .control
      id ∧ o = .control) ∨ (c = .bulkOut id ∧ o = .bulkOut) ∨ (c = .bulkIn id ∧ o = .bulkIn) ∨ (c = .intrOut id ∧ o =
      .intrOut) ∨ (c = .intrIn id ∧ o = .intrIn) ∨ (c = .isocOut id ∧ o = .isocOut) ∨ (c = .isocIn id ∧ o = .isocIn))
      ∧ s.serving id = some it ∧ it.op = o ∧ it.x.ctxReady = true ∧ it.x.running = false ∧ s.ctxOf it = none) ∧
    (∃ (c : Instr) (id : Nat) (o : Op) (it : Item) (s : State) (x : Ctx), s.Canonical ∧ s.Live it ∧ it.listDone ∧ ((c
      = .control id ∧ o = .control) ∨ (c = .bulkOut id ∧ o = .bulkOut) ∨ (c = .bulkIn id ∧ o = .bulkIn) ∨ (c =
      .intrOut id ∧ o = .intrOut) ∨ (c = .intrIn id ∧ o = .intrIn) ∨ (c = .isocOut id ∧ o = .isocOut) ∨ (c = .isocIn
      id ∧ o = .isocIn)) ∧ s.serving id = some it ∧ it.op = o ∧ it.x.ctxReady = true ∧ it.x.running = false ∧ s.ctxOf
      it = some x ∧ x.halted = true) ∧
    (∃ (c : Instr) (id : Nat) (o : Op) (it : Item) (s : State) (x : Ctx), s.Canonical ∧ s.Live it ∧ it.listDone ∧ ((c
      = .control id ∧ o = .control) ∨ (c = .bulkOut id ∧ o = .bulkOut) ∨ (c = .bulkIn id ∧ o = .bulkIn) ∨ (c =
      .intrOut id ∧ o = .intrOut) ∨ (c = .intrIn id ∧ o = .intrIn) ∨ (c = .isocOut id ∧ o = .isocOut) ∨ (c = .isocIn
      id ∧ o = .isocIn)) ∧ s.serving id = some it ∧ it.op = o ∧ it.x.ctxReady = true ∧ it.x.running = false ∧ s.ctxOf
      it = some x ∧ x.halted = false ∧ (∃ n ∈ (eLength it.entry :: it.segs.map (fun g => g.2)).dropLast, n % x.mps ≠
      0)) :=
  ⟨⟨.bulkOut 0, 0, .bulkOut,
    { wItem with entry := 2, st := .service 0 none, x := { Xfer.init with ctxReady := true } }, board
    [{ wItem with entry := 2, st := .service 0 none, x := { Xfer.init with ctxReady := true } }] [wCtx], wCtx,
    canonical_of _ (by decide +kernel), by decide +kernel⟩,
   ⟨.control (0), 0, .control,
     { wItem with entry := 1 + 2 ^ 45, st := .service 0 none, x := { Xfer.init with ctxReady := true } }, board
     [{ wItem with entry := 1 + 2 ^ 45, st := .service 0 none, x := { Xfer.init with ctxReady := true } }] [wCtx],
     canonical_of _ (by decide +kernel), live_of _ _ (by decide +kernel), listDone_of _ (by decide +kernel), by
     decide +kernel⟩,
   ⟨.control (0), 0, .control,
     { wItem with entry := 1, st := .service 0 none, x := { Xfer.init with ctxReady := true } }, board
     [{ wItem with entry := 1, st := .service 0 none, x := { Xfer.init with ctxReady := true } }]
     [{ wCtx with halted := true }], { wCtx with halted := true }, canonical_of _ (by decide +kernel), live_of _ _ (by
     decide +kernel), listDone_of _ (by decide +kernel), by decide +kernel⟩,
   ⟨.bulkOut 0, 0, .bulkOut,
     { wItem with entry := 2 + 2 ^ 128, st := .service 0 none, segs := [(0, 0)], x := { Xfer.init with ctxReady := true } },
     board
     [{ wItem with entry := 2 + 2 ^ 128, st := .service 0 none, segs := [(0, 0)], x := { Xfer.init with ctxReady := true } }]
     [wCtx], wCtx, canonical_of _ (by decide +kernel), live_of _ _ (by decide +kernel), listDone_of _ (by
     decide +kernel), by decide +kernel⟩⟩

/-- The hypotheses of EndpointCommands can be met, clause by clause. -/
theorem test_endpoint_commands_applies :
    (∃ (id : Nat) (it : Item) (p : PortId) (s : State),
      let e := it.entry
      let hs := s.ports[p].speed = 0
      let hub := eHubAddr e
      let wrong := (hub ≠ 0 ∧ ¬ hs) ∨ (hub ≠ 0 ∧ (s.dw7 it).2.1 = 0) ∨ (hub = 0 ∧ (s.dw7 it).2.1 ≠ 0)
      s.Live it ∧ it.listDone ∧ s.Canonical ∧ s.serving id = some it ∧ it.op = .epOpen ∧ it.x.ctxReady = true ∧
        it.x.running = false ∧ portId? it.port = some p ∧ wrong) ∧
    (∃ (id : Nat) (it : Item) (p : PortId) (s : State),
      let e := it.entry
      let hs := s.ports[p].speed = 0
      let hub := eHubAddr e
      let speed := if hub = 0 then s.ports[p].speed else (s.dw7 it).2.1
      let wrong := (hub ≠ 0 ∧ ¬ hs) ∨ (hub ≠ 0 ∧ (s.dw7 it).2.1 = 0) ∨ (hub = 0 ∧ (s.dw7 it).2.1 ≠ 0)
      let bad := epComboOk speed (eType e) (eLength e) (eMult e) (eInterval e) = false ∨ (hub ≠ 0 ∧ eType e = 1 ∧ (if
        it.keyDir then 564 else 188) < eLength e)
      s.Live it ∧ it.listDone ∧ s.Canonical ∧ s.serving id = some it ∧ it.op = .epOpen ∧ it.x.ctxReady = true ∧
        it.x.running = false ∧ portId? it.port = some p ∧ ¬ wrong ∧ bad) ∧
    (∃ (id : Nat) (it : Item) (p : PortId) (s : State),
      let e := it.entry
      let hs := s.ports[p].speed = 0
      let hub := eHubAddr e
      let speed := if hub = 0 then s.ports[p].speed else (s.dw7 it).2.1
      let periodic := eType e = 1 ∨ eType e = 3
      let wrong := (hub ≠ 0 ∧ ¬ hs) ∨ (hub ≠ 0 ∧ (s.dw7 it).2.1 = 0) ∨ (hub = 0 ∧ (s.dw7 it).2.1 ≠ 0)
      let bad := epComboOk speed (eType e) (eLength e) (eMult e) (eInterval e) = false ∨ (hub ≠ 0 ∧ eType e = 1 ∧ (if
        it.keyDir then 564 else 188) < eLength e)
      s.Live it ∧ it.listDone ∧ s.Canonical ∧ s.serving id = some it ∧ it.op = .epOpen ∧ it.x.ctxReady = true ∧
        it.x.running = false ∧ portId? it.port = some p ∧ ¬ wrong ∧ ¬ bad ∧ ¬ periodic) ∧
    (∃ (id : Nat) (it : Item) (p : PortId) (s : State),
      let e := it.entry
      let hs := s.ports[p].speed = 0
      let hub := eHubAddr e
      let split := hs ∧ hub ≠ 0
      let speed := if hub = 0 then s.ports[p].speed else (s.dw7 it).2.1
      let periodic := eType e = 1 ∨ eType e = 3
      let wrong := (hub ≠ 0 ∧ ¬ hs) ∨ (hub ≠ 0 ∧ (s.dw7 it).2.1 = 0) ∨ (hub = 0 ∧ (s.dw7 it).2.1 ≠ 0)
      let bad := epComboOk speed (eType e) (eLength e) (eMult e) (eInterval e) = false ∨ (hub ≠ 0 ∧ eType e = 1 ∧ (if
        it.keyDir then 564 else 188) < eLength e)
      let c : Ctx :=
        { port := p, addr := eAddr e, ep := eEp e, dir := it.keyDir, owner := it.owner, gen := it.gen, halted := false, typ := eType e, speed := speed, toggle := false, mult := eMult e, interval := eInterval e, mps := eLength e, hubAddr := hub, hubPort := eHubPort e, phase := 0, splitY := 0, charge := if periodic then portCharge (decide (hub ≠ 0)) speed (eType e) (eLength e) (eMult e) it.keyDir else 0, bufId := 0, granules := if periodic then granulesOf (eLength e) (eMult e) else 0, iface := (s.dw7 it).1, devSpeed := (s.dw7 it).2.1, nextAt := 0, svcAt := 0, svcUsed := 0, errs := 0, snooped := false, block := (s.dw7 it).2.2, dirty := true, cached := true, used := s.ordinal }
      let mine := s.ctxs.filter (fun d => d.port == p && !d.same c)
      let at' (ph y : Nat) : Ctx := { c with phase := ph, splitY := y }
      let place (ph y : Nat) : Prop := ph < min (2 ^ eInterval e) (if hs ∧ hub = 0 then 256 else 32) ∧ (if split then
        y < 4 else y = 0)
      let fits (ph y : Nat) : Prop := ∀ i : Nat, i < (if hs then 256 else 32) → (at' ph y).load (decide hs) i ≠ 0 →
        mine.foldl (fun n d => n + d.load (decide hs) i) ((at' ph y).load (decide hs) i) ≤ if hs then 48000 else 10800
      s.Live it ∧ it.listDone ∧ s.Canonical ∧ (∀ ph y : Nat, place ph y → ¬ fits ph y) ∧ s.serving id = some it ∧
        it.op = .epOpen ∧ it.x.ctxReady = true ∧ it.x.running = false ∧ portId? it.port = some p ∧ ¬ wrong ∧ ¬ bad ∧
        periodic) ∧
    (∃ (id : Nat) (it : Item) (p : PortId) (s : State) (ph y : Nat),
      let e := it.entry
      let hs := s.ports[p].speed = 0
      let hub := eHubAddr e
      let split := hs ∧ hub ≠ 0
      let speed := if hub = 0 then s.ports[p].speed else (s.dw7 it).2.1
      let periodic := eType e = 1 ∨ eType e = 3
      let wrong := (hub ≠ 0 ∧ ¬ hs) ∨ (hub ≠ 0 ∧ (s.dw7 it).2.1 = 0) ∨ (hub = 0 ∧ (s.dw7 it).2.1 ≠ 0)
      let bad := epComboOk speed (eType e) (eLength e) (eMult e) (eInterval e) = false ∨ (hub ≠ 0 ∧ eType e = 1 ∧ (if
        it.keyDir then 564 else 188) < eLength e)
      let c : Ctx :=
        { port := p, addr := eAddr e, ep := eEp e, dir := it.keyDir, owner := it.owner, gen := it.gen, halted := false, typ := eType e, speed := speed, toggle := false, mult := eMult e, interval := eInterval e, mps := eLength e, hubAddr := hub, hubPort := eHubPort e, phase := 0, splitY := 0, charge := if periodic then portCharge (decide (hub ≠ 0)) speed (eType e) (eLength e) (eMult e) it.keyDir else 0, bufId := 0, granules := if periodic then granulesOf (eLength e) (eMult e) else 0, iface := (s.dw7 it).1, devSpeed := (s.dw7 it).2.1, nextAt := 0, svcAt := 0, svcUsed := 0, errs := 0, snooped := false, block := (s.dw7 it).2.2, dirty := true, cached := true, used := s.ordinal }
      let mine := s.ctxs.filter (fun d => d.port == p && !d.same c)
      let at' (ph y : Nat) : Ctx := { c with phase := ph, splitY := y }
      let place (ph y : Nat) : Prop := ph < min (2 ^ eInterval e) (if hs ∧ hub = 0 then 256 else 32) ∧ (if split then
        y < 4 else y = 0)
      let load (ph y : Nat) : Nat := highest mine (at' ph y) (decide hs)
      let fits (ph y : Nat) : Prop := ∀ i : Nat, i < (if hs then 256 else 32) → (at' ph y).load (decide hs) i ≠ 0 →
        mine.foldl (fun n d => n + d.load (decide hs) i) ((at' ph y).load (decide hs) i) ≤ if hs then 48000 else 10800
      let best (ph y : Nat) : Prop := place ph y ∧ ∀ ph' y' : Nat, place ph' y' → load ph y < load ph' y' ∨ (load ph y
        = load ph' y' ∧ (ph < ph' ∨ (ph = ph' ∧ y ≤ y')))
      let ttFull (ph y : Nat) : Prop := split ∧ ∃ f : Nat, f < 32 ∧ (at' ph y).ttLoad f ≠ 0 ∧ 10800 < (mine.filter
        (fun d => d.hubAddr == hub)).foldl (fun n d => n + d.ttLoad f) ((at' ph y).ttLoad f)
      s.Live it ∧ it.listDone ∧ s.Canonical ∧ best ph y ∧ s.serving id = some it ∧ it.op = .epOpen ∧ it.x.ctxReady =
        true ∧ it.x.running = false ∧ portId? it.port = some p ∧ ¬ wrong ∧ ¬ bad ∧ periodic ∧ fits ph y ∧ ttFull ph y)
        ∧
    (∃ (id : Nat) (it : Item) (p : PortId) (s : State) (ph y : Nat),
      let e := it.entry
      let hs := s.ports[p].speed = 0
      let hub := eHubAddr e
      let split := hs ∧ hub ≠ 0
      let speed := if hub = 0 then s.ports[p].speed else (s.dw7 it).2.1
      let periodic := eType e = 1 ∨ eType e = 3
      let wrong := (hub ≠ 0 ∧ ¬ hs) ∨ (hub ≠ 0 ∧ (s.dw7 it).2.1 = 0) ∨ (hub = 0 ∧ (s.dw7 it).2.1 ≠ 0)
      let bad := epComboOk speed (eType e) (eLength e) (eMult e) (eInterval e) = false ∨ (hub ≠ 0 ∧ eType e = 1 ∧ (if
        it.keyDir then 564 else 188) < eLength e)
      let c : Ctx :=
        { port := p, addr := eAddr e, ep := eEp e, dir := it.keyDir, owner := it.owner, gen := it.gen, halted := false, typ := eType e, speed := speed, toggle := false, mult := eMult e, interval := eInterval e, mps := eLength e, hubAddr := hub, hubPort := eHubPort e, phase := 0, splitY := 0, charge := if periodic then portCharge (decide (hub ≠ 0)) speed (eType e) (eLength e) (eMult e) it.keyDir else 0, bufId := 0, granules := if periodic then granulesOf (eLength e) (eMult e) else 0, iface := (s.dw7 it).1, devSpeed := (s.dw7 it).2.1, nextAt := 0, svcAt := 0, svcUsed := 0, errs := 0, snooped := false, block := (s.dw7 it).2.2, dirty := true, cached := true, used := s.ordinal }
      let mine := s.ctxs.filter (fun d => d.port == p && !d.same c)
      let at' (ph y : Nat) : Ctx := { c with phase := ph, splitY := y }
      let place (ph y : Nat) : Prop := ph < min (2 ^ eInterval e) (if hs ∧ hub = 0 then 256 else 32) ∧ (if split then
        y < 4 else y = 0)
      let load (ph y : Nat) : Nat := highest mine (at' ph y) (decide hs)
      let fits (ph y : Nat) : Prop := ∀ i : Nat, i < (if hs then 256 else 32) → (at' ph y).load (decide hs) i ≠ 0 →
        mine.foldl (fun n d => n + d.load (decide hs) i) ((at' ph y).load (decide hs) i) ≤ if hs then 48000 else 10800
      let best (ph y : Nat) : Prop := place ph y ∧ ∀ ph' y' : Nat, place ph' y' → load ph y < load ph' y' ∨ (load ph y
        = load ph' y' ∧ (ph < ph' ∨ (ph = ph' ∧ y ≤ y')))
      let ttFull (ph y : Nat) : Prop := split ∧ ∃ f : Nat, f < 32 ∧ (at' ph y).ttLoad f ≠ 0 ∧ 10800 < (mine.filter
        (fun d => d.hubAddr == hub)).foldl (fun n d => n + d.ttLoad f) ((at' ph y).ttLoad f)
      let free := 6144 - s.fld (at_ 0x070 0x100) 0 13
      let all := s.perAlloc (fun d => !d.same c) + c.granules
      s.Live it ∧ it.listDone ∧ s.Canonical ∧ best ph y ∧ s.serving id = some it ∧ it.op = .epOpen ∧ it.x.ctxReady =
        true ∧ it.x.running = false ∧ portId? it.port = some p ∧ ¬ wrong ∧ ¬ bad ∧ periodic ∧ fits ph y ∧ ¬ ttFull ph
        y ∧ free < all) ∧
    (∃ (id : Nat) (it : Item) (p : PortId) (s : State) (ph y : Nat),
      let e := it.entry
      let hs := s.ports[p].speed = 0
      let hub := eHubAddr e
      let split := hs ∧ hub ≠ 0
      let speed := if hub = 0 then s.ports[p].speed else (s.dw7 it).2.1
      let periodic := eType e = 1 ∨ eType e = 3
      let wrong := (hub ≠ 0 ∧ ¬ hs) ∨ (hub ≠ 0 ∧ (s.dw7 it).2.1 = 0) ∨ (hub = 0 ∧ (s.dw7 it).2.1 ≠ 0)
      let bad := epComboOk speed (eType e) (eLength e) (eMult e) (eInterval e) = false ∨ (hub ≠ 0 ∧ eType e = 1 ∧ (if
        it.keyDir then 564 else 188) < eLength e)
      let c : Ctx :=
        { port := p, addr := eAddr e, ep := eEp e, dir := it.keyDir, owner := it.owner, gen := it.gen, halted := false, typ := eType e, speed := speed, toggle := false, mult := eMult e, interval := eInterval e, mps := eLength e, hubAddr := hub, hubPort := eHubPort e, phase := 0, splitY := 0, charge := if periodic then portCharge (decide (hub ≠ 0)) speed (eType e) (eLength e) (eMult e) it.keyDir else 0, bufId := 0, granules := if periodic then granulesOf (eLength e) (eMult e) else 0, iface := (s.dw7 it).1, devSpeed := (s.dw7 it).2.1, nextAt := 0, svcAt := 0, svcUsed := 0, errs := 0, snooped := false, block := (s.dw7 it).2.2, dirty := true, cached := true, used := s.ordinal }
      let mine := s.ctxs.filter (fun d => d.port == p && !d.same c)
      let at' (ph y : Nat) : Ctx := { c with phase := ph, splitY := y }
      let place (ph y : Nat) : Prop := ph < min (2 ^ eInterval e) (if hs ∧ hub = 0 then 256 else 32) ∧ (if split then
        y < 4 else y = 0)
      let load (ph y : Nat) : Nat := highest mine (at' ph y) (decide hs)
      let fits (ph y : Nat) : Prop := ∀ i : Nat, i < (if hs then 256 else 32) → (at' ph y).load (decide hs) i ≠ 0 →
        mine.foldl (fun n d => n + d.load (decide hs) i) ((at' ph y).load (decide hs) i) ≤ if hs then 48000 else 10800
      let best (ph y : Nat) : Prop := place ph y ∧ ∀ ph' y' : Nat, place ph' y' → load ph y < load ph' y' ∨ (load ph y
        = load ph' y' ∧ (ph < ph' ∨ (ph = ph' ∧ y ≤ y')))
      let ttFull (ph y : Nat) : Prop := split ∧ ∃ f : Nat, f < 32 ∧ (at' ph y).ttLoad f ≠ 0 ∧ 10800 < (mine.filter
        (fun d => d.hubAddr == hub)).foldl (fun n d => n + d.ttLoad f) ((at' ph y).ttLoad f)
      let free := 6144 - s.fld (at_ 0x070 0x100) 0 13
      let all := s.perAlloc (fun d => !d.same c) + c.granules
      let own := s.perAlloc (fun d => !d.same c && d.owner == it.owner) + c.granules
      s.Live it ∧ it.listDone ∧ s.Canonical ∧ best ph y ∧ s.serving id = some it ∧ it.op = .epOpen ∧ it.x.ctxReady =
        true ∧ it.x.running = false ∧ portId? it.port = some p ∧ ¬ wrong ∧ ¬ bad ∧ periodic ∧ fits ph y ∧ ¬ ttFull ph
        y ∧ all ≤ free ∧ s.granQuota it.owner < own) ∧
    (∃ (id : Nat) (it : Item) (p : PortId) (s : State) (ph y : Nat),
      let e := it.entry
      let hs := s.ports[p].speed = 0
      let hub := eHubAddr e
      let split := hs ∧ hub ≠ 0
      let speed := if hub = 0 then s.ports[p].speed else (s.dw7 it).2.1
      let periodic := eType e = 1 ∨ eType e = 3
      let wrong := (hub ≠ 0 ∧ ¬ hs) ∨ (hub ≠ 0 ∧ (s.dw7 it).2.1 = 0) ∨ (hub = 0 ∧ (s.dw7 it).2.1 ≠ 0)
      let bad := epComboOk speed (eType e) (eLength e) (eMult e) (eInterval e) = false ∨ (hub ≠ 0 ∧ eType e = 1 ∧ (if
        it.keyDir then 564 else 188) < eLength e)
      let c : Ctx :=
        { port := p, addr := eAddr e, ep := eEp e, dir := it.keyDir, owner := it.owner, gen := it.gen, halted := false, typ := eType e, speed := speed, toggle := false, mult := eMult e, interval := eInterval e, mps := eLength e, hubAddr := hub, hubPort := eHubPort e, phase := 0, splitY := 0, charge := if periodic then portCharge (decide (hub ≠ 0)) speed (eType e) (eLength e) (eMult e) it.keyDir else 0, bufId := 0, granules := if periodic then granulesOf (eLength e) (eMult e) else 0, iface := (s.dw7 it).1, devSpeed := (s.dw7 it).2.1, nextAt := 0, svcAt := 0, svcUsed := 0, errs := 0, snooped := false, block := (s.dw7 it).2.2, dirty := true, cached := true, used := s.ordinal }
      let mine := s.ctxs.filter (fun d => d.port == p && !d.same c)
      let at' (ph y : Nat) : Ctx := { c with phase := ph, splitY := y }
      let place (ph y : Nat) : Prop := ph < min (2 ^ eInterval e) (if hs ∧ hub = 0 then 256 else 32) ∧ (if split then
        y < 4 else y = 0)
      let load (ph y : Nat) : Nat := highest mine (at' ph y) (decide hs)
      let fits (ph y : Nat) : Prop := ∀ i : Nat, i < (if hs then 256 else 32) → (at' ph y).load (decide hs) i ≠ 0 →
        mine.foldl (fun n d => n + d.load (decide hs) i) ((at' ph y).load (decide hs) i) ≤ if hs then 48000 else 10800
      let best (ph y : Nat) : Prop := place ph y ∧ ∀ ph' y' : Nat, place ph' y' → load ph y < load ph' y' ∨ (load ph y
        = load ph' y' ∧ (ph < ph' ∨ (ph = ph' ∧ y ≤ y')))
      let ttFull (ph y : Nat) : Prop := split ∧ ∃ f : Nat, f < 32 ∧ (at' ph y).ttLoad f ≠ 0 ∧ 10800 < (mine.filter
        (fun d => d.hubAddr == hub)).foldl (fun n d => n + d.ttLoad f) ((at' ph y).ttLoad f)
      let free := 6144 - s.fld (at_ 0x070 0x100) 0 13
      let all := s.perAlloc (fun d => !d.same c) + c.granules
      let own := s.perAlloc (fun d => !d.same c && d.owner == it.owner) + c.granules
      s.Live it ∧ it.listDone ∧ s.Canonical ∧ best ph y ∧ s.serving id = some it ∧ it.op = .epOpen ∧ it.x.ctxReady =
        true ∧ it.x.running = false ∧ portId? it.port = some p ∧ ¬ wrong ∧ ¬ bad ∧ periodic ∧ fits ph y ∧ ¬ ttFull ph
        y ∧ all ≤ free ∧ own ≤ s.granQuota it.owner) ∧
    (∃ (id : Nat) (it : Item) (c : Instr) (o : Op) (s : State), s.Live it ∧ it.listDone ∧ s.Canonical ∧ ((c = .epClose
      id ∧ o = .epClose) ∨ (c = .epResetToggle id ∧ o = .epResetToggle) ∨ (c = .epClearHalt id ∧ o = .epClearHalt)) ∧
      s.serving id = some it ∧ it.op = o ∧ it.x.ctxReady = true ∧ it.x.running = false ∧ s.ctxOf it = none) ∧
    (∃ (id : Nat) (it : Item) (c : Instr) (o : Op) (s : State) (x : Ctx), s.Live it ∧ it.listDone ∧ s.Canonical ∧ ((c
      = .epClose id ∧ o = .epClose) ∨ (c = .epResetToggle id ∧ o = .epResetToggle) ∨ (c = .epClearHalt id ∧ o =
      .epClearHalt)) ∧ s.serving id = some it ∧ it.op = o ∧ it.x.ctxReady = true ∧ it.x.running = false ∧ s.ctxOf it =
      some x ∧ x.gen = s.genOf x.owner) ∧
    (∃ (c : Instr) (id : Nat) (it : Item) (s : State), s.Live it ∧ it.listDone ∧ s.Canonical ∧ ((c = .nop id ∧ it.op =
      .nop) ∨ (c = .fenceMark id ∧ it.op = .fenceMark)) ∧ it ∈ s.wis ∧ it.id = id ∧ s.held = false ∧ s.fatal = false ∧
      s.rootOn domSCHED = true ∧ it.retire = none ∧ it.st = .ready ∧ s.credit it.qp ≠ 0 ∧ (∀ x ∈ s.wis, x ≠ it → x.st
      = .ready → x.retiring = true → 1 ≤ s.credit x.qp → it.readyNo < x.readyNo)) :=
  ⟨⟨0, { wItem with entry := 16, st := .service 0 none, x := { Xfer.init with ctxReady := true } }, 0, board
    [{ wItem with entry := 16, st := .service 0 none, x := { Xfer.init with ctxReady := true } }]
    [{ wCtx with devSpeed := 1 }], live_of _ _ (by decide +kernel), listDone_of _ (by decide +kernel), canonical_of _
    (by decide +kernel), by decide +kernel⟩,
   ⟨0, { wItem with entry := 16, st := .service 0 none, x := { Xfer.init with ctxReady := true } }, 0, board
     [{ wItem with entry := 16, st := .service 0 none, x := { Xfer.init with ctxReady := true } }] [wCtx], live_of _ _
     (by decide +kernel), listDone_of _ (by decide +kernel), canonical_of _ (by decide +kernel), by decide +kernel⟩,
   ⟨0, { wItem with entry := 16 + 64 * 2 ^ 128, st := .service 0 none, x := { Xfer.init with ctxReady := true } }, 0,
     board
     [{ wItem with entry := 16 + 64 * 2 ^ 128, st := .service 0 none, x := { Xfer.init with ctxReady := true } }]
     [wCtx], live_of _ _ (by decide +kernel), listDone_of _ (by decide +kernel), canonical_of _ (by decide +kernel),
     by decide +kernel⟩,
   ⟨0,
     { wItem with entry := 0x10 + 8 * 2 ^ 128 + 3 * 2 ^ 158, st := .service 0 none, x := { Xfer.init with ctxReady := true } },
     0, (board
     [{ wItem with entry := 0x10 + 8 * 2 ^ 128 + 3 * 2 ^ 158, st := .service 0 none, x := { Xfer.init with ctxReady := true } }]
     [{ wCtx with ep := 1, typ := 3, speed := 1, charge := 10800 }]).modPort 0 (fun x => { x with speed := 1 }),
     live_of _ _ (by decide +kernel), listDone_of _ (by decide +kernel), canonical_of _ (by decide +kernel),
     fun ph y h => by obtain ⟨rfl, hy⟩ := origin h (by decide +kernel); clear h; rcases y with _ | _ | _ | _ | y <;> first | omega | decide +kernel,
     by decide +kernel⟩,
   ⟨0,
     { wItem with entry := 0x10 + 2 ^ 50 + 64 * 2 ^ 128 + 3 * 2 ^ 158, st := .service 0 none, x := { Xfer.init with ctxReady := true } },
     0, (board
     [{ wItem with entry := 0x10 + 2 ^ 50 + 64 * 2 ^ 128 + 3 * 2 ^ 158, st := .service 0 none, x := { Xfer.init with ctxReady := true } }]
     [{ wCtx with devSpeed := 1 },
     { wCtx with ep := 1, typ := 1, speed := 1, devSpeed := 1, hubAddr := 1, mps := 1023, charge := 1, dir := true },
     { wCtx with ep := 2, typ := 1, speed := 1, devSpeed := 1, hubAddr := 1, mps := 1023, charge := 1, dir := true }]).modPort
     0 (fun x => { x with speed := 0 }), 0, 0, live_of _ _ (by decide +kernel), listDone_of _ (by decide +kernel),
     canonical_of _ (by decide +kernel),
     ⟨by decide +kernel, fun ph y h => by obtain ⟨rfl, hy⟩ := origin h (by decide +kernel); clear h; rcases y with _ | _ | _ | _ | y <;> first | omega | decide +kernel⟩,
     by decide +kernel⟩,
   ⟨0,
     { wItem with entry := 0x10 + 8 * 2 ^ 128 + 3 * 2 ^ 158, st := .service 0 none, x := { Xfer.init with ctxReady := true } },
     0, (board
     [{ wItem with entry := 0x10 + 8 * 2 ^ 128 + 3 * 2 ^ 158, st := .service 0 none, x := { Xfer.init with ctxReady := true } }]
     [{ wCtx with ep := 1, typ := 3, granules := 6144 }]).modPort 0 (fun x => { x with speed := 1 }), 0, 0, live_of _
     _ (by decide +kernel), listDone_of _ (by decide +kernel), canonical_of _ (by decide +kernel),
     ⟨by decide +kernel, fun ph y h => by obtain ⟨rfl, hy⟩ := origin h (by decide +kernel); clear h; rcases y with _ | _ | _ | _ | y <;> first | omega | decide +kernel⟩,
     by decide +kernel⟩,
   ⟨0,
     { wItem with entry := 0x10 + 8 * 2 ^ 128 + 3 * 2 ^ 158, st := .service 0 none, x := { Xfer.init with ctxReady := true } },
     0, ((board
     [{ wItem with entry := 0x10 + 8 * 2 ^ 128 + 3 * 2 ^ 158, st := .service 0 none, x := { Xfer.init with ctxReady := true } }]
     []).modPort 0 (fun x => { x with speed := 1 })).setReg (at_ 0x070 0x104) 0, 0, 0, live_of _ _ (by
     decide +kernel), listDone_of _ (by decide +kernel), canonical_of _ (by decide +kernel),
     ⟨by decide +kernel, fun ph y h => by obtain ⟨rfl, hy⟩ := origin h (by decide +kernel); clear h; rcases y with _ | _ | _ | _ | y <;> first | omega | decide +kernel⟩,
     by decide +kernel⟩,
   ⟨0,
     { wItem with entry := 0x10 + 8 * 2 ^ 128 + 3 * 2 ^ 158, st := .service 0 none, x := { Xfer.init with ctxReady := true } },
     0, (board
     [{ wItem with entry := 0x10 + 8 * 2 ^ 128 + 3 * 2 ^ 158, st := .service 0 none, x := { Xfer.init with ctxReady := true } }]
     []).modPort 0 (fun x => { x with speed := 1 }), 0, 0, live_of _ _ (by decide +kernel), listDone_of _ (by
     decide +kernel), canonical_of _ (by decide +kernel),
     ⟨by decide +kernel, fun ph y h => by obtain ⟨rfl, hy⟩ := origin h (by decide +kernel); clear h; rcases y with _ | _ | _ | _ | y <;> first | omega | decide +kernel⟩,
     by decide +kernel⟩,
   ⟨0, { wItem with entry := 17 + 2 ^ 45, st := .service 0 none, x := { Xfer.init with ctxReady := true } }, .epClose
     (0), .epClose, board
     [{ wItem with entry := 17 + 2 ^ 45, st := .service 0 none, x := { Xfer.init with ctxReady := true } }] [wCtx],
     live_of _ _ (by decide +kernel), listDone_of _ (by decide +kernel), canonical_of _ (by decide +kernel), by
     decide +kernel⟩,
   ⟨0, { wItem with entry := 17, st := .service 0 none, x := { Xfer.init with ctxReady := true } }, .epClose (0),
     .epClose, board [{ wItem with entry := 17, st := .service 0 none, x := { Xfer.init with ctxReady := true } }]
     [wCtx], wCtx, live_of _ _ (by decide +kernel), listDone_of _ (by decide +kernel), canonical_of _ (by
     decide +kernel), by decide +kernel⟩,
   ⟨.nop (0), 0, wItem, board [wItem] [], live_of _ _ (by decide +kernel), listDone_of _ (by decide +kernel),
     canonical_of _ (by decide +kernel), by decide +kernel⟩⟩

/-- The hypotheses of TransactionsStart can be met, clause by clause. -/
theorem test_transactions_start_applies :
    (∃ (p : PortId) (s : State), s.Canonical ∧ s.portRuns p = true ∧ s.ports[p].wire = none ∧ (∃ x ∈ s.wis, x.port =
      p.val ∧ s.txReady p x = true)) ∧
    (∃ (id : Nat) (it : Item) (s : State), s.serving id = some it ∧ it.x.wantGranule = true ∧ s.poolUsed < s.poolSize)
      ∧
    (∃ (id : Nat) (it : Item) (s : State), s.serving id = some it ∧ it.x.wantGranule = true ∧ s.poolSize ≤ s.poolUsed)
      ∧
    (∃ (s : State), s.held = false ∧ (s.fw.paused = false ∨ s.fatal = true)) ∧
    (∃ (s : State), s.held = false ∧ s.fatal = false ∧ s.fw.paused = true) :=
  ⟨⟨0, (board
    [{ wItem with entry := 2, st := .service 0 none, x := { Xfer.init with ctxReady := true, running := true, dataReady := true } }]
    [wCtx]).modPort 0 (fun x => { x with st := .enabled }), canonical_of _ (by decide +kernel), by decide +kernel⟩,
   ⟨0, { wItem with st := .service 0 none, x := { Xfer.init with wantGranule := true } }, board
     [{ wItem with st := .service 0 none, x := { Xfer.init with wantGranule := true } }] [], by decide +kernel⟩,
   ⟨0,
     { wItem with entry := 2, st := .service 0 none, x := { Xfer.init with ctxReady := true, running := true, wantGranule := true } },
     (board
     [{ wItem with entry := 2, st := .service 0 none, x := { Xfer.init with ctxReady := true, running := true, wantGranule := true } }]
     [{ wCtx with typ := 3, granules := 6144 }]), by decide +kernel⟩,
   ⟨up, by decide +kernel⟩,
   ⟨up.modFw (fun x => { x with paused := true }), by decide +kernel⟩⟩

/-- The hypotheses of TransactionsEnd can be met, clause by clause. -/
theorem test_transactions_end_applies :
    (∃ (p : PortId) (id : Nat) (it : Item) (x x0 : Ctx) (s : State),
      let n := it.nextBytes x.mps
      let split := x.hubAddr ≠ 0 ∧ s.ports[p].speed = 0
      let direct := ¬ split ∨ it.x.csplit = true
      s.Live it ∧ s.Canonical ∧ s.held = false ∧ s.fatal = false ∧ s.fw.paused = false ∧ s.ports[p].wire = some id ∧
        s.ports[p].wireCtx = some x0 ∧ s.item? id = some it ∧ s.ctxOf it = some x ∧ it.x.expired = false ∧ it.port =
        p.val ∧ it.inService = true ∧ it.ending = none ∧ direct ∧ it.x.ping = false ∧ it.op = .bulkOut ∧ it.x.done + n
        < it.length) ∧
    (∃ (p : PortId) (id : Nat) (it : Item) (x x0 : Ctx) (s : State),
      let n := it.nextBytes x.mps
      let split := x.hubAddr ≠ 0 ∧ s.ports[p].speed = 0
      let direct := ¬ split ∨ it.x.csplit = true
      s.Live it ∧ s.Canonical ∧ s.held = false ∧ s.fatal = false ∧ s.fw.paused = false ∧ s.ports[p].wire = some id ∧
        s.ports[p].wireCtx = some x0 ∧ s.item? id = some it ∧ s.ctxOf it = some x ∧ it.x.expired = false ∧ it.port =
        p.val ∧ it.inService = true ∧ it.ending = none ∧ direct ∧ it.x.ping = false ∧ it.op = .intrOut ∧ it.x.done + n
        < it.length) ∧
    (∃ (p : PortId) (id : Nat) (it : Item) (x x0 : Ctx) (s : State),
      let n := it.nextBytes x.mps
      let split := x.hubAddr ≠ 0 ∧ s.ports[p].speed = 0
      let direct := ¬ split ∨ it.x.csplit = true
      s.Live it ∧ s.Canonical ∧ it.listDone ∧ s.held = false ∧ s.fatal = false ∧ s.fw.paused = false ∧ s.ports[p].wire
        = some id ∧ s.ports[p].wireCtx = some x0 ∧ s.item? id = some it ∧ s.ctxOf it = some x ∧ it.x.expired = false ∧
        it.port = p.val ∧ it.inService = true ∧ it.ending = none ∧ direct ∧ it.x.ping = false ∧ (it.op = .bulkOut ∨
        it.op = .intrOut) ∧ it.length ≤ it.x.done + n) ∧
    (∃ (p : PortId) (id : Nat) (it : Item) (x x0 : Ctx) (s : State),
      let split := x.hubAddr ≠ 0 ∧ s.ports[p].speed = 0
      let direct := ¬ split ∨ it.x.csplit = true
      s.Live it ∧ s.Canonical ∧ s.held = false ∧ s.fatal = false ∧ s.fw.paused = false ∧ s.ports[p].wire = some id ∧
        s.ports[p].wireCtx = some x0 ∧ s.item? id = some it ∧ s.ctxOf it = some x ∧ it.x.expired = false ∧ it.port =
        p.val ∧ it.inService = true ∧ it.ending = none ∧ direct ∧ it.x.ping = false ∧ it.op = .control ∧ it.x.stage =
        0) ∧
    (∃ (p : PortId) (id : Nat) (it : Item) (x x0 : Ctx) (s : State),
      let split := x.hubAddr ≠ 0 ∧ s.ports[p].speed = 0
      let direct := ¬ split ∨ it.x.csplit = true
      let isIn := bitAt (eReqType it.entry) 7 = true
      s.Live it ∧ s.Canonical ∧ s.held = false ∧ s.fatal = false ∧ s.fw.paused = false ∧ s.ports[p].wire = some id ∧
        s.ports[p].wireCtx = some x0 ∧ s.item? id = some it ∧ s.ctxOf it = some x ∧ it.x.expired = false ∧ it.port =
        p.val ∧ it.inService = true ∧ it.ending = none ∧ direct ∧ it.x.ping = false ∧ it.op = .control ∧ it.x.stage =
        1 ∧ ¬ isIn) ∧
    (∃ (p : PortId) (id : Nat) (it : Item) (x x0 : Ctx) (s : State),
      let split := x.hubAddr ≠ 0 ∧ s.ports[p].speed = 0
      let direct := ¬ split ∨ it.x.csplit = true
      let total := eLength it.entry
      let isIn := bitAt (eReqType it.entry) 7 = true
      s.Live it ∧ s.Canonical ∧ it.listDone ∧ s.held = false ∧ s.fatal = false ∧ s.fw.paused = false ∧ s.ports[p].wire
        = some id ∧ s.ports[p].wireCtx = some x0 ∧ s.item? id = some it ∧ s.ctxOf it = some x ∧ it.x.expired = false ∧
        it.port = p.val ∧ it.inService = true ∧ it.ending = none ∧ direct ∧ it.x.ping = false ∧ it.op = .control ∧
        it.x.stage = 2 ∧ isIn ∧ total ≠ 0) ∧
    (∃ (p : PortId) (id : Nat) (it : Item) (x x0 : Ctx) (s : State),
      let split := x.hubAddr ≠ 0 ∧ s.ports[p].speed = 0
      let direct := ¬ split ∨ it.x.csplit = true
      let total := eLength it.entry
      let isIn := bitAt (eReqType it.entry) 7 = true
      s.Live it ∧ s.Canonical ∧ it.listDone ∧ s.held = false ∧ s.fatal = false ∧ s.fw.paused = false ∧ s.ports[p].wire
        = some id ∧ s.ports[p].wireCtx = some x0 ∧ s.item? id = some it ∧ s.ctxOf it = some x ∧ it.x.expired = false ∧
        it.port = p.val ∧ it.inService = true ∧ it.ending = none ∧ direct ∧ it.x.ping = false ∧ it.op = .control ∧
        it.x.stage = 2 ∧ (¬ isIn ∨ total = 0)) ∧
    (∃ (p : PortId) (id : Nat) (it : Item) (x x0 : Ctx) (s : State),
      let split := x.hubAddr ≠ 0 ∧ s.ports[p].speed = 0
      let direct := ¬ split ∨ it.x.csplit = true
      let isIn := bitAt (eReqType it.entry) 7 = true
      s.Live it ∧ s.Canonical ∧ s.held = false ∧ s.fatal = false ∧ s.fw.paused = false ∧ s.ports[p].wire = some id ∧
        s.ports[p].wireCtx = some x0 ∧ s.item? id = some it ∧ s.ctxOf it = some x ∧ it.x.expired = false ∧ it.port =
        p.val ∧ it.inService = true ∧ it.ending = none ∧ direct ∧ it.x.ping = true ∧ (it.op = .bulkOut ∨ (it.op =
        .control ∧ it.x.stage = 1 ∧ ¬ isIn))) ∧
    (∃ (p : PortId) (id : Nat) (it : Item) (x x0 : Ctx) (s : State),
      let split := x.hubAddr ≠ 0 ∧ s.ports[p].speed = 0
      let direct := ¬ split ∨ it.x.csplit = true
      s.Live it ∧ s.Canonical ∧ it.listDone ∧ s.held = false ∧ s.fatal = false ∧ s.fw.paused = false ∧ s.ports[p].wire
        = some id ∧ s.ports[p].wireCtx = some x0 ∧ s.item? id = some it ∧ s.ctxOf it = some x ∧ it.x.expired = false ∧
        it.port = p.val ∧ it.inService = true ∧ it.ending = none ∧ direct ∧ it.op.isIsoc = false ∧ it.op.isTransfer =
        true) ∧
    (∃ (p : PortId) (id : Nat) (it : Item) (x x0 : Ctx) (s : State),
      let split := x.hubAddr ≠ 0 ∧ s.ports[p].speed = 0
      let direct := ¬ split ∨ it.x.csplit = true
      s.Live it ∧ s.Canonical ∧ it.listDone ∧ s.held = false ∧ s.fatal = false ∧ s.fw.paused = false ∧ s.ports[p].wire
        = some id ∧ s.ports[p].wireCtx = some x0 ∧ s.item? id = some it ∧ s.ctxOf it = some x ∧ it.x.expired = false ∧
        it.port = p.val ∧ it.inService = true ∧ it.ending = some (5, 5) ∧ direct ∧ it.op.isBulk = true) ∧
    (∃ (p : PortId) (id : Nat) (it : Item) (x x0 : Ctx) (s : State), s.Live it ∧ s.Canonical ∧ s.held = false ∧
      s.fatal = false ∧ s.fw.paused = false ∧ s.ports[p].wire = some id ∧ s.ports[p].wireCtx = some x0 ∧ s.item? id =
      some it ∧ s.ctxOf it = some x ∧ it.x.expired = false ∧ it.port = p.val ∧ it.inService = true ∧ it.ending = none
      ∧ (it.op.isBulk = true ∨ (it.op = .control ∧ it.x.stage ≠ 0))) ∧
    (∃ (p : PortId) (id : Nat) (it : Item) (x x0 : Ctx) (s : State),
      let split := x.hubAddr ≠ 0 ∧ s.ports[p].speed = 0
      let direct := ¬ split ∨ it.x.csplit = true
      s.Live it ∧ s.Canonical ∧ s.held = false ∧ s.fatal = false ∧ s.fw.paused = false ∧ s.ports[p].wire = some id ∧
        s.ports[p].wireCtx = some x0 ∧ s.item? id = some it ∧ s.ctxOf it = some x ∧ it.x.expired = false ∧ it.port =
        p.val ∧ it.inService = true ∧ it.ending = none ∧ it.op.isIntr = true ∧ direct) ∧
    (∃ (p : PortId) (id : Nat) (it : Item) (x x0 : Ctx) (s : State) (c : Instr) (reason : Nat) (again : Bool),
      let split := x.hubAddr ≠ 0 ∧ s.ports[p].speed = 0
      s.Live it ∧ s.Canonical ∧ s.held = false ∧ s.fatal = false ∧ s.fw.paused = false ∧ s.ports[p].wire = some id ∧
        s.ports[p].wireCtx = some x0 ∧ s.item? id = some it ∧ s.ctxOf it = some x ∧ it.x.expired = false ∧ it.port =
        p.val ∧ it.inService = true ∧ ((c = .responseTimeout p ∧ reason = 2 ∧ again = true) ∨ (c = .transactionEnd p
        (.crcErr 0) ∧ reason = 1 ∧ again = true) ∨ (c = .transactionEnd p .badPid ∧ reason = 3 ∧ again = true) ∨ (c =
        .transactionEnd p .ttErr ∧ split ∧ it.x.csplit = true ∧ reason = 4 ∧ again = false)) ∧ it.ending = none ∧
        it.op.isIsoc = false ∧ it.op.isTransfer = true ∧ x.errs < 2) ∧
    (∃ (p : PortId) (id : Nat) (it : Item) (x x0 : Ctx) (s : State) (c : Instr) (reason : Nat) (again : Bool),
      let split := x.hubAddr ≠ 0 ∧ s.ports[p].speed = 0
      s.Live it ∧ s.Canonical ∧ it.listDone ∧ s.held = false ∧ s.fatal = false ∧ s.fw.paused = false ∧ s.ports[p].wire
        = some id ∧ s.ports[p].wireCtx = some x0 ∧ s.item? id = some it ∧ s.ctxOf it = some x ∧ it.x.expired = false ∧
        it.port = p.val ∧ it.inService = true ∧ ((c = .responseTimeout p ∧ reason = 2 ∧ again = true) ∨ (c =
        .transactionEnd p (.crcErr 0) ∧ reason = 1 ∧ again = true) ∨ (c = .transactionEnd p .badPid ∧ reason = 3 ∧
        again = true) ∨ (c = .transactionEnd p .ttErr ∧ split ∧ it.x.csplit = true ∧ reason = 4 ∧ again = false)) ∧
        it.ending = none ∧ it.op.isIsoc = false ∧ it.op.isTransfer = true ∧ 2 ≤ x.errs) ∧
    (∃ (p : PortId) (id : Nat) (it : Item) (x x0 : Ctx) (s : State) (pid : Fin 4) (len : Nat),
      let split := x.hubAddr ≠ 0 ∧ s.ports[p].speed = 0
      let direct := ¬ split ∨ it.x.csplit = true
      s.Live it ∧ s.Canonical ∧ s.held = false ∧ s.fatal = false ∧ s.fw.paused = false ∧ s.ports[p].wire = some id ∧
        s.ports[p].wireCtx = some x0 ∧ s.item? id = some it ∧ s.ctxOf it = some x ∧ it.x.expired = false ∧ it.port =
        p.val ∧ it.inService = true ∧ it.ending = none ∧ direct ∧ (it.op = .bulkIn ∨ it.op = .intrIn) ∧ pid.val = b2n
        it.x.wireToggle ∧ len ≤ x.mps ∧ it.x.done + len ≤ it.length ∧ len = x.mps ∧ it.x.done + len < it.length) ∧
    (∃ (p : PortId) (id : Nat) (it : Item) (x x0 : Ctx) (s : State) (pid : Fin 4) (len : Nat),
      let split := x.hubAddr ≠ 0 ∧ s.ports[p].speed = 0
      let direct := ¬ split ∨ it.x.csplit = true
      s.Live it ∧ s.Canonical ∧ it.listDone ∧ s.held = false ∧ s.fatal = false ∧ s.fw.paused = false ∧ s.ports[p].wire
        = some id ∧ s.ports[p].wireCtx = some x0 ∧ s.item? id = some it ∧ s.ctxOf it = some x ∧ it.x.expired = false ∧
        it.port = p.val ∧ it.inService = true ∧ it.ending = none ∧ direct ∧ (it.op = .bulkIn ∨ it.op = .intrIn) ∧
        pid.val = b2n it.x.wireToggle ∧ len ≤ x.mps ∧ it.x.done + len ≤ it.length ∧ (len < x.mps ∨ it.length ≤
        it.x.done + len)) ∧
    (∃ (p : PortId) (id : Nat) (it : Item) (x x0 : Ctx) (s : State) (pid : Fin 4) (len : Nat),
      let split := x.hubAddr ≠ 0 ∧ s.ports[p].speed = 0
      let direct := ¬ split ∨ it.x.csplit = true
      let total := eLength it.entry
      let isIn := bitAt (eReqType it.entry) 7 = true
      s.Live it ∧ s.Canonical ∧ s.held = false ∧ s.fatal = false ∧ s.fw.paused = false ∧ s.ports[p].wire = some id ∧
        s.ports[p].wireCtx = some x0 ∧ s.item? id = some it ∧ s.ctxOf it = some x ∧ it.x.expired = false ∧ it.port =
        p.val ∧ it.inService = true ∧ it.ending = none ∧ direct ∧ it.op = .control ∧ it.x.stage = 1 ∧ isIn ∧ (pid.val
        = if it.x.done / x.mps % 2 = 0 then 1 else 0) ∧ len ≤ x.mps ∧ it.x.done + len ≤ total) ∧
    (∃ (p : PortId) (id : Nat) (it : Item) (x x0 : Ctx) (s : State) (pid : Fin 4) (len : Nat),
      let split := x.hubAddr ≠ 0 ∧ s.ports[p].speed = 0
      let direct := ¬ split ∨ it.x.csplit = true
      let total := eLength it.entry
      let want : Nat := if it.op ≠ .control then b2n it.x.wireToggle else if it.x.stage = 1 ∧ it.x.done / x.mps % 2 ≠
        0 then 0 else 1
      let room : Nat := if it.op ≠ .control then it.length - it.x.done else if it.x.stage = 1 then total - it.x.done
        else 0
      s.Live it ∧ s.Canonical ∧ it.listDone ∧ s.held = false ∧ s.fatal = false ∧ s.fw.paused = false ∧ s.ports[p].wire
        = some id ∧ s.ports[p].wireCtx = some x0 ∧ s.item? id = some it ∧ s.ctxOf it = some x ∧ it.x.expired = false ∧
        it.port = p.val ∧ it.inService = true ∧ it.ending = none ∧ direct ∧ it.op.isIsoc = false ∧ it.op.isTransfer =
        true ∧ it.sends = false ∧ pid.val < 2 ∧ (x.mps < len ∨ (pid.val = want ∧ room < len))) ∧
    (∃ (p : PortId) (id : Nat) (it : Item) (x x0 : Ctx) (s : State) (pid : Fin 4) (len : Nat),
      let split := x.hubAddr ≠ 0 ∧ s.ports[p].speed = 0
      let direct := ¬ split ∨ it.x.csplit = true
      let want : Nat := if it.op ≠ .control then b2n it.x.wireToggle else if it.x.stage = 1 ∧ it.x.done / x.mps % 2 ≠
        0 then 0 else 1
      s.Live it ∧ s.Canonical ∧ s.held = false ∧ s.fatal = false ∧ s.fw.paused = false ∧ s.ports[p].wire = some id ∧
        s.ports[p].wireCtx = some x0 ∧ s.item? id = some it ∧ s.ctxOf it = some x ∧ it.x.expired = false ∧ it.port =
        p.val ∧ it.inService = true ∧ it.ending = none ∧ direct ∧ it.op.isIsoc = false ∧ it.op.isTransfer = true ∧
        it.sends = false ∧ pid.val < 2 ∧ len ≤ x.mps ∧ pid.val ≠ want) ∧
    (∃ (p : PortId) (id : Nat) (it : Item) (x x0 : Ctx) (s : State) (k : IsoPkt) (c : Instr) (len st : Nat),
      let n := it.nextBytes x.mps
      let split := x.hubAddr ≠ 0 ∧ s.ports[p].speed = 0
      let k' : IsoPkt := { k with act := k.act + len, pst := st, served := true }
      let iso := it.x.iso.set it.x.isoIdx k'
      s.Live it ∧ s.Canonical ∧ ((it.op = .isocIn ∧ x.mult = 0 ∧ (∃ pid : Fin 4, pid.val < 2 ∧ c = .transactionEnd p
        (.data pid len)) ∧ st = 0 ∧ len ≤ x.mps ∧ k.act + len ≤ k.req) ∨ (it.op = .isocIn ∧ x.mult = 0 ∧ st = 2 ∧ ∃
        (pid : Fin 4) (n : Nat), pid.val < 2 ∧ c = .transactionEnd p (.data pid n) ∧ (x.mps < n ∨ k.req - k.act < n) ∧
        len = min (k.req - k.act) n) ∨ (it.op = .isocIn ∧ c = .transactionEnd p (.crcErr len) ∧ st = 1 ∧ k.act + len ≤
        k.req) ∨ (it.op = .isocIn ∧ c = .responseTimeout p ∧ st = 1 ∧ len = 0) ∨ (it.op = .isocOut ∧ c =
        .transactionEnd p .sent ∧ k.req ≤ it.x.svcTx * x.mps ∧ st = 0 ∧ k.act = 0 ∧ len = k.req)) ∧ s.held = false ∧
        s.fatal = false ∧ s.fw.paused = false ∧ s.ports[p].wire = some id ∧ s.ports[p].wireCtx = some x0 ∧ s.item? id
        = some it ∧ s.ctxOf it = some x ∧ it.x.expired = false ∧ it.port = p.val ∧ it.inService = true ∧ it.ending =
        none ∧ ¬ split ∧ it.x.isoReady = true ∧ it.x.iso[it.x.isoIdx]? = some k ∧ k.served = false ∧ (∃ d ∈ iso,
        d.served = false)) ∧
    (∃ (p : PortId) (id : Nat) (it : Item) (x x0 : Ctx) (s : State) (k : IsoPkt) (c : Instr) (len st : Nat),
      let n := it.nextBytes x.mps
      let split := x.hubAddr ≠ 0 ∧ s.ports[p].speed = 0
      let k' : IsoPkt := { k with act := k.act + len, pst := st, served := true }
      let iso := it.x.iso.set it.x.isoIdx k'
      s.Live it ∧ s.Canonical ∧ ((it.op = .isocIn ∧ x.mult = 0 ∧ (∃ pid : Fin 4, pid.val < 2 ∧ c = .transactionEnd p
        (.data pid len)) ∧ st = 0 ∧ len ≤ x.mps ∧ k.act + len ≤ k.req) ∨ (it.op = .isocIn ∧ x.mult = 0 ∧ st = 2 ∧ ∃
        (pid : Fin 4) (n : Nat), pid.val < 2 ∧ c = .transactionEnd p (.data pid n) ∧ (x.mps < n ∨ k.req - k.act < n) ∧
        len = min (k.req - k.act) n) ∨ (it.op = .isocIn ∧ c = .transactionEnd p (.crcErr len) ∧ st = 1 ∧ k.act + len ≤
        k.req) ∨ (it.op = .isocIn ∧ c = .responseTimeout p ∧ st = 1 ∧ len = 0) ∨ (it.op = .isocOut ∧ c =
        .transactionEnd p .sent ∧ k.req ≤ it.x.svcTx * x.mps ∧ st = 0 ∧ k.act = 0 ∧ len = k.req)) ∧ s.held = false ∧
        s.fatal = false ∧ s.fw.paused = false ∧ s.ports[p].wire = some id ∧ s.ports[p].wireCtx = some x0 ∧ s.item? id
        = some it ∧ s.ctxOf it = some x ∧ it.x.expired = false ∧ it.port = p.val ∧ it.inService = true ∧ it.ending =
        none ∧ ¬ split ∧ it.x.isoReady = true ∧ it.x.iso[it.x.isoIdx]? = some k ∧ k.served = false ∧ (∀ d ∈ iso,
        d.served = true)) ∧
    (∃ (p : PortId) (id : Nat) (it : Item) (x x0 : Ctx) (s : State),
      let split := x.hubAddr ≠ 0 ∧ s.ports[p].speed = 0
      s.Live it ∧ s.Canonical ∧ s.held = false ∧ s.fatal = false ∧ s.fw.paused = false ∧ s.ports[p].wire = some id ∧
        s.ports[p].wireCtx = some x0 ∧ s.item? id = some it ∧ s.ctxOf it = some x ∧ it.x.expired = false ∧ it.port =
        p.val ∧ it.inService = true ∧ split ∧ it.ending = none ∧ it.x.csplit = false ∧ (it.op.isBulk = true ∨ it.op =
        .control)) ∧
    (∃ (p : PortId) (id : Nat) (it : Item) (x x0 : Ctx) (s : State),
      let split := x.hubAddr ≠ 0 ∧ s.ports[p].speed = 0
      s.Live it ∧ s.Canonical ∧ s.held = false ∧ s.fatal = false ∧ s.fw.paused = false ∧ s.ports[p].wire = some id ∧
        s.ports[p].wireCtx = some x0 ∧ s.item? id = some it ∧ s.ctxOf it = some x ∧ it.x.expired = false ∧ it.port =
        p.val ∧ it.inService = true ∧ split ∧ it.ending = none ∧ it.x.csplit = false ∧ (it.op.isIntr = true ∨ it.op =
        .isocIn)) ∧
    (∃ (p : PortId) (id : Nat) (it : Item) (x x0 : Ctx) (s : State),
      let split := x.hubAddr ≠ 0 ∧ s.ports[p].speed = 0
      s.Live it ∧ s.Canonical ∧ s.held = false ∧ s.fatal = false ∧ s.fw.paused = false ∧ s.ports[p].wire = some id ∧
        s.ports[p].wireCtx = some x0 ∧ s.item? id = some it ∧ s.ctxOf it = some x ∧ it.x.expired = false ∧ it.port =
        p.val ∧ it.inService = true ∧ split ∧ it.ending = none ∧ it.x.csplit = true ∧ (it.op.isBulk = true ∨ it.op =
        .control)) ∧
    (∃ (p : PortId) (id : Nat) (it : Item) (x x0 : Ctx) (s : State),
      let split := x.hubAddr ≠ 0 ∧ s.ports[p].speed = 0
      s.Live it ∧ s.Canonical ∧ s.held = false ∧ s.fatal = false ∧ s.fw.paused = false ∧ s.ports[p].wire = some id ∧
        s.ports[p].wireCtx = some x0 ∧ s.item? id = some it ∧ s.ctxOf it = some x ∧ it.x.expired = false ∧ it.port =
        p.val ∧ it.inService = true ∧ split ∧ it.ending = none ∧ it.x.csplit = true ∧ it.op.isIntr = true ∧
        s.clks[p].frindex.toNat % 8 < x.splitY + 4) ∧
    (∃ (p : PortId) (s : State), s.held = false ∧ s.fatal = false ∧ s.fw.paused = true ∧ s.ports[p].wire.isSome = true
      ∧ s.late = []) :=
  ⟨⟨0, 0, { wItem with entry := 2 + 1024 * 2 ^ 128, st := .service 0 none, x := { Xfer.init with running := true } },
    wCtx, wCtx, (board
    [{ wItem with entry := 2 + 1024 * 2 ^ 128, st := .service 0 none, x := { Xfer.init with running := true } }]
    [wCtx]).modPort 0 (fun x => { x with wire := some 0, wireCtx := some wCtx }), live_of _ _ (by decide +kernel),
    canonical_of _ (by decide +kernel), by decide +kernel⟩,
   ⟨0, 0, { wItem with entry := 4 + 1024 * 2 ^ 128, st := .service 0 none, x := { Xfer.init with running := true } },
     wCtx, wCtx, (board
     [{ wItem with entry := 4 + 1024 * 2 ^ 128, st := .service 0 none, x := { Xfer.init with running := true } }]
     [wCtx]).modPort 0 (fun x => { x with wire := some 0, wireCtx := some wCtx }), live_of _ _ (by decide +kernel),
     canonical_of _ (by decide +kernel), by decide +kernel⟩,
   ⟨0, 0, { wItem with entry := 2, st := .service 0 none }, wCtx, wCtx, (board
     [{ wItem with entry := 2, st := .service 0 none }] [wCtx, wCtx]).modPort 0 (fun x =>
     { x with wire := some 0, wireCtx := some wCtx }), live_of _ _ (by decide +kernel), canonical_of _ (by
     decide +kernel), listDone_of _ (by decide +kernel), by decide +kernel⟩,
   ⟨0, 0, { wItem with entry := 1, st := .service 0 none }, wCtx, wCtx, (board
     [{ wItem with entry := 1, st := .service 0 none }] [wCtx, wCtx]).modPort 0 (fun x =>
     { x with wire := some 0, wireCtx := some wCtx }), live_of _ _ (by decide +kernel), canonical_of _ (by
     decide +kernel), by decide +kernel⟩,
   ⟨0, 0, { wItem with entry := 1, st := .service 0 none, x := { Xfer.init with stage := 1 } }, wCtx, wCtx, (board
     [{ wItem with entry := 1, st := .service 0 none, x := { Xfer.init with stage := 1 } }] [wCtx, wCtx]).modPort 0
     (fun x => { x with wire := some 0, wireCtx := some wCtx }), live_of _ _ (by decide +kernel), canonical_of _ (by
     decide +kernel), by decide +kernel⟩,
   ⟨0, 0,
     { wItem with entry := 1 + 64 * 2 ^ 128 + 0x80 * 2 ^ 160, st := .service 0 none, x := { Xfer.init with running := true, stage := 2, done := 64 } },
     wCtx, wCtx, (board
     [{ wItem with entry := 1 + 64 * 2 ^ 128 + 0x80 * 2 ^ 160, st := .service 0 none, x := { Xfer.init with running := true, stage := 2, done := 64 } }]
     [wCtx]).modPort 0 (fun x => { x with wire := some 0, wireCtx := some wCtx }), live_of _ _ (by decide +kernel),
     canonical_of _ (by decide +kernel), listDone_of _ (by decide +kernel), by decide +kernel⟩,
   ⟨0, 0, { wItem with entry := 1, st := .service 0 none, x := { Xfer.init with stage := 2 } }, wCtx, wCtx, (board
     [{ wItem with entry := 1, st := .service 0 none, x := { Xfer.init with stage := 2 } }] [wCtx, wCtx]).modPort 0
     (fun x => { x with wire := some 0, wireCtx := some wCtx }), live_of _ _ (by decide +kernel), canonical_of _ (by
     decide +kernel), listDone_of _ (by decide +kernel), by decide +kernel⟩,
   ⟨0, 0, { wItem with entry := 2, st := .service 0 none, x := { Xfer.init with ping := true } }, wCtx, wCtx, (board
     [{ wItem with entry := 2, st := .service 0 none, x := { Xfer.init with ping := true } }] [wCtx, wCtx]).modPort 0
     (fun x => { x with wire := some 0, wireCtx := some wCtx }), live_of _ _ (by decide +kernel), canonical_of _ (by
     decide +kernel), by decide +kernel⟩,
   ⟨0, 0, { wItem with entry := 1, st := .service 0 none }, wCtx, wCtx, (board
     [{ wItem with entry := 1, st := .service 0 none }] [wCtx, wCtx]).modPort 0 (fun x =>
     { x with wire := some 0, wireCtx := some wCtx }), live_of _ _ (by decide +kernel), canonical_of _ (by
     decide +kernel), listDone_of _ (by decide +kernel), by decide +kernel⟩,
   ⟨0, 0,
     { wItem with entry := 2, st := .service 0 none, ending := some (5, 5), x := { Xfer.init with running := true } },
     wCtx, wCtx, (board
     [{ wItem with entry := 2, st := .service 0 none, ending := some (5, 5), x := { Xfer.init with running := true } }]
     [wCtx]).modPort 0 (fun x => { x with wire := some 0, wireCtx := some wCtx }), live_of _ _ (by decide +kernel),
     canonical_of _ (by decide +kernel), listDone_of _ (by decide +kernel), by decide +kernel⟩,
   ⟨0, 0, { wItem with entry := 2, st := .service 0 none }, wCtx, wCtx, (board
     [{ wItem with entry := 2, st := .service 0 none }] [wCtx, wCtx]).modPort 0 (fun x =>
     { x with wire := some 0, wireCtx := some wCtx }), live_of _ _ (by decide +kernel), canonical_of _ (by
     decide +kernel), by decide +kernel⟩,
   ⟨0, 0, { wItem with entry := 4, st := .service 0 none }, wCtx, wCtx, (board
     [{ wItem with entry := 4, st := .service 0 none }] [wCtx, wCtx]).modPort 0 (fun x =>
     { x with wire := some 0, wireCtx := some wCtx }), live_of _ _ (by decide +kernel), canonical_of _ (by
     decide +kernel), by decide +kernel⟩,
   ⟨0, 0, { wItem with entry := 1, st := .service 0 none }, wCtx, wCtx, (board
     [{ wItem with entry := 1, st := .service 0 none }] [wCtx, wCtx]).modPort 0 (fun x =>
     { x with wire := some 0, wireCtx := some wCtx }), .responseTimeout (0), 2, true, live_of _ _ (by decide +kernel),
     canonical_of _ (by decide +kernel), by decide +kernel⟩,
   ⟨0, 0, { wItem with entry := 1, st := .service 0 none }, { wCtx with errs := 2 }, wCtx, (board
     [{ wItem with entry := 1, st := .service 0 none }] [{ wCtx with errs := 2 }, wCtx]).modPort 0 (fun x =>
     { x with wire := some 0, wireCtx := some wCtx }), .responseTimeout (0), 2, true, live_of _ _ (by decide +kernel),
     canonical_of _ (by decide +kernel), listDone_of _ (by decide +kernel), by decide +kernel⟩,
   ⟨0, 0, { wItem with entry := 3 + 64 * 2 ^ 128, st := .service 0 none }, { wCtx with mps := 0 }, wCtx, (board
     [{ wItem with entry := 3 + 64 * 2 ^ 128, st := .service 0 none }] [{ wCtx with mps := 0 }, wCtx]).modPort 0 (fun
     x => { x with wire := some 0, wireCtx := some wCtx }), 0, 0, live_of _ _ (by decide +kernel), canonical_of _ (by
     decide +kernel), by decide +kernel⟩,
   ⟨0, 0, { wItem with entry := 3, st := .service 0 none }, wCtx, wCtx, (board
     [{ wItem with entry := 3, st := .service 0 none }] [wCtx, wCtx]).modPort 0 (fun x =>
     { x with wire := some 0, wireCtx := some wCtx }), 0, 0, live_of _ _ (by decide +kernel), canonical_of _ (by
     decide +kernel), listDone_of _ (by decide +kernel), by decide +kernel⟩,
   ⟨0, 0,
     { wItem with entry := 1 + 64 * 2 ^ 128 + 0x80 * 2 ^ 160, st := .service 0 none, x := { Xfer.init with running := true, stage := 1 } },
     wCtx, wCtx, (board
     [{ wItem with entry := 1 + 64 * 2 ^ 128 + 0x80 * 2 ^ 160, st := .service 0 none, x := { Xfer.init with running := true, stage := 1 } }]
     [wCtx]).modPort 0 (fun x => { x with wire := some 0, wireCtx := some wCtx }), 1, 64, live_of _ _ (by
     decide +kernel), canonical_of _ (by decide +kernel), by decide +kernel⟩,
   ⟨0, 0, { wItem with entry := 3, st := .service 0 none }, wCtx, wCtx, (board
     [{ wItem with entry := 3, st := .service 0 none }] [wCtx, wCtx]).modPort 0 (fun x =>
     { x with wire := some 0, wireCtx := some wCtx }), 0, 1, live_of _ _ (by decide +kernel), canonical_of _ (by
     decide +kernel), listDone_of _ (by decide +kernel), by decide +kernel⟩,
   ⟨0, 0, { wItem with entry := 3, st := .service 0 none, x := { Xfer.init with wireToggle := true } }, wCtx, wCtx,
     (board [{ wItem with entry := 3, st := .service 0 none, x := { Xfer.init with wireToggle := true } }] [wCtx,
     wCtx]).modPort 0 (fun x => { x with wire := some 0, wireCtx := some wCtx }), 0, 0, live_of _ _ (by
     decide +kernel), canonical_of _ (by decide +kernel), by decide +kernel⟩,
   ⟨0, 0,
     { wItem with entry := 7 + 2 * 2 ^ 192, st := .service 0 none, x := { Xfer.init with running := true, isoReady := true, iso := [⟨0, 64, 0, 0, false⟩, ⟨0, 64, 0, 0, false⟩] } },
     wCtx, wCtx, (board
     [{ wItem with entry := 7 + 2 * 2 ^ 192, st := .service 0 none, x := { Xfer.init with running := true, isoReady := true, iso := [⟨0, 64, 0, 0, false⟩, ⟨0, 64, 0, 0, false⟩] } }]
     [wCtx]).modPort 0 (fun x => { x with wire := some 0, wireCtx := some wCtx }), ⟨0, 64, 0, 0, false⟩,
     .transactionEnd 0 (.data 0 64), 64, 0, live_of _ _ (by decide +kernel), canonical_of _ (by decide +kernel),
     Or.inl ⟨by decide +kernel, by decide +kernel, ⟨0, by decide +kernel, rfl⟩, rfl, by decide +kernel, by decide +kernel⟩,
     by decide +kernel⟩,
   ⟨0, 0,
     { wItem with entry := 7 + 2 ^ 192, st := .service 0 none, x := { Xfer.init with running := true, isoReady := true, iso := [⟨0, 64, 0, 0, false⟩] } },
     wCtx, wCtx, (board
     [{ wItem with entry := 7 + 2 ^ 192, st := .service 0 none, x := { Xfer.init with running := true, isoReady := true, iso := [⟨0, 64, 0, 0, false⟩] } }]
     [wCtx]).modPort 0 (fun x => { x with wire := some 0, wireCtx := some wCtx }), ⟨0, 64, 0, 0, false⟩,
     .transactionEnd 0 (.data 0 64), 64, 0, live_of _ _ (by decide +kernel), canonical_of _ (by decide +kernel),
     Or.inl ⟨by decide +kernel, by decide +kernel, ⟨0, by decide +kernel, rfl⟩, rfl, by decide +kernel, by decide +kernel⟩,
     by decide +kernel⟩,
   ⟨0, 0, { wItem with entry := 1, st := .service 0 none }, { wCtx with hubAddr := 1 }, wCtx, (board
     [{ wItem with entry := 1, st := .service 0 none }] [{ wCtx with hubAddr := 1 }, wCtx]).modPort 0 (fun x =>
     { x with wire := some 0, wireCtx := some wCtx }), live_of _ _ (by decide +kernel), canonical_of _ (by
     decide +kernel), by decide +kernel⟩,
   ⟨0, 0, { wItem with entry := 4, st := .service 0 none }, { wCtx with hubAddr := 1 }, wCtx, (board
     [{ wItem with entry := 4, st := .service 0 none }] [{ wCtx with hubAddr := 1 }, wCtx]).modPort 0 (fun x =>
     { x with wire := some 0, wireCtx := some wCtx }), live_of _ _ (by decide +kernel), canonical_of _ (by
     decide +kernel), by decide +kernel⟩,
   ⟨0, 0, { wItem with entry := 1, st := .service 0 none, x := { Xfer.init with csplit := true } },
     { wCtx with hubAddr := 1 }, wCtx, (board
     [{ wItem with entry := 1, st := .service 0 none, x := { Xfer.init with csplit := true } }]
     [{ wCtx with hubAddr := 1 }, wCtx]).modPort 0 (fun x => { x with wire := some 0, wireCtx := some wCtx }), live_of
     _ _ (by decide +kernel), canonical_of _ (by decide +kernel), by decide +kernel⟩,
   ⟨0, 0, { wItem with entry := 4, st := .service 0 none, x := { Xfer.init with csplit := true } },
     { wCtx with hubAddr := 1 }, wCtx, (board
     [{ wItem with entry := 4, st := .service 0 none, x := { Xfer.init with csplit := true } }]
     [{ wCtx with hubAddr := 1 }, wCtx]).modPort 0 (fun x => { x with wire := some 0, wireCtx := some wCtx }), live_of
     _ _ (by decide +kernel), canonical_of _ (by decide +kernel), by decide +kernel⟩,
   ⟨0, (up.modPort 0 (fun x => { x with wire := some 0 })).modFw (fun x => { x with paused := true }), by
     decide +kernel⟩⟩

/-- The hypotheses of ServiceTimersAndReads can be met, clause by clause. -/
theorem test_service_timers_and_reads_applies :
    (∃ (id : Nat) (it : Item) (s : State), s.serving id = some it ∧ it.x.fetching = true ∧ it.op.isIsoc = false) ∧
    (∃ (id : Nat) (it : Item) (s : State), s.serving id = some it ∧ it.x.fetching = true ∧ it.op.isIsoc = true ∧
      (it.x.iso.getD it.x.dataIdx ⟨0, 0, 0, 0, true⟩).served = false) ∧
    (∃ (id : Nat) (it : Item) (s : State), s.serving id = some it ∧ it.x.fetching = true ∧ it.op.isIsoc = false ∧
      s.onWire it = true) ∧
    (∃ (id : Nat) (it : Item) (s : State), s.Live it ∧ it.listDone ∧ s.Canonical ∧ s.serving id = some it ∧
      it.x.fetching = true ∧ it.op.isIsoc = false ∧ s.onWire it = false ∧ it.eccEnd = none) ∧
    (∃ (id : Nat) (it : Item) (s : State), s.Live it ∧ it.listDone ∧ s.Canonical ∧ s.serving id = some it ∧
      it.op.isIsoc = true ∧ it.x.running = true ∧ it.x.isoReady = false) ∧
    (∃ (id : Nat) (it : Item) (s : State) (l : List (BitVec 64)) (x : Ctx), s.Live it ∧ it.listDone ∧ s.Canonical ∧
      s.serving id = some it ∧ it.op.isIsoc = true ∧ it.x.running = true ∧ it.x.isoReady = false ∧ s.ctxOf it = some x
      ∧ l.length = ePktCount it.entry ∧ (∃ d ∈ l, eLength it.entry < (pktOf d).ofs + (pktOf d).req ∨ x.mps * (x.mult +
      1) < (pktOf d).req ∨ pktReserved d = true)) ∧
    (∃ (id : Nat) (it : Item) (s : State) (l : List (BitVec 64)) (x : Ctx), s.Live it ∧ it.listDone ∧ s.Canonical ∧ (∀
      d ∈ l, ¬ (eLength it.entry < (pktOf d).ofs + (pktOf d).req ∨ x.mps * (x.mult + 1) < (pktOf d).req ∨ pktReserved
      d = true)) ∧ s.serving id = some it ∧ it.op.isIsoc = true ∧ it.x.running = true ∧ it.x.isoReady = false ∧
      s.ctxOf it = some x ∧ l.length = ePktCount it.entry) ∧
    (∃ (id : Nat) (it : Item) (s : State), s.serving id = some it ∧ (it.op.isBulk = true ∨ it.op = .control) ∧
      s.onWire it = true) ∧
    (∃ (id : Nat) (it : Item) (s : State), s.Live it ∧ it.listDone ∧ s.Canonical ∧ s.serving id = some it ∧
      (it.op.isBulk = true ∨ it.op = .control) ∧ s.onWire it = false ∧ it.ending = none) ∧
    (∃ (id : Nat) (it : Item) (s : State), s.serving id = some it ∧ it.op.isIntr = true ∧ s.fld (at_ 0x060 0x104) 0 8
      ≤ it.x.nakSvc ∧ s.onWire it = true) ∧
    (∃ (id : Nat) (it : Item) (s : State), s.Live it ∧ it.listDone ∧ s.Canonical ∧ s.serving id = some it ∧
      it.op.isIntr = true ∧ s.fld (at_ 0x060 0x104) 0 8 ≤ it.x.nakSvc ∧ s.onWire it = false ∧ it.eccEnd = none) ∧
    (∃ (p : PortId) (id : Nat) (it : Item) (x x0 : Ctx) (st d : Nat) (s : State),
      let direct := x.hubAddr = 0 ∨ s.ports[p].speed ≠ 0 ∨ it.x.csplit = true
      s.Live it ∧ it.listDone ∧ s.Canonical ∧ s.held = false ∧ s.fatal = false ∧ s.fw.paused = false ∧ s.ports[p].wire
        = some id ∧ s.ports[p].wireCtx = some x0 ∧ s.item? id = some it ∧ s.ctxOf it = some x ∧ it.port = p.val ∧
        it.inService = true ∧ (it.op.isBulk = true ∨ it.op = .control ∨ it.op.isIntr = true) ∧ (it.ending = some (st,
        d) ∨ (it.ending = none ∧ it.x.expired = true ∧ st = 0x0E ∧ d = it.detail (if it.op = .control then 1 else 2)))
        ∧ direct ∧ (it.op = .control → it.x.stage ≠ 0)) ∧
    (∃ (p : PortId) (id : Nat) (it : Item) (x x0 : Ctx) (st d : Nat) (s : State), s.Live it ∧ it.listDone ∧
      s.Canonical ∧ s.held = false ∧ s.fatal = false ∧ s.fw.paused = false ∧ s.ports[p].wire = some id ∧
      s.ports[p].wireCtx = some x0 ∧ s.item? id = some it ∧ s.ctxOf it = some x ∧ it.port = p.val ∧ it.inService =
      true ∧ (it.op.isBulk = true ∨ it.op = .control ∨ it.op.isIntr = true) ∧ (it.ending = some (st, d) ∨ (it.ending =
      none ∧ it.x.expired = true ∧ st = 0x0E ∧ d = it.detail (if it.op = .control then 1 else 2))) ∧ x.errs < 2) ∧
    (∃ (p : PortId) (id : Nat) (it : Item) (x x0 : Ctx) (st d : Nat) (s : State),
      let direct := x.hubAddr = 0 ∨ s.ports[p].speed ≠ 0 ∨ it.x.csplit = true
      s.Live it ∧ it.listDone ∧ s.Canonical ∧ s.held = false ∧ s.fatal = false ∧ s.fw.paused = false ∧ s.ports[p].wire
        = some id ∧ s.ports[p].wireCtx = some x0 ∧ s.item? id = some it ∧ s.ctxOf it = some x ∧ it.port = p.val ∧
        it.inService = true ∧ (it.op.isBulk = true ∨ it.op = .control ∨ it.op.isIntr = true) ∧ (it.ending = some (st,
        d) ∨ (it.ending = none ∧ it.x.expired = true ∧ st = 0x0E ∧ d = it.detail (if it.op = .control then 1 else 2)))
        ∧ direct ∧ (it.op = .bulkOut ∨ it.op = .intrOut) ∧ it.x.ping = false ∧ it.x.done + it.nextBytes x.mps <
        it.length) :=
  ⟨⟨0, { wItem with entry := 2, st := .service 0 none, x := { Xfer.init with running := true, fetching := true } },
    board
    [{ wItem with entry := 2, st := .service 0 none, x := { Xfer.init with running := true, fetching := true } }] [],
    by decide +kernel⟩,
   ⟨0,
     { wItem with entry := 6 + 2 ^ 192, st := .service 0 none, x := { Xfer.init with running := true, fetching := true, isoReady := true, iso := [⟨0, 0, 0, 0, false⟩] } },
     board
     [{ wItem with entry := 6 + 2 ^ 192, st := .service 0 none, x := { Xfer.init with running := true, fetching := true, isoReady := true, iso := [⟨0, 0, 0, 0, false⟩] } }]
     [], by decide +kernel⟩,
   ⟨0, { wItem with entry := 2, st := .service 0 none, x := { Xfer.init with running := true, fetching := true } },
     (board
     [{ wItem with entry := 2, st := .service 0 none, x := { Xfer.init with running := true, fetching := true } }]
     []).modPort 0 (fun x => { x with wire := some 0 }), by decide +kernel⟩,
   ⟨0, { wItem with entry := 2, st := .service 0 none, x := { Xfer.init with running := true, fetching := true } },
     board
     [{ wItem with entry := 2, st := .service 0 none, x := { Xfer.init with running := true, fetching := true } }] [],
     live_of _ _ (by decide +kernel), listDone_of _ (by decide +kernel), canonical_of _ (by decide +kernel), by
     decide +kernel⟩,
   ⟨0, { wItem with entry := 6 + 2 ^ 192, st := .service 0 none, x := { Xfer.init with running := true } }, board
     [{ wItem with entry := 6 + 2 ^ 192, st := .service 0 none, x := { Xfer.init with running := true } }] [wCtx],
     live_of _ _ (by decide +kernel), listDone_of _ (by decide +kernel), canonical_of _ (by decide +kernel), by
     decide +kernel⟩,
   ⟨0, { wItem with entry := 6 + 2 ^ 192, st := .service 0 none, x := { Xfer.init with running := true } }, board
     [{ wItem with entry := 6 + 2 ^ 192, st := .service 0 none, x := { Xfer.init with running := true } }] [wCtx],
     [0xFFFFFFFFFFFFFFFF], wCtx, live_of _ _ (by decide +kernel), listDone_of _ (by decide +kernel), canonical_of _
     (by decide +kernel), by decide +kernel⟩,
   ⟨0, { wItem with entry := 6 + 2 ^ 192, st := .service 0 none, x := { Xfer.init with running := true } }, board
     [{ wItem with entry := 6 + 2 ^ 192, st := .service 0 none, x := { Xfer.init with running := true } }] [wCtx],
     [0], wCtx, live_of _ _ (by decide +kernel), listDone_of _ (by decide +kernel), canonical_of _ (by
     decide +kernel), (by simp only [List.mem_singleton, forall_eq]; decide +kernel), by decide +kernel⟩,
   ⟨0, { wItem with entry := 2, st := .service 0 none, x := { Xfer.init with running := true } }, (board
     [{ wItem with entry := 2, st := .service 0 none, x := { Xfer.init with running := true } }] []).modPort 0 (fun x
     => { x with wire := some 0 }), by decide +kernel⟩,
   ⟨0, { wItem with entry := 2, st := .service 0 none, x := { Xfer.init with running := true } }, board
     [{ wItem with entry := 2, st := .service 0 none, x := { Xfer.init with running := true } }] [], live_of _ _ (by
     decide +kernel), listDone_of _ (by decide +kernel), canonical_of _ (by decide +kernel), by decide +kernel⟩,
   ⟨0, { wItem with entry := 4, st := .service 0 none, x := { Xfer.init with running := true, nakSvc := 16 } }, (board
     [{ wItem with entry := 4, st := .service 0 none, x := { Xfer.init with running := true, nakSvc := 16 } }]
     []).modPort 0 (fun x => { x with wire := some 0 }), by decide +kernel⟩,
   ⟨0, { wItem with entry := 4, st := .service 0 none, x := { Xfer.init with running := true, nakSvc := 16 } }, board
     [{ wItem with entry := 4, st := .service 0 none, x := { Xfer.init with running := true, nakSvc := 16 } }] [],
     live_of _ _ (by decide +kernel), listDone_of _ (by decide +kernel), canonical_of _ (by decide +kernel), by
     decide +kernel⟩,
   ⟨0, 0,
     { wItem with entry := 2, st := .service 0 none, ending := some (5, 5), x := { Xfer.init with running := true } },
     wCtx, wCtx, 5, 5, (board
     [{ wItem with entry := 2, st := .service 0 none, ending := some (5, 5), x := { Xfer.init with running := true } }]
     [wCtx]).modPort 0 (fun x => { x with wire := some 0, wireCtx := some wCtx }), live_of _ _ (by decide +kernel),
     listDone_of _ (by decide +kernel), canonical_of _ (by decide +kernel), by decide +kernel⟩,
   ⟨0, 0,
     { wItem with entry := 2, st := .service 0 none, ending := some (5, 5), x := { Xfer.init with running := true } },
     wCtx, wCtx, 5, 5, (board
     [{ wItem with entry := 2, st := .service 0 none, ending := some (5, 5), x := { Xfer.init with running := true } }]
     [wCtx]).modPort 0 (fun x => { x with wire := some 0, wireCtx := some wCtx }), live_of _ _ (by decide +kernel),
     listDone_of _ (by decide +kernel), canonical_of _ (by decide +kernel), by decide +kernel⟩,
   ⟨0, 0,
     { wItem with entry := 2 + 1024 * 2 ^ 128, st := .service 0 none, ending := some (5, 5), x := { Xfer.init with running := true } },
     wCtx, wCtx, 5, 5, (board
     [{ wItem with entry := 2 + 1024 * 2 ^ 128, st := .service 0 none, ending := some (5, 5), x := { Xfer.init with running := true } }]
     [wCtx]).modPort 0 (fun x => { x with wire := some 0, wireCtx := some wCtx }), live_of _ _ (by decide +kernel),
     listDone_of _ (by decide +kernel), canonical_of _ (by decide +kernel), by decide +kernel⟩⟩

/-- The hypotheses of SettingsRefusedWhole can be met, clause by clause. -/
theorem test_settings_refused_whole_applies :
    (∃ (src : Source) (v : Word) (s : State),
      let n := bits v.toNat 0 13
      s.Takes src 0x050 0x104 ∧ s.Canonical ∧ n ≤ 4096 ∧ s.quotaSum - s.wisQuota none + n ≤ 4096) ∧
    (∃ (src : Source) (v : Word) (s : State),
      let n := bits v.toNat 0 13
      s.Takes src 0x050 0x104 ∧ s.Canonical ∧ 4096 < n) ∧
    (∃ (src : Source) (v : Word) (s : State),
      let n := bits v.toNat 0 13
      s.Takes src 0x050 0x104 ∧ s.Canonical ∧ n ≤ 4096 ∧ 4096 < s.quotaSum - s.wisQuota none + n) ∧
    (∃ (src : Source) (v : Word) (s : State),
      let n := bits v.toNat 0 13
      s.Takes src 0x070 0x100 ∧ s.Canonical ∧ 512 ≤ n ∧ n ≤ 6144 ∧ (n ≤ s.fld (at_ 0x070 0x100) 0 13 ∨ n + s.perAlloc
        (fun _ => true) ≤ 6144)) ∧
    (∃ (src : Source) (v : Word) (s : State),
      let n := bits v.toNat 0 13
      s.Takes src 0x070 0x100 ∧ s.Canonical ∧ (n < 512 ∨ 6144 < n)) ∧
    (∃ (src : Source) (v : Word) (s : State),
      let n := bits v.toNat 0 13
      s.Takes src 0x070 0x100 ∧ s.Canonical ∧ 512 ≤ n ∧ n ≤ 6144 ∧ s.fld (at_ 0x070 0x100) 0 13 < n ∧ 6144 < n +
        s.perAlloc (fun _ => true)) ∧
    (∃ (src : Source) (i : SliceId) (v : Word) (s : State), s.Canonical ∧ s.Takes src (slicePage i) 0x130 ∧ bits
      v.toNat 0 13 ≤ 4096 ∧ (s.slices[i].st = .none ∨ s.wisFits i (bits v.toNat 0 13) = true)) ∧
    (∃ (src : Source) (i : SliceId) (v : Word) (s : State), s.Canonical ∧ s.Takes src (slicePage i) 0x130 ∧ bits
      v.toNat 0 13 ≤ 4096 ∧ s.slices[i].st ≠ .none ∧ s.wisFits i (bits v.toNat 0 13) = false) ∧
    (∃ (src : Source) (i : SliceId) (v : Word) (s : State), s.Canonical ∧ s.Takes src (slicePage i) 0x138 ∧ bits
      v.toNat 0 13 ≤ 6144 ∧ (s.slices[i].st = .none ∨ s.granFits i (bits v.toNat 0 13) = true)) ∧
    (∃ (src : Source) (i : SliceId) (v : Word) (s : State), s.Canonical ∧ s.Takes src (slicePage i) 0x138 ∧ bits
      v.toNat 0 13 ≤ 6144 ∧ s.slices[i].st ≠ .none ∧ s.granFits i (bits v.toNat 0 13) = false) ∧
    (∃ (src : Source) (i : SliceId) (v : Word) (s : State), s.Canonical ∧ s.Takes src (slicePage i) 0x130 ∧ 4096 <
      bits v.toNat 0 13) ∧
    (∃ (src : Source) (i : SliceId) (v : Word) (s : State), s.Canonical ∧ s.Takes src (slicePage i) 0x138 ∧ 6144 <
      bits v.toNat 0 13) ∧
    (∃ (src : Source) (i : SliceId) (v : Word) (s : State), s.Canonical ∧ s.Takes src (slicePage i) 0x134 ∧ 1024 <
      bits v.toNat 0 11) ∧
    (∃ (src : Source) (i : SliceId) (v : Word) (s : State), s.Canonical ∧ s.Takes src (slicePage i) 0x134 ∧ bits
      v.toNat 0 11 ≤ 1024) ∧
    (∃ (src : Source) (i : SliceId) (v : Word) (s : State), s.Canonical ∧ s.Takes src (slicePage i) 0x118 ∧
      (s.slices[i].st = .none ∨ v &&& ~~~(s.reg (at_ (slicePage i) 0x110)) = 0)) ∧
    (∃ (src : Source) (i : SliceId) (v : Word) (s : State), s.Canonical ∧ s.Takes src (slicePage i) 0x118 ∧
      s.slices[i].st ≠ .none ∧ v &&& ~~~(s.reg (at_ (slicePage i) 0x110)) ≠ 0) ∧
    (∃ (src : Source) (i : SliceId) (v : Word) (s : State), s.Canonical ∧ s.Takes src (slicePage i) 0x11C ∧
      (s.slices[i].st = .none ∨ (v &&& 0xFFFF) &&& ~~~(s.reg (at_ (slicePage i) 0x114)) = 0)) ∧
    (∃ (src : Source) (i : SliceId) (v : Word) (s : State), s.Canonical ∧ s.Takes src (slicePage i) 0x11C ∧
      s.slices[i].st ≠ .none ∧ (v &&& 0xFFFF) &&& ~~~(s.reg (at_ (slicePage i) 0x114)) ≠ 0) ∧
    (∃ (src : Source) (v : Word) (s : State) (m : RegId), s.Canonical ∧ s.Takes src (regionPage m) 0x104 ∧ s.linkDown
      m = false ∧ bits v.toNat 0 11 ≤ 1600) ∧
    (∃ (src : Source) (s : State) (m : RegId), s.Canonical ∧ s.Takes src (regionPage m) 0x104 ∧ s.linkDown m = true) ∧
    (∃ (src : Source) (v : Word) (s : State) (m : RegId), s.Canonical ∧ s.Takes src (regionPage m) 0x104 ∧ s.linkDown
      m = false ∧ 1600 < bits v.toNat 0 11) ∧
    (∃ (src : Source) (v : Word) (s : State) (k : PodId), s.Canonical ∧ s.Takes src (podPage k) (podAt k 0 % 4096) ∧
      s.linkDown ⟨k.val / 3, by omega⟩ = false ∧ bits v.toNat 0 10 ≤ 840) ∧
    (∃ (src : Source) (s : State) (k : PodId), s.Canonical ∧ s.Takes src (podPage k) (podAt k 0 % 4096) ∧ s.linkDown
      ⟨k.val / 3, by omega⟩ = true) ∧
    (∃ (src : Source) (v : Word) (s : State) (k : PodId), s.Canonical ∧ s.Takes src (podPage k) (podAt k 0 % 4096) ∧
      s.linkDown ⟨k.val / 3, by omega⟩ = false ∧ 840 < bits v.toNat 0 10) ∧
    (∃ (src : Source) (v : Word) (s : State) (system : Bool),
      let o := if system then 0x104 else 0x100
      s.Canonical ∧ s.Takes src 6 o ∧ bits v.toNat 0 13 ≤ 4800) ∧
    (∃ (src : Source) (v : Word) (s : State) (system : Bool),
      let o := if system then 0x104 else 0x100
      s.Canonical ∧ s.Takes src 6 o ∧ 4800 < bits v.toNat 0 13) ∧
    (∃ (src : Source) (p : PortId) (v : Word) (s : State), s.Takes src (portPage p) 0x208 ∧ s.Canonical ∧ (signed 12
      (bits v.toNat 0 12)).natAbs ≤ 1920) ∧
    (∃ (src : Source) (p : PortId) (v : Word) (s : State), s.Takes src (portPage p) 0x208 ∧ s.Canonical ∧ 1920 <
      (signed 12 (bits v.toNat 0 12)).natAbs) :=
  ⟨⟨.bar0, 0, up, takes_of _ _ _ _ (by decide +kernel), canonical_of _ (by decide +kernel), by decide +kernel⟩,
   ⟨.bar0, 0xf0f0, up, takes_of _ _ _ _ (by decide +kernel), canonical_of _ (by decide +kernel), by decide +kernel⟩,
   ⟨.bar0, 4096, (up.modSlice 0 (fun x => { x with st := .active })).setReg (at_ (slicePage 0) 0x130) 1, takes_of _ _
     _ _ (by decide +kernel), canonical_of _ (by decide +kernel), by decide +kernel⟩,
   ⟨.bar0, 0x1000, up, takes_of _ _ _ _ (by decide +kernel), canonical_of _ (by decide +kernel), by decide +kernel⟩,
   ⟨.bar0, 0, up, takes_of _ _ _ _ (by decide +kernel), canonical_of _ (by decide +kernel), by decide +kernel⟩,
   ⟨.bar0, 6144, board [] [{ wCtx with typ := 3, granules := 1 }], takes_of _ _ _ _ (by decide +kernel), canonical_of
     _ (by decide +kernel), by decide +kernel⟩,
   ⟨.bar0, 0, 0, up, canonical_of _ (by decide +kernel), takes_of _ _ _ _ (by decide +kernel), by decide +kernel⟩,
   ⟨.bar0, 0, 1, up.modSlice 0 (fun x => { x with st := .active }), canonical_of _ (by decide +kernel), takes_of _ _ _
     _ (by decide +kernel), by decide +kernel⟩,
   ⟨.bar0, 0, 0, up, canonical_of _ (by decide +kernel), takes_of _ _ _ _ (by decide +kernel), by decide +kernel⟩,
   ⟨.bar0, 0, 1, up.modSlice 0 (fun x => { x with st := .active }), canonical_of _ (by decide +kernel), takes_of _ _ _
     _ (by decide +kernel), by decide +kernel⟩,
   ⟨.bar0, 0, 0xf0f0, up, canonical_of _ (by decide +kernel), takes_of _ _ _ _ (by decide +kernel), by decide +kernel⟩,
   ⟨.bar0, 0, 0xffffffff, up, canonical_of _ (by decide +kernel), takes_of _ _ _ _ (by decide +kernel), by
     decide +kernel⟩,
   ⟨.bar0, 0, 0xffffffff, up, canonical_of _ (by decide +kernel), takes_of _ _ _ _ (by decide +kernel), by
     decide +kernel⟩,
   ⟨.bar0, 0, 0, up, canonical_of _ (by decide +kernel), takes_of _ _ _ _ (by decide +kernel), by decide +kernel⟩,
   ⟨.bar0, 0, 0, up, canonical_of _ (by decide +kernel), takes_of _ _ _ _ (by decide +kernel), by decide +kernel⟩,
   ⟨.bar0, 0, 1, up.modSlice 0 (fun x => { x with st := .active }), canonical_of _ (by decide +kernel), takes_of _ _ _
     _ (by decide +kernel), by decide +kernel⟩,
   ⟨.bar0, 0, 0, up, canonical_of _ (by decide +kernel), takes_of _ _ _ _ (by decide +kernel), by decide +kernel⟩,
   ⟨.bar0, 0, 1, up.modSlice 0 (fun x => { x with st := .active }), canonical_of _ (by decide +kernel), takes_of _ _ _
     _ (by decide +kernel), by decide +kernel⟩,
   ⟨.bar0, 0, up, 0, canonical_of _ (by decide +kernel), takes_of _ _ _ _ (by decide +kernel), by decide +kernel⟩,
   ⟨.bar0, up.modRegion 0 (fun x => { x with running := false }), 0, canonical_of _ (by decide +kernel), takes_of _ _
     _ _ (by decide +kernel), by decide +kernel⟩,
   ⟨.bar0, 0xffffffff, up, 0, canonical_of _ (by decide +kernel), takes_of _ _ _ _ (by decide +kernel), by
     decide +kernel⟩,
   ⟨.bar0, 0, up, 0, canonical_of _ (by decide +kernel), takes_of _ _ _ _ (by decide +kernel), by decide +kernel⟩,
   ⟨.bar0, up.modRegion 0 (fun x => { x with running := false }), 0, canonical_of _ (by decide +kernel), takes_of _ _
     _ _ (by decide +kernel), by decide +kernel⟩,
   ⟨.bar0, 0xffffffff, up, 0, canonical_of _ (by decide +kernel), takes_of _ _ _ _ (by decide +kernel), by
     decide +kernel⟩,
   ⟨.bar0, 0, up, false, canonical_of _ (by decide +kernel), takes_of _ _ _ _ (by decide +kernel), by decide +kernel⟩,
   ⟨.bar0, 0xffffffff, up, false, canonical_of _ (by decide +kernel), takes_of _ _ _ _ (by decide +kernel), by
     decide +kernel⟩,
   ⟨.bar0, 0, 0, up, takes_of _ _ _ _ (by decide +kernel), canonical_of _ (by decide +kernel), by decide +kernel⟩,
   ⟨.bar0, 0, 0x7FF, up, takes_of _ _ _ _ (by decide +kernel), canonical_of _ (by decide +kernel), by decide +kernel⟩⟩

/-- The hypotheses of PortResets can be met, clause by clause. -/
theorem test_port_resets_applies :
    (∃ (id : Nat) (it : Item) (p : PortId) (s : State), s.Canonical ∧ s.serving id = some it ∧ it.op = .portReset ∧
      it.x.ctxReady = true ∧ it.x.running = false ∧ portId? it.port = some p ∧ s.verdict p .reset = .run ∧
      s.ports[p].sends = true) ∧
    (∃ (id : Nat) (it : Item) (p : PortId) (s : State), s.Canonical ∧ s.serving id = some it ∧ it.op = .portReset ∧
      it.x.ctxReady = true ∧ it.x.running = false ∧ portId? it.port = some p ∧ s.verdict p .reset = .run ∧
      s.ports[p].sends = false ∧ (∀ x ∈ s.wis, x.port = p.val → x.op = .portReset → x.id ≠ id → x.inService = false))
      ∧
    (∃ (id : Nat) (it : Item) (p : PortId) (s : State) (st d : Nat), s.Canonical ∧ s.Live it ∧ it.listDone ∧ s.serving
      id = some it ∧ it.op = .portReset ∧ it.x.ctxReady = true ∧ it.x.running = false ∧ portId? it.port = some p ∧
      s.verdict p .reset = .ends st d) ∧
    (∃ (id : Nat) (it : Item) (p : PortId) (s : State), s.Canonical ∧ s.serving id = some it ∧ it.op = .portReset ∧
      it.x.ctxReady = true ∧ it.x.running = false ∧ portId? it.port = some p ∧ s.verdict p .reset = .wait) ∧
    (∃ (p : PortId) (it : Item) (s : State), s.Canonical ∧ s.portLive p = true ∧ s.ports[p].resetWait = true ∧
      s.portItem p .portReset = some it) ∧
    (∃ (p : PortId) (s : State), s.portLive p = true ∧ s.ports[p].st = .resetting ∧ s.ports[p].resetEnded = false ∧
      s.ports[p].chirp = .none) ∧
    (∃ (p : PortId) (s : State), s.portLive p = true ∧ s.ports[p].st = .resetting ∧ s.ports[p].resetEnded = false ∧
      s.ports[p].chirp = .seen) ∧
    (∃ (p : PortId) (s : State), s.portLive p = true ∧ s.ports[p].st = .resetting ∧ s.ports[p].resetEnded = false ∧
      s.ports[p].chirp = .pairs) ∧
    (∃ (p : PortId) (s : State), s.portLive p = true ∧ s.ports[p].st = .resetting ∧ s.ports[p].resetEnded = false ∧
      (s.ports[p].chirp = .none ∨ s.ports[p].chirp = .good)) ∧
    (∃ (p : PortId) (s : State), s.Canonical ∧ s.portLive p = true ∧ s.ports[p].st = .resetting ∧
      s.ports[p].resetEnded = false ∧ s.ports[p].chirp ≠ .none ∧ s.ports[p].chirp ≠ .good) ∧
    (∃ (p : PortId) (s : State), s.portLive p = true) :=
  ⟨⟨0, { wItem with entry := 32, st := .service 0 none, x := { Xfer.init with ctxReady := true } }, 0, (board
    [{ wItem with entry := 32, st := .service 0 none, x := { Xfer.init with ctxReady := true } }] [wCtx]).modPort 0
    (fun x => { x with st := .enabled }), canonical_of _ (by decide +kernel), by decide +kernel⟩,
   ⟨0, { wItem with entry := 32, st := .service 0 none, x := { Xfer.init with ctxReady := true } }, 0, (board
     [{ wItem with entry := 32, st := .service 0 none, x := { Xfer.init with ctxReady := true } }] [wCtx]).modPort 0
     (fun x => { x with st := .suspended }), canonical_of _ (by decide +kernel), by decide +kernel⟩,
   ⟨0, { wItem with entry := 32, st := .service 0 none, x := { Xfer.init with ctxReady := true } }, 0, board
     [{ wItem with entry := 32, st := .service 0 none, x := { Xfer.init with ctxReady := true } }] [], 0x0B, 2,
     canonical_of _ (by decide +kernel), live_of _ _ (by decide +kernel), listDone_of _ (by decide +kernel), by
     decide +kernel⟩,
   ⟨0, { wItem with entry := 32, st := .service 0 none, x := { Xfer.init with ctxReady := true } }, 0, (board
     [{ wItem with entry := 32, st := .service 0 none, x := { Xfer.init with ctxReady := true } }] [wCtx]).modPort 0
     (fun x => { x with st := .resetting }), canonical_of _ (by decide +kernel), by decide +kernel⟩,
   ⟨0, { wItem with entry := 32, st := .service 0 none, x := { Xfer.init with running := true } }, (board
     [{ wItem with entry := 32, st := .service 0 none, x := { Xfer.init with running := true } }] []).modPort 0 (fun x
     => { x with resetWait := true }), canonical_of _ (by decide +kernel), by decide +kernel⟩,
   ⟨0, up.modPort 0 (fun x => { x with st := .resetting }), by decide +kernel⟩,
   ⟨0, up.modPort 0 (fun x => { x with st := .resetting, chirp := .seen }), by decide +kernel⟩,
   ⟨0, up.modPort 0 (fun x => { x with st := .resetting, chirp := .pairs }), by decide +kernel⟩,
   ⟨0, up.modPort 0 (fun x => { x with st := .resetting }), by decide +kernel⟩,
   ⟨0, up.modPort 0 (fun x => { x with st := .resetting, chirp := .seen }), canonical_of _ (by decide +kernel), by
     decide +kernel⟩,
   ⟨0, up, by decide +kernel⟩⟩

/-- The hypotheses of SuspendAndResume can be met, clause by clause. -/
theorem test_suspend_and_resume_applies :
    (∃ (id : Nat) (it : Item) (p : PortId) (s : State), s.Canonical ∧ s.Live it ∧ it.listDone ∧ s.serving id = some it
      ∧ it.op = .portSuspend ∧ it.x.ctxReady = true ∧ it.x.running = false ∧ portId? it.port = some p ∧ s.portOn p =
      true ∧ s.ports[p].st = .suspended) ∧
    (∃ (id : Nat) (it : Item) (p : PortId) (s : State), s.Canonical ∧ s.serving id = some it ∧ it.op = .portSuspend ∧
      it.x.ctxReady = true ∧ it.x.running = false ∧ portId? it.port = some p ∧ s.portOn p = true ∧ s.ports[p].st =
      .enabled) ∧
    (∃ (id : Nat) (it : Item) (p : PortId) (s : State), s.Canonical ∧ s.serving id = some it ∧ it.op = .portSuspend ∧
      it.x.ctxReady = true ∧ it.x.running = false ∧ portId? it.port = some p ∧ s.verdict p .suspend = .wait) ∧
    (∃ (id : Nat) (it : Item) (p : PortId) (s : State) (st d : Nat), s.Canonical ∧ s.Live it ∧ it.listDone ∧ s.serving
      id = some it ∧ it.op = .portSuspend ∧ it.x.ctxReady = true ∧ it.x.running = false ∧ portId? it.port = some p ∧
      s.verdict p .suspend = .ends st d) ∧
    (∃ (p : PortId) (s : State), s.portLive p = true ∧ s.ports[p].suspPend = true ∧ (∀ x ∈ s.wis, x.port = p.val →
      x.inService = true → x.op.noFlow = true ∨ x.op = .portSuspend)) ∧
    (∃ (p : PortId) (it : Item) (s : State), s.Live it ∧ it.listDone ∧ s.Canonical ∧ s.portLive p = true ∧ s.fatal =
      false ∧ s.ports[p].suspPend = true ∧ s.portItem p .portSuspend = some it ∧ s.ports[p].st = .enabled ∧
      s.ports[p].suspIdle = true) ∧
    (∃ (p : PortId) (it : Item) (s : State), s.Live it ∧ it.listDone ∧ s.Canonical ∧ s.portLive p = true ∧ s.fatal =
      false ∧ s.ports[p].suspPend = true ∧ s.portItem p .portSuspend = some it ∧ s.ports[p].suspIdle = false) ∧
    (∃ (id : Nat) (it : Item) (p : PortId) (s : State), s.Canonical ∧ s.Live it ∧ it.listDone ∧ s.serving id = some it
      ∧ it.op = .portResume ∧ it.x.ctxReady = true ∧ it.x.running = false ∧ portId? it.port = some p ∧ s.portOn p =
      true ∧ s.ports[p].st = .enabled) ∧
    (∃ (id : Nat) (it : Item) (p : PortId) (s : State), s.Canonical ∧ s.serving id = some it ∧ it.op = .portResume ∧
      it.x.ctxReady = true ∧ it.x.running = false ∧ portId? it.port = some p ∧ s.portOn p = true ∧ s.ports[p].st =
      .suspended) ∧
    (∃ (id : Nat) (it : Item) (p : PortId) (s : State), s.Canonical ∧ s.serving id = some it ∧ it.op = .portResume ∧
      it.x.ctxReady = true ∧ it.x.running = false ∧ portId? it.port = some p ∧ s.verdict p .resume = .wait) ∧
    (∃ (id : Nat) (it : Item) (p : PortId) (s : State) (st d : Nat), s.Canonical ∧ s.Live it ∧ it.listDone ∧ s.serving
      id = some it ∧ it.op = .portResume ∧ it.x.ctxReady = true ∧ it.x.running = false ∧ portId? it.port = some p ∧
      s.verdict p .resume = .ends st d) ∧
    (∃ (p : PortId) (s : State), s.portLive p = true ∧ s.ports[p].st = .resuming) ∧
    (∃ (p : PortId) (s : State), s.portLive p = true ∧ s.ports[p].st = .suspended ∧ s.flag (at_ (portPage p) 0x14) 1 =
      true) ∧
    (∃ (p : PortId) (s : State), s.Canonical ∧ s.portLive p = true ∧ s.ports[p].st = .suspended ∧ s.flag (at_
      (portPage p) 0x14) 1 = false) ∧
    (∃ (p : PortId) (s : State), s.portLive p = true ∧ s.ports[p].st = .resuming ∧ s.ports[p].remote = false ∧
      s.ports[p].resumeEnded = false) :=
  ⟨⟨0, { wItem with entry := 33, st := .service 0 none, x := { Xfer.init with ctxReady := true } }, 0, (board
    [{ wItem with entry := 33, st := .service 0 none, x := { Xfer.init with ctxReady := true } }] [wCtx]).modPort 0
    (fun x => { x with st := .suspended }), canonical_of _ (by decide +kernel), live_of _ _ (by decide +kernel),
    listDone_of _ (by decide +kernel), by decide +kernel⟩,
   ⟨0, { wItem with entry := 33, st := .service 0 none, x := { Xfer.init with ctxReady := true } }, 0, (board
     [{ wItem with entry := 33, st := .service 0 none, x := { Xfer.init with ctxReady := true } }] [wCtx]).modPort 0
     (fun x => { x with st := .enabled }), canonical_of _ (by decide +kernel), by decide +kernel⟩,
   ⟨0, { wItem with entry := 33, st := .service 0 none, x := { Xfer.init with ctxReady := true } }, 0, (board
     [{ wItem with entry := 33, st := .service 0 none, x := { Xfer.init with ctxReady := true } }] [wCtx]).modPort 0
     (fun x => { x with st := .resetting }), canonical_of _ (by decide +kernel), by decide +kernel⟩,
   ⟨0, { wItem with entry := 33, st := .service 0 none, x := { Xfer.init with ctxReady := true } }, 0, board
     [{ wItem with entry := 33, st := .service 0 none, x := { Xfer.init with ctxReady := true } }] [], 0x0B, 2,
     canonical_of _ (by decide +kernel), live_of _ _ (by decide +kernel), listDone_of _ (by decide +kernel), by
     decide +kernel⟩,
   ⟨0, (board [wItem] []).modPort 0 (fun x => { x with suspPend := true }), by decide +kernel⟩,
   ⟨0, { wItem with entry := 33, st := .service 0 none, x := { Xfer.init with running := true } }, (board
     [{ wItem with entry := 33, st := .service 0 none, x := { Xfer.init with running := true } }] []).modPort 0 (fun x
     => { x with st := .enabled, suspPend := true, suspIdle := true }), live_of _ _ (by decide +kernel), listDone_of _
     (by decide +kernel), canonical_of _ (by decide +kernel), by decide +kernel⟩,
   ⟨0, { wItem with entry := 33, st := .service 0 none, x := { Xfer.init with running := true } }, (board
     [{ wItem with entry := 33, st := .service 0 none, x := { Xfer.init with running := true } }] []).modPort 0 (fun x
     => { x with suspPend := true }), live_of _ _ (by decide +kernel), listDone_of _ (by decide +kernel), canonical_of
     _ (by decide +kernel), by decide +kernel⟩,
   ⟨0, { wItem with entry := 34, st := .service 0 none, x := { Xfer.init with ctxReady := true } }, 0, (board
     [{ wItem with entry := 34, st := .service 0 none, x := { Xfer.init with ctxReady := true } }] [wCtx]).modPort 0
     (fun x => { x with st := .enabled }), canonical_of _ (by decide +kernel), live_of _ _ (by decide +kernel),
     listDone_of _ (by decide +kernel), by decide +kernel⟩,
   ⟨0, { wItem with entry := 34, st := .service 0 none, x := { Xfer.init with ctxReady := true } }, 0, (board
     [{ wItem with entry := 34, st := .service 0 none, x := { Xfer.init with ctxReady := true } }] [wCtx]).modPort 0
     (fun x => { x with st := .suspended }), canonical_of _ (by decide +kernel), by decide +kernel⟩,
   ⟨0, { wItem with entry := 34, st := .service 0 none, x := { Xfer.init with ctxReady := true } }, 0, (board
     [{ wItem with entry := 34, st := .service 0 none, x := { Xfer.init with ctxReady := true } }] [wCtx]).modPort 0
     (fun x => { x with st := .resetting }), canonical_of _ (by decide +kernel), by decide +kernel⟩,
   ⟨0, { wItem with entry := 34, st := .service 0 none, x := { Xfer.init with ctxReady := true } }, 0, board
     [{ wItem with entry := 34, st := .service 0 none, x := { Xfer.init with ctxReady := true } }] [], 0x0B, 2,
     canonical_of _ (by decide +kernel), live_of _ _ (by decide +kernel), listDone_of _ (by decide +kernel), by
     decide +kernel⟩,
   ⟨0, up.modPort 0 (fun x => { x with st := .resuming }), by decide +kernel⟩,
   ⟨0, (up.modPort 0 (fun x => { x with st := .suspended })).setReg (at_ 0x080 0x014) 2, by decide +kernel⟩,
   ⟨0, up.modPort 0 (fun x => { x with st := .suspended }), canonical_of _ (by decide +kernel), by decide +kernel⟩,
   ⟨0, up.modPort 0 (fun x => { x with st := .resuming }), by decide +kernel⟩⟩

/-- The hypotheses of AttachDetachBabble can be met, clause by clause. -/
theorem test_attach_detach_babble_applies :
    (∃ (p : PortId) (low : Bool) (s : State), s.Canonical ∧ s.portLive p = true ∧ s.ports[p].st = .disconnected ∧
      s.ports[p].conn = false ∧ s.ports[p].line = (if low then .k else .j) ∧ s.isDcp p = false) ∧
    (∃ (p : PortId) (low : Bool) (s : State), s.Canonical ∧ s.portLive p = true ∧ s.ports[p].st = .disconnected ∧
      s.ports[p].conn = false ∧ s.ports[p].line = (if low then .k else .j) ∧ s.isDcp p = true) ∧
    (∃ (p : PortId) (s : State), s.Canonical ∧ s.portLive p = true ∧ s.ports[p].detects = true) ∧
    (∃ (p : PortId) (s : State), s.Canonical ∧ s.portLive p = true ∧ s.ports[p].detects = false) ∧
    (∃ (p : PortId) (s : State), s.Canonical ∧ s.portLive p = true ∧ s.ports[p].st = .enabled ∧ s.ports[p].resetWait =
      false) ∧
    (∃ (src : Source) (p : PortId) (s : State), s.Takes src (portPage p) 0x014 ∧ s.Canonical ∧ (s.ports[p].st =
      .enabled ∨ s.ports[p].st = .suspended ∨ s.ports[p].st = .resuming)) ∧
    (∃ (src : Source) (p : PortId) (s : State), s.Takes src (portPage p) 0x014 ∧ s.Canonical ∧ s.ports[p].st ≠
      .enabled ∧ s.ports[p].st ≠ .suspended ∧ s.ports[p].st ≠ .resuming) ∧
    (∃ (s : State), s.held = false) :=
  ⟨⟨0, false, up.modPort 0 (fun x => { x with st := .disconnected, line := .j }), canonical_of _ (by decide +kernel),
    by decide +kernel⟩,
   ⟨0, false, (up.modPort 0 (fun x => { x with st := .disconnected, line := .j })).setReg (at_ 0x080 0x10C) 2,
     canonical_of _ (by decide +kernel), by decide +kernel⟩,
   ⟨0, up.modPort 0 (fun x => { x with st := .suspended }), canonical_of _ (by decide +kernel), by decide +kernel⟩,
   ⟨0, up, canonical_of _ (by decide +kernel), by decide +kernel⟩,
   ⟨0, up.modPort 0 (fun x => { x with st := .enabled }), canonical_of _ (by decide +kernel), by decide +kernel⟩,
   ⟨.bar0, 0, up.modPort 0 (fun x => { x with st := .enabled }), takes_of _ _ _ _ (by decide +kernel), canonical_of _
     (by decide +kernel), by decide +kernel⟩,
   ⟨.bar0, 0, up, takes_of _ _ _ _ (by decide +kernel), canonical_of _ (by decide +kernel), by decide +kernel⟩,
   ⟨up, by decide +kernel⟩⟩

/-- The hypotheses of RolesAndTests can be met, clause by clause. -/
theorem test_roles_and_tests_applies :
    (∃ (src : Source) (p : PortId) (v : Word) (s : State),
      let r := bits v.toNat 0 2
      let vacant := s.ports[p].st = .powerOff ∨ (s.ports[p].st = .disconnected ∧ s.ports[p].conn = false)
      let dropped := s.doms[podDom (podOf p)].st = .entering ∧ r = 1 ∧ s.ports[p].pgood = true
      s.Takes src (portPage p) 0x10C ∧ s.Canonical ∧ r ≠ 3 ∧ vacant ∧ dropped) ∧
    (∃ (src : Source) (p : PortId) (v : Word) (s : State),
      let r := bits v.toNat 0 2
      let vacant := s.ports[p].st = .powerOff ∨ (s.ports[p].st = .disconnected ∧ s.ports[p].conn = false)
      let dropped := s.doms[podDom (podOf p)].st = .entering ∧ r = 1 ∧ s.ports[p].pgood = true
      s.Takes src (portPage p) 0x10C ∧ s.Canonical ∧ r ≠ 3 ∧ vacant ∧ ¬ dropped) ∧
    (∃ (src : Source) (p : PortId) (v : Word) (s : State),
      let r := bits v.toNat 0 2
      let vacant := s.ports[p].st = .powerOff ∨ (s.ports[p].st = .disconnected ∧ s.ports[p].conn = false)
      s.Takes src (portPage p) 0x10C ∧ s.Canonical ∧ r = 3 ∧ vacant) ∧
    (∃ (src : Source) (p : PortId) (s : State),
      let vacant := s.ports[p].st = .powerOff ∨ (s.ports[p].st = .disconnected ∧ s.ports[p].conn = false)
      s.Takes src (portPage p) 0x10C ∧ s.Canonical ∧ ¬ vacant) ∧
    (∃ (p : PortId) (s : State), s.portLive p = true ∧ s.ports[p].st = .disconnected ∧ s.fld (at_ (portPage p) 0x10C)
      0 2 = 1) ∧
    (∃ (p : PortId) (s : State), s.portLive p = true) ∧
    (∃ (src : Source) (p : PortId) (v : Word) (s : State),
      let m := bits v.toNat 0 3
      s.Takes src (portPage p) 0x110 ∧ s.Canonical ∧ 5 < m) ∧
    (∃ (src : Source) (p : PortId) (v : Word) (s : State),
      let m := bits v.toNat 0 3
      s.Takes src (portPage p) 0x110 ∧ s.Canonical ∧ m = 0 ∧ s.ports[p].st = .test) ∧
    (∃ (src : Source) (p : PortId) (v : Word) (s : State),
      let m := bits v.toNat 0 3
      s.Takes src (portPage p) 0x110 ∧ s.Canonical ∧ m = 0 ∧ s.ports[p].st ≠ .test) ∧
    (∃ (src : Source) (p : PortId) (v : Word) (s : State),
      let m := bits v.toNat 0 3
      s.Takes src (portPage p) 0x110 ∧ s.Canonical ∧ 1 ≤ m ∧ m ≤ 5 ∧ s.ports[p].st = .test) ∧
    (∃ (src : Source) (p : PortId) (v : Word) (s : State),
      let m := bits v.toNat 0 3
      s.Takes src (portPage p) 0x110 ∧ s.Canonical ∧ 1 ≤ m ∧ m ≤ 5 ∧ (s.portOn p = false ∨ s.domOn domTIME = false) ∧
        (s.ports[p].st = .suspended ∨ (s.ports[p].st = .disconnected ∧ s.isDcp p = false))) ∧
    (∃ (src : Source) (p : PortId) (v : Word) (s : State),
      let m := bits v.toNat 0 3
      s.Takes src (portPage p) 0x110 ∧ s.Canonical ∧ 1 ≤ m ∧ m ≤ 5 ∧ s.portOn p = true ∧ s.domOn domTIME = true ∧
        (s.ports[p].st = .suspended ∨ (s.ports[p].st = .disconnected ∧ s.isDcp p = false))) ∧
    (∃ (src : Source) (p : PortId) (v : Word) (s : State),
      let m := bits v.toNat 0 3
      s.Takes src (portPage p) 0x110 ∧ s.Canonical ∧ 1 ≤ m ∧ m ≤ 5 ∧ s.ports[p].st ≠ .test ∧ s.ports[p].st ≠
        .suspended ∧ ¬ (s.ports[p].st = .disconnected ∧ s.isDcp p = false)) :=
  ⟨⟨.bar0, 0, 1, (up.modPort 0 (fun x => { x with pgood := true })).modDom (podDom (podOf 0)) (fun x =>
    { x with st := .entering }), takes_of _ _ _ _ (by decide +kernel), canonical_of _ (by decide +kernel), by
    decide +kernel⟩,
   ⟨.bar0, 0, 0, up, takes_of _ _ _ _ (by decide +kernel), canonical_of _ (by decide +kernel), by decide +kernel⟩,
   ⟨.bar0, 0, 3, up, takes_of _ _ _ _ (by decide +kernel), canonical_of _ (by decide +kernel), by decide +kernel⟩,
   ⟨.bar0, 0, up.modPort 0 (fun x => { x with st := .resetting }), takes_of _ _ _ _ (by decide +kernel), canonical_of
     _ (by decide +kernel), by decide +kernel⟩,
   ⟨0, (up.modPort 0 (fun x => { x with st := .disconnected })).setReg (at_ 0x080 0x10C) 1, by decide +kernel⟩,
   ⟨0, up, by decide +kernel⟩,
   ⟨.bar0, 0, 7, up, takes_of _ _ _ _ (by decide +kernel), canonical_of _ (by decide +kernel), by decide +kernel⟩,
   ⟨.bar0, 0, 0, up.modPort 0 (fun x => { x with st := .test }), takes_of _ _ _ _ (by decide +kernel), canonical_of _
     (by decide +kernel), by decide +kernel⟩,
   ⟨.bar0, 0, 0, up, takes_of _ _ _ _ (by decide +kernel), canonical_of _ (by decide +kernel), by decide +kernel⟩,
   ⟨.bar0, 0, 1, up.modPort 0 (fun x => { x with st := .test }), takes_of _ _ _ _ (by decide +kernel), canonical_of _
     (by decide +kernel), by decide +kernel⟩,
   ⟨.bar0, 0, 1, (up.modPort 0 (fun x => { x with st := .disconnected })).modCtl (fun x =>
     { x with pllLock := false }), takes_of _ _ _ _ (by decide +kernel), canonical_of _ (by decide +kernel), by
     decide +kernel⟩,
   ⟨.bar0, 0, 1, up.modPort 0 (fun x => { x with st := .disconnected }), takes_of _ _ _ _ (by decide +kernel),
     canonical_of _ (by decide +kernel), by decide +kernel⟩,
   ⟨.bar0, 0, 1, up, takes_of _ _ _ _ (by decide +kernel), canonical_of _ (by decide +kernel), by decide +kernel⟩⟩

/-- The hypotheses of MicroframeBoundaries can be met, clause by clause. -/
theorem test_microframe_boundaries_applies :
    (∃ (s : State), s.timeRuns = true ∧ s.refClk.landing = none) ∧
    (∃ (p : PortId) (s : State), s.Canonical ∧ s.timeRuns = true ∧ s.clks[p].landing = none ∧ s.ports[p].resetWait =
      false) :=
  ⟨⟨up, by decide +kernel⟩,
   ⟨0, up, canonical_of _ (by decide +kernel), by decide +kernel⟩⟩

/-- The hypotheses of FrameClockSources can be met, clause by clause. -/
theorem test_frame_clock_sources_applies :
    (∃ (c : Instr) (src : Source) (k : ClkId) (ratio : Bool) (v : Word) (s : State),
      let page := match k with | .port p => portPage p | .ref => 5
      let o := (if ratio then clkRatioAt k else clkSrcAt k) % 4096
      let u := s.plainWrite page o (2 ^ 32 - 1) v
      s.Takes src page o ∧ s.Canonical ∧ ((∃ p : PortId, k = .port p ∧ ((c = .sofSrcWrite src p v ∧ ratio = false) ∨
        (c = .sofRatioWrite src p v ∧ ratio = true))) ∨ (k = .ref ∧ c = .refSrcWrite src ratio v)) ∧ legalWrite page o
        v = true ∧ (¬ (u.discOk k = true ∧ (k = .ref → u.syncOk = true)))) ∧
    (∃ (c : Instr) (src : Source) (k : ClkId) (ratio : Bool) (v : Word) (s : State),
      let page := match k with | .port p => portPage p | .ref => 5
      let o := (if ratio then clkRatioAt k else clkSrcAt k) % 4096
      let u := s.plainWrite page o (2 ^ 32 - 1) v
      s.Takes src page o ∧ s.Canonical ∧ ((∃ p : PortId, k = .port p ∧ ((c = .sofSrcWrite src p v ∧ ratio = false) ∨
        (c = .sofRatioWrite src p v ∧ ratio = true))) ∨ (k = .ref ∧ c = .refSrcWrite src ratio v)) ∧ legalWrite page o
        v = true ∧ u.discOk k = true ∧ (k = .ref → u.syncOk = true) ∧ s.domOn domTIME = false) ∧
    (∃ (c : Instr) (src : Source) (k : ClkId) (ratio : Bool) (v : Word) (s : State),
      let page := match k with | .port p => portPage p | .ref => 5
      let o := (if ratio then clkRatioAt k else clkSrcAt k) % 4096
      let u := s.plainWrite page o (2 ^ 32 - 1) v
      s.Takes src page o ∧ s.Canonical ∧ ((∃ p : PortId, k = .port p ∧ ((c = .sofSrcWrite src p v ∧ ratio = false) ∨
        (c = .sofRatioWrite src p v ∧ ratio = true))) ∨ (k = .ref ∧ c = .refSrcWrite src ratio v)) ∧ legalWrite page o
        v = true ∧ u.discOk k = true ∧ (k = .ref → u.syncOk = true) ∧ s.domOn domTIME = true) ∧
    (∃ (src : Source) (v : Word) (s : State), s.Takes src 5 0x15C ∧ s.Canonical ∧ legalWrite 5 0x15C v = true ∧
      (s.clkSrc .ref = 6 ↔ bits v.toNat 0 2 = 2)) ∧
    (∃ (src : Source) (v : Word) (s : State), s.Takes src 5 0x15C ∧ s.Canonical ∧ legalWrite 5 0x15C v = true ∧ (¬
      (s.clkSrc .ref = 6 ↔ bits v.toNat 0 2 = 2))) ∧
    (∃ (src : Source) (s : State), s.Takes src 5 0x10C ∧ s.Canonical) ∧
    (∃ (s : State), s.Canonical ∧ s.timeRuns = true) :=
  ⟨⟨.sofSrcWrite (.bar0) 0 (0x69), .bar0, .port 0, false, 0x69, up, takes_of _ _ _ _ (by decide +kernel), canonical_of
    _ (by decide +kernel), by decide +kernel⟩,
   ⟨.sofSrcWrite (.bar0) 0 (0), .bar0, .port 0, false, 0, up.modDom 4 (fun x => { x with st := .ret }), takes_of _ _ _
     _ (by decide +kernel), canonical_of _ (by decide +kernel), by decide +kernel⟩,
   ⟨.sofSrcWrite (.bar0) 0 (0), .bar0, .port 0, false, 0, up, takes_of _ _ _ _ (by decide +kernel), canonical_of _ (by
     decide +kernel), by decide +kernel⟩,
   ⟨.bar0, 0, up, takes_of _ _ _ _ (by decide +kernel), canonical_of _ (by decide +kernel), by decide +kernel⟩,
   ⟨.bar0, 2, up, takes_of _ _ _ _ (by decide +kernel), canonical_of _ (by decide +kernel), by decide +kernel⟩,
   ⟨.bar0, up, takes_of _ _ _ _ (by decide +kernel), canonical_of _ (by decide +kernel)⟩,
   ⟨up, canonical_of _ (by decide +kernel), by decide +kernel⟩⟩

/-- The hypotheses of DisciplineLoop can be met, clause by clause. -/
theorem test_discipline_loop_applies :
    (∃ (k : ClkId) (s : State), s.timeRuns = true ∧ s.clkSrc k ≠ 0 ∧ ¬ (k = .ref ∧ s.clkSrc k = 6)) ∧
    (∃ (k : ClkId) (s : State), s.timeRuns = true ∧ (s.clkSrc k = 0 ∨ (k = .ref ∧ s.clkSrc k = 6))) ∧
    (∃ (k : ClkId) (e0 : Int) (s : State), s.timeRuns = true ∧ (s.clk k).ls = .acquire ∧ (s.clk k).acq = .freq ∧
      (s.clk k).firstE = some e0 ∧ s.freqLen k ≤ (s.clk k).freqCount ∧ 0 < (s.clk k).freqCount * s.ufPer k) ∧
    (∃ (k : ClkId) (s : State), s.timeRuns = true ∧ (s.clk k).ls = .acquire ∧ (s.clk k).acq = .phase ∧ (s.clk k).rem =
      0 ∧ (s.clk k).jump = none ∧ (s.clk k).landing = none) ∧
    (∃ (k : ClkId) (s : State), s.timeRuns = true ∧ (s.clk k).ls = .acquire ∧ (s.clk k).acq = .track ∧ s.lockCnt k ≤
      (s.clk k).inWin) ∧
    (∃ (k : ClkId) (s : State), s.Canonical ∧ s.timeRuns = true ∧ (s.clk k).ls = .locked ∧ (s.clk k).refOk = true ∧
      s.lockCnt k ≤ (s.clk k).outWin) ∧
    (∃ (k : ClkId) (s : State), s.Canonical ∧ s.timeRuns = true ∧ s.clkSrc k ≠ 0 ∧ s.refBad k = true ∧ (s.clk k).refOk
      = true ∧ ((s.clk k).ls = .acquire ∨ (s.clk k).ls = .locked)) ∧
    (∃ (k : ClkId) (s : State), s.Canonical ∧ s.timeRuns = true ∧ s.clkSrc .ref ≠ 0 ∧ s.role = 2 ∧ s.edgeLate .ref =
      true ∧ s.refClk.refOk = false ∧ s.ctl.fsyncOk = true ∧ k = .ref) ∧
    (∃ (k : ClkId) (s : State), s.Canonical ∧ s.timeRuns = true ∧ (s.refBad k = false ∨ s.clkSrc k = 0)) ∧
    (∃ (k : ClkId) (s : State), s.Canonical ∧ s.timeRuns = true ∧ s.clkSrc k ≠ 0 ∧ (s.clk k).refOk = false ∧ 16 ≤
      (s.clk k).goodRun ∧ (s.clk k).ls = .holdover ∧ s.clkHold k = false) ∧
    (∃ (k : ClkId) (s : State), s.Canonical ∧ s.timeRuns = true ∧ (s.clk k).goodRun < 16) ∧
    (∃ (s : State), s.timeRuns = true ∧ s.role = 2) ∧
    (∃ (s : State), s.timeRuns = true ∧ s.role ≠ 2) :=
  ⟨⟨.port 0, up.setReg (at_ 0x080 0x200) 1, by decide +kernel⟩,
   ⟨.port 0, up, by decide +kernel⟩,
   ⟨.port 0, 0, up.modClk (.port 0) (fun x =>
     { x with freqCount := 512, ls := .acquire, acq := .freq, firstE := some 0 }), by decide +kernel⟩,
   ⟨.port 0, up.modClk (.port 0) (fun x => { x with ls := .acquire, acq := .phase }), by decide +kernel⟩,
   ⟨.port 0, up.modClk (.port 0) (fun x => { x with ls := .acquire, acq := .track, inWin := 512 }), by decide +kernel⟩,
   ⟨.port 0, up.modClk (.port 0) (fun x => { x with ls := .locked, refOk := true, outWin := 512 }), canonical_of _ (by
     decide +kernel), by decide +kernel⟩,
   ⟨.port 0, (up.modClk (.port 0) (fun x => { x with ls := .acquire, refOk := true, clampRun := 512 })).setReg (at_
     0x080 0x200) 1, canonical_of _ (by decide +kernel), by decide +kernel⟩,
   ⟨.ref, (({ up with now := 100000000000 }.modCtl (fun x => { x with fsyncOk := true })).setReg (at_ 5 0x140)
     1).setReg (at_ 5 0x15C) 2, canonical_of _ (by decide +kernel), by decide +kernel⟩,
   ⟨.port 0, up, canonical_of _ (by decide +kernel), by decide +kernel⟩,
   ⟨.port 0, (up.modClk (.port 0) (fun x => { x with ls := .holdover, goodRun := 512 })).setReg (at_ 0x080 0x200) 1,
     canonical_of _ (by decide +kernel), by decide +kernel⟩,
   ⟨.port 0, up, canonical_of _ (by decide +kernel), by decide +kernel⟩,
   ⟨up.setReg (at_ 0x005 0x15C) 2, by decide +kernel⟩,
   ⟨up, by decide +kernel⟩⟩

/-- The hypotheses of HuskRequests can be met, clause by clause. -/
theorem test_husk_requests_applies :
    (∃ (src : Source) (n : PortId) (s : State), s.Takes src (huskPage n) 0x014 ∧ s.Canonical ∧ s.fw.mc = .acornOnly) ∧
    (∃ (src : Source) (n : PortId) (s : State), s.Takes src (huskPage n) 0x014 ∧ s.Canonical ∧ s.fw.mc ≠ .acornOnly ∧
      s.linkDown (regionOf n) = true) ∧
    (∃ (src : Source) (n : PortId) (s : State), s.Takes src (huskPage n) 0x014 ∧ s.Canonical ∧ s.fw.mc ≠ .acornOnly ∧
      s.linkDown (regionOf n) = false ∧ s.ilim n = 0) ∧
    (∃ (src : Source) (n : PortId) (s : State), s.Takes src (huskPage n) 0x014 ∧ s.Canonical ∧ s.fw.mc ≠ .acornOnly ∧
      s.linkDown (regionOf n) = false ∧ s.ilim n ≠ 0 ∧ s.husks[n].st = .off ∧ s.admitLevel n (s.ilim n) = 0) ∧
    (∃ (src : Source) (n : PortId) (s : State), s.Takes src (huskPage n) 0x014 ∧ s.Canonical ∧ s.fw.mc ≠ .acornOnly ∧
      s.linkDown (regionOf n) = false ∧ s.ilim n ≠ 0 ∧ s.husks[n].st = .off ∧ s.admitLevel n (s.ilim n) = 0 ∧
      s.attemptHeld n = true) ∧
    (∃ (src : Source) (n : PortId) (s : State), s.Takes src (huskPage n) 0x014 ∧ s.Canonical ∧ s.fw.mc ≠ .acornOnly ∧
      s.linkDown (regionOf n) = false ∧ s.ilim n ≠ 0 ∧ s.husks[n].st = .off ∧ s.admitLevel n (s.ilim n) = 0 ∧
      s.attemptHeld n = false ∧ s.doms[podDom (podOf n)].st = .on ∧ s.doms[podDom (podOf n)].phase = .none ∧
      s.ctl.pllLock = true ∧ s.ctl.pllStopped = false) ∧
    (∃ (src : Source) (n : PortId) (s : State), s.Takes src (huskPage n) 0x014 ∧ s.Canonical ∧ s.fw.mc ≠ .acornOnly ∧
      s.linkDown (regionOf n) = false ∧ s.ilim n ≠ 0 ∧ s.husks[n].st = .off ∧ s.admitLevel n (s.ilim n) ≠ 0) ∧
    (∃ (src : Source) (n : PortId) (s : State), s.Takes src (huskPage n) 0x014 ∧ s.Canonical ∧ s.fw.mc ≠ .acornOnly ∧
      s.linkDown (regionOf n) = false ∧ s.ilim n ≠ 0 ∧ (s.husks[n].st = .ramp ∨ s.husks[n].st = .settle ∨
      s.husks[n].st = .on)) ∧
    (∃ (src : Source) (n : PortId) (s : State), s.Takes src (huskPage n) 0x014 ∧ s.Canonical ∧ s.fw.mc ≠ .acornOnly ∧
      s.linkDown (regionOf n) = false ∧ s.ilim n ≠ 0 ∧ (s.husks[n].st = .retryWait ∨ s.husks[n].st = .latched) ∧
      s.attemptHeld n = false) ∧
    (∃ (src : Source) (n : PortId) (s : State), s.Takes src (huskPage n) 0x014 ∧ s.Canonical ∧ s.fw.mc ≠ .acornOnly ∧
      s.linkDown (regionOf n) = false ∧ s.ilim n ≠ 0 ∧ (s.husks[n].st = .retryWait ∨ s.husks[n].st = .latched) ∧
      s.attemptHeld n = true) ∧
    (∃ (src : Source) (n : PortId) (s : State), s.Takes src (huskPage n) 0x014 ∧ s.Canonical ∧ s.linkDown (regionOf n)
      = true) ∧
    (∃ (src : Source) (n : PortId) (s : State), s.Takes src (huskPage n) 0x014 ∧ s.Canonical ∧ s.linkDown (regionOf n)
      = false ∧ s.husks[n].st ≠ .off) ∧
    (∃ (src : Source) (n : PortId) (s : State), s.Takes src (huskPage n) 0x014 ∧ s.Canonical ∧ s.linkDown (regionOf n)
      = false ∧ s.husks[n].st = .off ∧ s.husks[n].pendOn = true ∧ (∀ x ∈ s.wis, x.port = n.val → x.op ≠
      .portPowerReq)) ∧
    (∃ (src : Source) (n : PortId) (s : State), s.Takes src (huskPage n) 0x014 ∧ s.Canonical ∧ s.linkDown (regionOf n)
      = false ∧ s.husks[n].st = .off ∧ s.husks[n].pendOn = false) :=
  ⟨⟨.bar0, 0, up.modFw (fun x => { x with mc := .acornOnly }), takes_of _ _ _ _ (by decide +kernel), canonical_of _ (by
    decide +kernel), by decide +kernel⟩,
   ⟨.bar0, 0, up.modRegion 0 (fun x => { x with running := false }), takes_of _ _ _ _ (by decide +kernel),
     canonical_of _ (by decide +kernel), by decide +kernel⟩,
   ⟨.bar0, 0, up, takes_of _ _ _ _ (by decide +kernel), canonical_of _ (by decide +kernel), by decide +kernel⟩,
   ⟨.bar0, 0, up.setReg (at_ 0x0C0 0x100) 1, takes_of _ _ _ _ (by decide +kernel), canonical_of _ (by decide +kernel),
     by decide +kernel⟩,
   ⟨.bar0, 0, (up.modHusk 0 (fun x => { x with diode := 1000000 })).setReg (at_ 0x0C0 0x100) 1, takes_of _ _ _ _ (by
     decide +kernel), canonical_of _ (by decide +kernel), by decide +kernel⟩,
   ⟨.bar0, 0, up.setReg (at_ 0x0C0 0x100) 1, takes_of _ _ _ _ (by decide +kernel), canonical_of _ (by decide +kernel),
     by decide +kernel⟩,
   ⟨.bar0, 0, (up.modCtl (fun x => { x with rebuild := true })).setReg (at_ 0x0C0 0x100) 1, takes_of _ _ _ _ (by
     decide +kernel), canonical_of _ (by decide +kernel), by decide +kernel⟩,
   ⟨.bar0, 0, (up.modHusk 0 (fun x => { x with st := .ramp })).setReg (at_ 0x0C0 0x100) 1, takes_of _ _ _ _ (by
     decide +kernel), canonical_of _ (by decide +kernel), by decide +kernel⟩,
   ⟨.bar0, 0, (up.modHusk 0 (fun x => { x with st := .retryWait })).setReg (at_ 0x0C0 0x100) 1, takes_of _ _ _ _ (by
     decide +kernel), canonical_of _ (by decide +kernel), by decide +kernel⟩,
   ⟨.bar0, 0, (up.modHusk 0 (fun x => { x with st := .retryWait, diode := 1000000 })).setReg (at_ 0x0C0 0x100) 1,
     takes_of _ _ _ _ (by decide +kernel), canonical_of _ (by decide +kernel), by decide +kernel⟩,
   ⟨.bar0, 0, up.modRegion 0 (fun x => { x with running := false }), takes_of _ _ _ _ (by decide +kernel),
     canonical_of _ (by decide +kernel), by decide +kernel⟩,
   ⟨.bar0, 0, up.modHusk 0 (fun x => { x with st := .ramp }), takes_of _ _ _ _ (by decide +kernel), canonical_of _ (by
     decide +kernel), by decide +kernel⟩,
   ⟨.bar0, 0, (board [wItem] []).modHusk 0 (fun x => { x with pendOwn := true }), takes_of _ _ _ _ (by
     decide +kernel), canonical_of _ (by decide +kernel), by decide +kernel⟩,
   ⟨.bar0, 0, up, takes_of _ _ _ _ (by decide +kernel), canonical_of _ (by decide +kernel), by decide +kernel⟩⟩

/-- The hypotheses of PowerItemsAndAttempts can be met, clause by clause. -/
theorem test_power_items_and_attempts_applies :
    (∃ (id : Nat) (it : Item) (n : PortId) (s : State), s.Canonical ∧ s.Live it ∧ it.listDone ∧ s.serving id = some it
      ∧ it.op = .portPowerReq ∧ it.x.ctxReady = true ∧ it.x.running = false ∧ portId? it.port = some n ∧ it.x.powerOk
      = false) ∧
    (∃ (id : Nat) (it : Item) (n : PortId) (s : State),
      let on := bitAt (eLength it.entry) 0
      s.Canonical ∧ s.Live it ∧ it.listDone ∧ s.serving id = some it ∧ it.op = .portPowerReq ∧ it.x.ctxReady = true ∧
        it.x.running = false ∧ portId? it.port = some n ∧ it.x.powerOk = true ∧ on = true ∧ s.fw.mc ≠ .acornOnly ∧
        s.linkDown (regionOf n) = false ∧ s.ilim n ≠ 0 ∧ s.husks[n].st = .on) ∧
    (∃ (id : Nat) (it : Item) (n : PortId) (s : State),
      let on := bitAt (eLength it.entry) 0
      s.Canonical ∧ s.serving id = some it ∧ it.op = .portPowerReq ∧ it.x.ctxReady = true ∧ it.x.running = false ∧
        portId? it.port = some n ∧ it.x.powerOk = true ∧ on = true ∧ s.fw.mc ≠ .acornOnly ∧ s.linkDown (regionOf n) =
        false ∧ s.ilim n ≠ 0 ∧ s.husks[n].st = .latched ∧ s.attemptHeld n = false) ∧
    (∃ (id : Nat) (it : Item) (n : PortId) (s : State),
      let on := bitAt (eLength it.entry) 0
      s.Canonical ∧ s.serving id = some it ∧ it.op = .portPowerReq ∧ it.x.ctxReady = true ∧ it.x.running = false ∧
        portId? it.port = some n ∧ it.x.powerOk = true ∧ on = true ∧ s.fw.mc ≠ .acornOnly ∧ s.linkDown (regionOf n) =
        false ∧ s.ilim n ≠ 0 ∧ s.husks[n].st = .off ∧ s.admitLevel n (s.ilim n) = 0) ∧
    (∃ (id : Nat) (it : Item) (n : PortId) (s : State),
      let on := bitAt (eLength it.entry) 0
      s.Canonical ∧ s.Live it ∧ it.listDone ∧ s.serving id = some it ∧ it.op = .portPowerReq ∧ it.x.ctxReady = true ∧
        it.x.running = false ∧ portId? it.port = some n ∧ it.x.powerOk = true ∧ on = true ∧ s.fw.mc ≠ .acornOnly ∧
        s.linkDown (regionOf n) = false ∧ s.ilim n ≠ 0 ∧ s.husks[n].st = .off ∧ s.admitLevel n (s.ilim n) ≠ 0) ∧
    (∃ (id : Nat) (it : Item) (n : PortId) (s : State),
      let on := bitAt (eLength it.entry) 0
      s.Canonical ∧ s.Live it ∧ it.listDone ∧ s.serving id = some it ∧ it.op = .portPowerReq ∧ it.x.ctxReady = true ∧
        it.x.running = false ∧ portId? it.port = some n ∧ it.x.powerOk = true ∧ on = true ∧ s.fw.mc ≠ .acornOnly ∧
        s.linkDown (regionOf n) = false ∧ s.ilim n = 0) ∧
    (∃ (id : Nat) (it : Item) (n : PortId) (s : State),
      let on := bitAt (eLength it.entry) 0
      s.Canonical ∧ s.Live it ∧ it.listDone ∧ s.serving id = some it ∧ it.op = .portPowerReq ∧ it.x.ctxReady = true ∧
        it.x.running = false ∧ portId? it.port = some n ∧ it.x.powerOk = true ∧ on = true ∧ s.fw.mc = .acornOnly) ∧
    (∃ (id : Nat) (it : Item) (n : PortId) (s : State),
      let on := bitAt (eLength it.entry) 0
      s.Canonical ∧ s.Live it ∧ it.listDone ∧ s.serving id = some it ∧ it.op = .portPowerReq ∧ it.x.ctxReady = true ∧
        it.x.running = false ∧ portId? it.port = some n ∧ it.x.powerOk = true ∧ on = false ∧ s.linkDown (regionOf n) =
        false ∧ s.husks[n].st ≠ .off) ∧
    (∃ (it : Item) (n : PortId) (s : State), s.Live it ∧ it.listDone ∧ s.Canonical ∧ s.held = false ∧ s.fatal = false
      ∧ s.item? it.id = some it ∧ it.op = .portPowerReq ∧ it.inService = true ∧ it.x.running = true ∧ portId? it.port
      = some n ∧ (∃ w ∈ s.husks[n].wait, w.2 = some it.id)) ∧
    (∃ (it : Item) (n : PortId) (s : State), s.Live it ∧ it.listDone ∧ s.Canonical ∧ s.held = false ∧ s.fatal = false
      ∧ s.item? it.id = some it ∧ it.op = .portPowerReq ∧ it.inService = true ∧ it.x.running = true ∧ portId? it.port
      = some n ∧ (∀ w ∈ s.husks[n].wait, w.2 ≠ some it.id) ∧ s.husks[n].pendItem = true ∧ bitAt (eLength it.entry) 0 =
      true ∧ s.otherAsks n it.id = false) ∧
    (∃ (n : PortId) (s : State), s.husks[n].pendOn = true ∧ s.attemptHeld n = false) ∧
    (∃ (n : PortId) (s : State), s.attemptHeld n = true) ∧
    (∃ (n : PortId) (s : State), s.husks[n].st = .retryWait) :=
  ⟨⟨0, { wItem with entry := 35, st := .service 0 none, x := { Xfer.init with ctxReady := true } }, 0, board
    [{ wItem with entry := 35, st := .service 0 none, x := { Xfer.init with ctxReady := true } }] [wCtx], canonical_of
    _ (by decide +kernel), live_of _ _ (by decide +kernel), listDone_of _ (by decide +kernel), by decide +kernel⟩,
   ⟨0,
     { wItem with entry := 35 + 2 ^ 128, st := .service 0 none, x := { Xfer.init with ctxReady := true, powerOk := true } },
     0, ((board
     [{ wItem with entry := 35 + 2 ^ 128, st := .service 0 none, x := { Xfer.init with ctxReady := true, powerOk := true } }]
     [wCtx]).modHusk 0 (fun x => { x with st := .on })).setReg (at_ 0x0C0 0x100) 1, canonical_of _ (by
     decide +kernel), live_of _ _ (by decide +kernel), listDone_of _ (by decide +kernel), by decide +kernel⟩,
   ⟨0,
     { wItem with entry := 35 + 2 ^ 128, st := .service 0 none, x := { Xfer.init with ctxReady := true, powerOk := true } },
     0, ((board
     [{ wItem with entry := 35 + 2 ^ 128, st := .service 0 none, x := { Xfer.init with ctxReady := true, powerOk := true } }]
     [wCtx]).modHusk 0 (fun x => { x with st := .latched })).setReg (at_ 0x0C0 0x100) 1, canonical_of _ (by
     decide +kernel), by decide +kernel⟩,
   ⟨0,
     { wItem with entry := 35 + 2 ^ 128, st := .service 0 none, x := { Xfer.init with ctxReady := true, powerOk := true } },
     0, (board
     [{ wItem with entry := 35 + 2 ^ 128, st := .service 0 none, x := { Xfer.init with ctxReady := true, powerOk := true } }]
     [wCtx]).setReg (at_ 0x0C0 0x100) 1, canonical_of _ (by decide +kernel), by decide +kernel⟩,
   ⟨0,
     { wItem with entry := 35 + 2 ^ 128, st := .service 0 none, x := { Xfer.init with ctxReady := true, powerOk := true } },
     0, ((board
     [{ wItem with entry := 35 + 2 ^ 128, st := .service 0 none, x := { Xfer.init with ctxReady := true, powerOk := true } }]
     [wCtx]).modCtl (fun x => { x with rebuild := true })).setReg (at_ 0x0C0 0x100) 1, canonical_of _ (by
     decide +kernel), live_of _ _ (by decide +kernel), listDone_of _ (by decide +kernel), by decide +kernel⟩,
   ⟨0,
     { wItem with entry := 35 + 2 ^ 128, st := .service 0 none, x := { Xfer.init with ctxReady := true, powerOk := true } },
     0, board
     [{ wItem with entry := 35 + 2 ^ 128, st := .service 0 none, x := { Xfer.init with ctxReady := true, powerOk := true } }]
     [wCtx], canonical_of _ (by decide +kernel), live_of _ _ (by decide +kernel), listDone_of _ (by decide +kernel),
     by decide +kernel⟩,
   ⟨0,
     { wItem with entry := 35 + 2 ^ 128, st := .service 0 none, x := { Xfer.init with ctxReady := true, powerOk := true } },
     0, (board
     [{ wItem with entry := 35 + 2 ^ 128, st := .service 0 none, x := { Xfer.init with ctxReady := true, powerOk := true } }]
     [wCtx]).modFw (fun x => { x with mc := .acornOnly }), canonical_of _ (by decide +kernel), live_of _ _ (by
     decide +kernel), listDone_of _ (by decide +kernel), by decide +kernel⟩,
   ⟨0, { wItem with entry := 35, st := .service 0 none, x := { Xfer.init with ctxReady := true, powerOk := true } },
     0, (board
     [{ wItem with entry := 35, st := .service 0 none, x := { Xfer.init with ctxReady := true, powerOk := true } }]
     [wCtx]).modHusk 0 (fun x => { x with st := .ramp }), canonical_of _ (by decide +kernel), live_of _ _ (by
     decide +kernel), listDone_of _ (by decide +kernel), by decide +kernel⟩,
   ⟨{ wItem with entry := 35, st := .service 0 none, x := { Xfer.init with running := true } }, 0, (board
     [{ wItem with entry := 35, st := .service 0 none, x := { Xfer.init with running := true } }] []).modHusk 0 (fun x
     => { x with wait := [(true, some 0)] }), live_of _ _ (by decide +kernel), listDone_of _ (by decide +kernel),
     canonical_of _ (by decide +kernel), by decide +kernel⟩,
   ⟨{ wItem with entry := 0x23 + 2 ^ 128, st := .service 0 none, x := { Xfer.init with running := true } }, 0, (board
     [{ wItem with entry := 0x23 + 2 ^ 128, st := .service 0 none, x := { Xfer.init with running := true } }]
     []).modHusk 0 (fun x => { x with pendItem := true }), live_of _ _ (by decide +kernel), listDone_of _ (by
     decide +kernel), canonical_of _ (by decide +kernel), by decide +kernel⟩,
   ⟨0, up.modHusk 0 (fun x => { x with pendOwn := true }), by decide +kernel⟩,
   ⟨0, up.modHusk 0 (fun x => { x with diode := 1000000 }), by decide +kernel⟩,
   ⟨0, up.modHusk 0 (fun x => { x with st := .retryWait }), by decide +kernel⟩⟩

/-- The hypotheses of RampAndPowerGood can be met, clause by clause. -/
theorem test_ramp_and_power_good_applies :
    (∃ (n : PortId) (s : State), s.husks[n].st = .ramp) ∧
    (∃ (n : PortId) (s : State), s.husks[n].st = .ramp ∧ s.husks[n].full = false ∧ (s.husks[n].v95 = true ∨
      s.husks[n].released = true)) ∧
    (∃ (n : PortId) (s : State), s.husks[n].released = false) ∧
    (∃ (n : PortId) (s : State), s.husks[n].st = .settle) ∧
    (∃ (n : PortId) (s : State), s.husks[n].st = .on) :=
  ⟨⟨0, up.modHusk 0 (fun x => { x with st := .ramp }), by decide +kernel⟩,
   ⟨0, up.modHusk 0 (fun x => { x with st := .ramp, v95 := true }), by decide +kernel⟩,
   ⟨0, up, by decide +kernel⟩,
   ⟨0, up.modHusk 0 (fun x => { x with st := .settle }), by decide +kernel⟩,
   ⟨0, up.modHusk 0 (fun x => { x with st := .on }), by decide +kernel⟩⟩

/-- The hypotheses of BreakerAndTrips can be met, clause by clause. -/
theorem test_breaker_and_trips_applies :
    (∃ (c : Instr) (n : PortId) (d : Int) (reason : Nat) (s : State), s.Canonical ∧ s.husks[n].driven = true ∧ (c =
      .fastTrip n ∧ reason = 1 ∨ c = .tempTrip n ⟨false, d⟩ ∧ reason = 3 ∧ s.ttrip n ≤ d ∨ c = .tempTrip n ⟨true, d⟩ ∧
      reason = 4 ∧ 10 ^ 9 * s.ttrip n ≤ s.modelTemp n ∨ c = .pgTimeout n ∧ reason = 6 ∧ s.husks[n].st = .settle ∨ c =
      .trampExpiry n .below90 ∧ reason = 2 ∧ s.husks[n].st = .ramp ∨ c = .rampReleaseExpiry n ∧ reason = 2 ∧
      s.husks[n].st = .ramp ∧ s.husks[n].released = true ∧ s.husks[n].v95 = false ∨ c = .breakerTrip n ∧
      s.husks[n].full = true ∧ breakerReason s.husks[n] = some reason)) ∧
    (∃ (n : PortId) (s : State), s.husks[n].driven = false) ∧
    (∃ (n : PortId) (d : Int) (s : State), (s.husks[n].driven = false ∨ d < s.ttrip n)) ∧
    (∃ (n : PortId) (s : State), (s.husks[n].driven = false ∨ s.modelTemp n < 10 ^ 9 * s.ttrip n)) ∧
    (∃ (n : PortId) (s : State), s.husks[n].driven = true ∧ s.husks[n].full = false) ∧
    (∃ (n : PortId) (mA vds : Nat) (s : State), s.husks[n].driven = true ∧ s.husks[n].full = true ∧ breakerReason
      { s.husks[n] with acc := sampleAcc (s.ilim n) mA s.husks[n], mA := mA, vds := vds } = none) ∧
    (∃ (x : Husk), breakerReason x = some 5) ∧
    (∃ (x : Husk) (k : Nat), breakerReason x = some 5 ∧ k < x.curve.length) :=
  ⟨⟨.fastTrip (0), 0, 0, 1, up.modHusk 0 (fun x => { x with st := .ramp }), canonical_of _ (by decide +kernel), by
    decide +kernel⟩,
   ⟨0, up, by decide +kernel⟩,
   ⟨0, 0, up, by decide +kernel⟩,
   ⟨0, up, by decide +kernel⟩,
   ⟨0, up.modHusk 0 (fun x => { x with st := .ramp }), by decide +kernel⟩,
   ⟨0, 0, 0, up.modHusk 0 (fun x => { x with st := .ramp, full := true }), by decide +kernel⟩,
   ⟨{ Husk.init with acc := [80000000, 0, 0, 0, 0, 0, 0, 0, 0] }, by decide +kernel⟩,
   ⟨{ Husk.init with acc := [80000000, 0, 0, 0, 0, 0, 0, 0, 0] }, 7, by decide +kernel⟩⟩

/-- The hypotheses of ProbeAndHuskSettings can be met, clause by clause. -/
theorem test_probe_and_husk_settings_applies :
    (∃ (n : PortId) (s : State), s.husks[n].waiting = true) ∧
    (∃ (n : PortId) (s : State), s.husks[n].waiting = false) ∧
    (∃ (n : PortId) (r : ProbeReading) (s : State),
      let settled := r.change < 20 ∨ r.high = true
      s.husks[n].waiting = true ∧ s.husks[n].probeOn = true ∧ ¬ settled) ∧
    (∃ (n : PortId) (r : ProbeReading) (s : State),
      let cls : Nat := if r.mV < 500 then 3 else if r.mV < 3000 ∨ 100 ≤ r.uA ∨ r.step = true then 2 else 1
      let settled := r.change < 20 ∨ r.high = true
      let confirmed := s.husks[n].lastClass = cls ∨ (cls = 2 ∧ r.step = true)
      s.husks[n].waiting = true ∧ s.husks[n].probeOn = true ∧ settled ∧ ¬ confirmed) ∧
    (∃ (n : PortId) (r : ProbeReading) (s : State),
      let cls : Nat := if r.mV < 500 then 3 else if r.mV < 3000 ∨ 100 ≤ r.uA ∨ r.step = true then 2 else 1
      let settled := r.change < 20 ∨ r.high = true
      let confirmed := s.husks[n].lastClass = cls ∨ (cls = 2 ∧ r.step = true)
      let replug := s.husks[n].baseline = true ∧ ((s.husks[n].probe = 1 ∧ cls = 2) ∨ (s.husks[n].probe = 3 ∧ cls ≠ 3))
      s.husks[n].waiting = true ∧ s.husks[n].probeOn = true ∧ settled ∧ confirmed ∧ ¬ replug) ∧
    (∃ (n : PortId) (r : ProbeReading) (s : State),
      let cls : Nat := if r.mV < 500 then 3 else if r.mV < 3000 ∨ 100 ≤ r.uA ∨ r.step = true then 2 else 1
      let settled := r.change < 20 ∨ r.high = true
      let confirmed := s.husks[n].lastClass = cls ∨ (cls = 2 ∧ r.step = true)
      let replug := s.husks[n].baseline = true ∧ ((s.husks[n].probe = 1 ∧ cls = 2) ∨ (s.husks[n].probe = 3 ∧ cls ≠ 3))
      s.husks[n].waiting = true ∧ s.husks[n].probeOn = true ∧ settled ∧ confirmed ∧ replug ∧ s.attemptHeld n = false)
        ∧
    (∃ (n : PortId) (s : State), s.husks[n].waiting = true ∧ s.husks[n].probeOn = true ∧ (s.husks[n].baseline = false
      ∨ s.husks[n].probe = 2)) ∧
    (∃ (s : State), s.Canonical) ∧
    (∃ (n : PortId) (s : State),
      let cool : Prop := s.husks[n].diode ≤ s.twarn n - 10 ∧ s.modelTemp n ≤ 10 ^ 9 * (s.twarn n - 10)
      s.Canonical ∧ ¬ cool) ∧
    (∃ (n : PortId) (s : State),
      let cool : Prop := s.husks[n].diode ≤ s.twarn n - 10 ∧ s.modelTemp n ≤ 10 ^ 9 * (s.twarn n - 10)
      s.Canonical ∧ cool ∧ s.husks[n].pendOn = false) ∧
    (∃ (n : PortId) (s : State),
      let cool : Prop := s.husks[n].diode ≤ s.twarn n - 10 ∧ s.modelTemp n ≤ 10 ^ 9 * (s.twarn n - 10)
      s.Canonical ∧ cool ∧ s.husks[n].pendOn = true ∧ s.attemptHeld n = false) ∧
    (∃ (src : Source) (n : PortId) (s : State), s.Canonical ∧ s.Takes src (huskPage n) 0x014 ∧ s.linkDown (regionOf n)
      = false ∧ curveOk (s.ilim n) (s.fastMA n) (s.pendingCurve n) = true) ∧
    (∃ (src : Source) (n : PortId) (s : State), s.Canonical ∧ s.Takes src (huskPage n) 0x014 ∧ s.linkDown (regionOf n)
      = false ∧ curveOk (s.ilim n) (s.fastMA n) (s.pendingCurve n) = false) ∧
    (∃ (src : Source) (n : PortId) (v : Word) (s : State),
      let i := bits v.toNat 0 8
      s.Canonical ∧ s.Takes src (huskPage n) 0x100 ∧ s.linkDown (regionOf n) = false ∧ 210 < i) ∧
    (∃ (src : Source) (n : PortId) (v : Word) (s : State),
      let i := bits v.toNat 0 8
      s.Canonical ∧ s.Takes src (huskPage n) 0x100 ∧ s.linkDown (regionOf n) = false ∧ i ≤ 210 ∧ s.husks[n].claim =
        true ∧ i = 0) ∧
    (∃ (src : Source) (n : PortId) (v : Word) (s : State),
      let i := bits v.toNat 0 8
      s.Canonical ∧ s.Takes src (huskPage n) 0x100 ∧ s.linkDown (regionOf n) = false ∧ i ≤ 210 ∧ (s.husks[n].claim =
        false ∨ i ≠ 0) ∧ curveOk i (s.fastMA n) s.husks[n].curve = false) ∧
    (∃ (src : Source) (n : PortId) (v : Word) (s : State),
      let i := bits v.toNat 0 8
      s.Canonical ∧ s.Takes src (huskPage n) 0x100 ∧ s.linkDown (regionOf n) = false ∧ i ≤ 210 ∧ curveOk i (s.fastMA
        n) s.husks[n].curve = true ∧ ((s.husks[n].claim = false) ∨ (i ≠ 0 ∧ (i ≤ s.ilim n ∨ s.admitLevel n i = 0)))) ∧
    (∃ (src : Source) (n : PortId) (v : Word) (s : State),
      let i := bits v.toNat 0 8
      s.Canonical ∧ s.Takes src (huskPage n) 0x100 ∧ s.linkDown (regionOf n) = false ∧ i ≤ 210 ∧ curveOk i (s.fastMA
        n) s.husks[n].curve = true ∧ s.husks[n].claim = true ∧ s.ilim n < i ∧ s.admitLevel n i ≠ 0) ∧
    (∃ (src : Source) (n : PortId) (v : Word) (s : State), s.Canonical ∧ s.Takes src (huskPage n) 0x104 ∧ s.linkDown
      (regionOf n) = false ∧ (bits v.toNat 0 7 < 30 ∨ 80 < bits v.toNat 0 7)) ∧
    (∃ (src : Source) (n : PortId) (v : Word) (s : State), s.Canonical ∧ s.Takes src (huskPage n) 0x104 ∧ s.linkDown
      (regionOf n) = false ∧ 30 ≤ bits v.toNat 0 7 ∧ bits v.toNat 0 7 ≤ 80 ∧ curveOk (s.ilim n) (100 * bits v.toNat 0
      7) s.husks[n].curve = true) ∧
    (∃ (src : Source) (n : PortId) (v : Word) (s : State), s.Canonical ∧ s.Takes src (huskPage n) 0x104 ∧ s.linkDown
      (regionOf n) = false ∧ 30 ≤ bits v.toNat 0 7 ∧ bits v.toNat 0 7 ≤ 80 ∧ curveOk (s.ilim n) (100 * bits v.toNat 0
      7) s.husks[n].curve = false) :=
  ⟨⟨0, up.modHusk 0 (fun x => { x with st := .retryWait }), by decide +kernel⟩,
   ⟨0, up, by decide +kernel⟩,
   ⟨0, ⟨1000, 200, false, 100, false⟩, up.modHusk 0 (fun x => { x with st := .retryWait, probeOn := true }), by
     decide +kernel⟩,
   ⟨0, ⟨0, 0, false, 0, false⟩, up.modHusk 0 (fun x => { x with st := .retryWait, probeOn := true }), by
     decide +kernel⟩,
   ⟨0, ⟨0, 0, false, 0, false⟩, up.modHusk 0 (fun x => { x with st := .retryWait, probeOn := true, lastClass := 3 }),
     by decide +kernel⟩,
   ⟨0, ⟨1000, 0, false, 100, false⟩, up.modHusk 0 (fun x =>
     { x with st := .latched, probeOn := true, lastClass := 2, baseline := true, probe := 1 }), by decide +kernel⟩,
   ⟨0, up.modHusk 0 (fun x => { x with st := .retryWait, probeOn := true }), by decide +kernel⟩,
   ⟨up, canonical_of _ (by decide +kernel)⟩,
   ⟨0, up.modHusk 0 (fun x => { x with diode := 1000000 }), canonical_of _ (by decide +kernel), by decide +kernel⟩,
   ⟨0, up, canonical_of _ (by decide +kernel), by decide +kernel⟩,
   ⟨0, up.modHusk 0 (fun x => { x with pendOwn := true }), canonical_of _ (by decide +kernel), by decide +kernel⟩,
   ⟨.bar0, 0, up, canonical_of _ (by decide +kernel), takes_of _ _ _ _ (by decide +kernel), by decide +kernel⟩,
   ⟨.bar0, 0, up.setReg (at_ 0x0C0 0x100) 0xF0F0, canonical_of _ (by decide +kernel), takes_of _ _ _ _ (by
     decide +kernel), by decide +kernel⟩,
   ⟨.bar0, 0, 0xf0f0, up, canonical_of _ (by decide +kernel), takes_of _ _ _ _ (by decide +kernel), by decide +kernel⟩,
   ⟨.bar0, 0, 0, up.modHusk 0 (fun x => { x with claim := true }), canonical_of _ (by decide +kernel), takes_of _ _ _
     _ (by decide +kernel), by decide +kernel⟩,
   ⟨.bar0, 0, 0, up.setReg (at_ 0x0C0 0x104) 1, canonical_of _ (by decide +kernel), takes_of _ _ _ _ (by
     decide +kernel), by decide +kernel⟩,
   ⟨.bar0, 0, 0, up, canonical_of _ (by decide +kernel), takes_of _ _ _ _ (by decide +kernel), by decide +kernel⟩,
   ⟨.bar0, 0, 1, (up.modHusk 0 (fun x => { x with claim := true })).modCtl (fun x => { x with rebuild := true }),
     canonical_of _ (by decide +kernel), takes_of _ _ _ _ (by decide +kernel), by decide +kernel⟩,
   ⟨.bar0, 0, 0, up, canonical_of _ (by decide +kernel), takes_of _ _ _ _ (by decide +kernel), by decide +kernel⟩,
   ⟨.bar0, 0, 0xc3, up, canonical_of _ (by decide +kernel), takes_of _ _ _ _ (by decide +kernel), by decide +kernel⟩,
   ⟨.bar0, 0, 0xa5, up, canonical_of _ (by decide +kernel), takes_of _ _ _ _ (by decide +kernel), by decide +kernel⟩⟩

/-- The hypotheses of FeedSelector can be met, clause by clause. -/
theorem test_feed_selector_applies :
    (∃ (m : RegId) (s : State), s.regions[m].running = true ∧ s.regions[m].closed = false ∧ s.regions[m].switching =
      none ∧ s.regions[m].everConnected = false) ∧
    (∃ (m : RegId) (f : Bool) (s : State), s.regions[m].running = true ∧ s.regions[m].closed = true ∧
      s.regions[m].switching = none ∧ s.regions[m].sel = f) ∧
    (∃ (m : RegId) (f : Bool) (s : State) (d : Nat), s.regions[m].running = true ∧ s.regions[m].closed = true ∧
      s.regions[m].switching = none ∧ s.regions[m].sel ≠ f ∧ s.regions[m].fault = some d) ∧
    (∃ (m : RegId) (s : State), s.regions[m].running = false) ∧
    (∃ (m : RegId) (s : State),
      let old := s.regions[m].sel
      s.regions[m].running = true ∧ s.regions[m].closed = true ∧ s.regions[m].good (!old) = true) ∧
    (∃ (m : RegId) (s : State),
      let old := s.regions[m].sel
      s.Canonical ∧ s.regions[m].running = true ∧ s.regions[m].closed = true ∧ s.regions[m].good (!old) = false) ∧
    (∃ (m : RegId) (f : Bool) (d : Nat) (s : State) (g : Bool),
      let low := if f then s.regions[m].bLow else s.regions[m].aLow
      let back := s.regions[m].good (!f)
      s.Canonical ∧ s.regions[m].switching = some (f, d) ∧ s.regions[m].everConnected = true ∧ ((low = false ∧ g = f)
        ∨ (low = true ∧ back = true ∧ g = !f))) ∧
    (∃ (m : RegId) (f : Bool) (d : Nat) (s : State),
      let low := if f then s.regions[m].bLow else s.regions[m].aLow
      let back := s.regions[m].good (!f)
      s.Canonical ∧ s.regions[m].switching = some (f, d) ∧ s.regions[m].everConnected = true ∧ low = true ∧ back =
        false) ∧
    (∃ (src : Source) (m : RegId) (s : State), s.Takes src (regionPage m) 0x014 ∧ s.Canonical ∧ s.linkDown m = true) ∧
    (∃ (src : Source) (m : RegId) (s : State),
      let f := !s.regions[m].sel
      s.Takes src (regionPage m) 0x014 ∧ s.Canonical ∧ s.linkDown m = false ∧ s.regions[m].good f = true ∧ s.feedBusy
        m = true) ∧
    (∃ (src : Source) (m : RegId) (s : State),
      let f := !s.regions[m].sel
      s.Takes src (regionPage m) 0x014 ∧ s.Canonical ∧ s.linkDown m = false ∧ s.regions[m].good f = true ∧ s.feedBusy
        m = false ∧ s.regions[m].closed = true) ∧
    (∃ (src : Source) (m : RegId) (s : State),
      let f := !s.regions[m].sel
      s.Takes src (regionPage m) 0x014 ∧ s.Canonical ∧ s.linkDown m = false ∧ (s.regions[m].good f = false ∨
        (s.feedBusy m = false ∧ s.regions[m].closed = false))) ∧
    (∃ (src : Source) (m : RegId) (v : Word) (s : State),
      let f := v.getLsbD 0
      let new := s.flag (at_ (regionPage m) 0x100) 0 ≠ f ∧ (s.regions[m].closed = false ∨ s.regions[m].sel ≠ f)
      s.Takes src (regionPage m) 0x100 ∧ s.Canonical ∧ legalWrite (regionPage m) 0x100 v = true ∧ s.linkDown m = false
        ∧ new ∧ s.regions[m].good f = true) ∧
    (∃ (src : Source) (m : RegId) (v : Word) (s : State),
      let f := v.getLsbD 0
      let new := s.flag (at_ (regionPage m) 0x100) 0 ≠ f ∧ (s.regions[m].closed = false ∨ s.regions[m].sel ≠ f)
      s.Takes src (regionPage m) 0x100 ∧ s.Canonical ∧ legalWrite (regionPage m) 0x100 v = true ∧ s.linkDown m = false
        ∧ new ∧ (s.regions[m].good f = false ∨ (s.feedBusy m = false ∧ s.regions[m].closed = false))) ∧
    (∃ (src : Source) (m : RegId) (v : Word) (s : State),
      let f := v.getLsbD 0
      let new := s.flag (at_ (regionPage m) 0x100) 0 ≠ f ∧ (s.regions[m].closed = false ∨ s.regions[m].sel ≠ f)
      s.Takes src (regionPage m) 0x100 ∧ s.Canonical ∧ legalWrite (regionPage m) 0x100 v = true ∧ s.linkDown m = false
        ∧ ¬ new) ∧
    (∃ (src : Source) (m : RegId) (s : State), s.Takes src (regionPage m) 0x100 ∧ s.Canonical ∧ s.linkDown m = true) ∧
    (∃ (src : Source) (m : RegId) (v : Word) (s : State), s.Takes src (regionPage m) 0x100 ∧ s.Canonical ∧ s.linkDown
      m = false ∧ legalWrite (regionPage m) 0x100 v = false) ∧
    (∃ (m : RegId) (s : State), s.regions[m].running = true ∧ s.regions[m].closed = true ∧ s.regions[m].good (s.flag
      (at_ (regionPage m) 0x100) 0) = true ∧ s.regions[m].sel ≠ s.flag (at_ (regionPage m) 0x100) 0 ∧ s.feedBusy m =
      false ∧ s.flag (at_ (regionPage m) 0x100) 1 = true) ∧
    (∃ (m : RegId) (s : State), s.regions[m].running = true ∧ s.regions[m].closed = true ∧ s.regions[m].good (s.flag
      (at_ (regionPage m) 0x100) 0) = true ∧ s.regions[m].sel ≠ s.flag (at_ (regionPage m) 0x100) 0 ∧ s.feedBusy m =
      false ∧ s.flag (at_ (regionPage m) 0x100) 1 = false) :=
  ⟨⟨0, up.modRegion 0 (fun x => { x with closed := false, everConnected := false }), by decide +kernel⟩,
   ⟨0, false, up, by decide +kernel⟩,
   ⟨0, true, up.modRegion 0 (fun x => { x with fault := some 0 }), 0, by decide +kernel⟩,
   ⟨0, up.modRegion 0 (fun x => { x with running := false }), by decide +kernel⟩,
   ⟨0, up.modRegion 0 (fun x => { x with bGood := true }), by decide +kernel⟩,
   ⟨0, up, canonical_of _ (by decide +kernel), by decide +kernel⟩,
   ⟨0, true, 1, up.modRegion 0 (fun x => { x with switching := some (true, 1) }), true, canonical_of _ (by
     decide +kernel), by decide +kernel⟩,
   ⟨0, true, 1, up.modRegion 0 (fun x => { x with switching := some (true, 1), bLow := true }), canonical_of _ (by
     decide +kernel), by decide +kernel⟩,
   ⟨.bar0, 0, up.modRegion 0 (fun x => { x with running := false }), takes_of _ _ _ _ (by decide +kernel),
     canonical_of _ (by decide +kernel), by decide +kernel⟩,
   ⟨.bar0, 0, up.modRegion 0 (fun x => { x with bGood := true, switching := some (true, 1) }), takes_of _ _ _ _ (by
     decide +kernel), canonical_of _ (by decide +kernel), by decide +kernel⟩,
   ⟨.bar0, 0, up.modRegion 0 (fun x => { x with bGood := true }), takes_of _ _ _ _ (by decide +kernel), canonical_of _
     (by decide +kernel), by decide +kernel⟩,
   ⟨.bar0, 0, up, takes_of _ _ _ _ (by decide +kernel), canonical_of _ (by decide +kernel), by decide +kernel⟩,
   ⟨.bar0, 0, 30475521, up.modRegion 0 (fun x => { x with bGood := true }), takes_of _ _ _ _ (by decide +kernel),
     canonical_of _ (by decide +kernel), by decide +kernel⟩,
   ⟨.bar0, 0, 30475521, up, takes_of _ _ _ _ (by decide +kernel), canonical_of _ (by decide +kernel), by
     decide +kernel⟩,
   ⟨.bar0, 0, 30475520, up, takes_of _ _ _ _ (by decide +kernel), canonical_of _ (by decide +kernel), by
     decide +kernel⟩,
   ⟨.bar0, 0, up.modRegion 0 (fun x => { x with running := false }), takes_of _ _ _ _ (by decide +kernel),
     canonical_of _ (by decide +kernel), by decide +kernel⟩,
   ⟨.bar0, 0, 0, up, takes_of _ _ _ _ (by decide +kernel), canonical_of _ (by decide +kernel), by decide +kernel⟩,
   ⟨0, (up.setReg (at_ 0x0F0 0x100) 3).modRegion 0 (fun x => { x with bGood := true }), by decide +kernel⟩,
   ⟨0, up.modRegion 0 (fun x => { x with sel := true, aGood := true }), by decide +kernel⟩⟩

/-- The hypotheses of PowerDieLosses can be met, clause by clause. -/
theorem test_power_die_losses_applies :
    (∃ (m : RegId) (s : State), s.Canonical ∧ s.regions[m].running = true ∧ s.regions[m].everConnected = true) ∧
    (∃ (m : RegId) (s : State), (s.regions[m].running = false ∨ s.regions[m].everConnected = false)) ∧
    (∃ (m : RegId) (s : State), s.Canonical ∧ s.regions[m].running = true) ∧
    (∃ (m : RegId) (s : State), s.regions[m].running = false) ∧
    (∃ (m : RegId) (s : State), s.Canonical ∧ s.regions[m].lost = false ∧ s.regions[m].running = true) ∧
    (∃ (m : RegId) (s : State), (s.regions[m].lost = true ∨ s.regions[m].running = false)) ∧
    (∃ (m : RegId) (s : State), s.Canonical ∧ s.held = false ∧ s.ctl.pllLock = true ∧ s.regions[m].running = true) ∧
    (∃ (m : RegId) (s : State), s.Canonical ∧ s.held = false ∧ s.ctl.pllLock = true ∧ s.regions[m].running = true ∧
      s.regions[m].linkUp = true) ∧
    (∃ (m : RegId) (s : State), s.Canonical ∧ s.held = false ∧ s.ctl.pllLock = true ∧ s.regions[m].running = true ∧
      s.regions[m].linkUp = false) ∧
    (∃ (m : RegId) (s : State), s.Canonical ∧ s.held = false ∧ s.regions[m].writeBack = true ∧ s.regions[m].running =
      true ∧ s.regions[m].linkUp = true ∧ s.pllNeeded = true ∧ (∀ n : PortId, regionOf n = m → s.husks[n].wait = [] ∧
      s.husks[n].pendOn = false)) ∧
    (∃ (m : RegId) (s : State), (s.held = true ∨ s.regions[m].writeBack = false ∨ s.regions[m].running = false ∨
      s.regions[m].linkUp = false)) ∧
    (∃ (s : State), s.Canonical) ∧
    (∃ (s : State), s.held = false) ∧
    (∃ (s : State), s.held = true) :=
  ⟨⟨0, up, canonical_of _ (by decide +kernel), by decide +kernel⟩,
   ⟨0, up.modRegion 0 (fun x => { x with running := false }), by decide +kernel⟩,
   ⟨0, up, canonical_of _ (by decide +kernel), by decide +kernel⟩,
   ⟨0, up.modRegion 0 (fun x => { x with running := false }), by decide +kernel⟩,
   ⟨0, up, canonical_of _ (by decide +kernel), by decide +kernel⟩,
   ⟨0, up.modRegion 0 (fun x => { x with running := false }), by decide +kernel⟩,
   ⟨0, up, canonical_of _ (by decide +kernel), by decide +kernel⟩,
   ⟨0, up, canonical_of _ (by decide +kernel), by decide +kernel⟩,
   ⟨0, up.modRegion 0 (fun x => { x with linkUp := false }), canonical_of _ (by decide +kernel), by decide +kernel⟩,
   ⟨0, up.modRegion 0 (fun x => { x with writeBack := true }), canonical_of _ (by decide +kernel), by decide +kernel⟩,
   ⟨0, up, by decide +kernel⟩,
   ⟨up, canonical_of _ (by decide +kernel)⟩,
   ⟨up, by decide +kernel⟩,
   ⟨up.modCtl (fun x => { x with perstHold := true }), by decide +kernel⟩⟩

/-- The hypotheses of SheddingAndMeasurement can be met, clause by clause. -/
theorem test_shedding_and_measurement_applies :
    (∃ (c : Instr) (l : ShedLevel) (s : State),
      let ready (x : ShedLevel) : Bool := s.mayShed x && !s.gap x && s.overLimit x && (shedThermal x || decide
        (s.shedTime x ≤ s.overRun x))
      ((∃ b : Level, c = .shedTimerExpiry b ∧ l = shedOf b) ∨ (∃ k : PodId, c = .thermalShed (.pod k) ∧ l = .podT k) ∨
        (c = .thermalShed .package ∧ l = .therm)) ∧ ready l = false) ∧
    (∃ (c : Instr) (l : ShedLevel) (s : State),
      let ready (x : ShedLevel) : Bool := s.mayShed x && !s.gap x && s.overLimit x && (shedThermal x || decide
        (s.shedTime x ≤ s.overRun x))
      ((∃ b : Level, c = .shedTimerExpiry b ∧ l = shedOf b) ∨ (∃ k : PodId, c = .thermalShed (.pod k) ∧ l = .podT k) ∨
        (c = .thermalShed .package ∧ l = .therm)) ∧ ready l = true) ∧
    (∃ (x : ShedLevel) (s : State), s.gapAt x = none) ∧
    (∃ (x : ShedLevel) (s : State) (a : Nat), s.gapAt x = some a ∧ (∀ m : RegId, shedRegion x = some m →
      s.regions[m].linkUp = true)) ∧
    (∃ (x : ShedLevel) (s : State) (a : Nat) (m : RegId) (g : Nat), s.gapAt x = some a ∧ shedRegion x = some m ∧
      s.regions[m].linkUp = false ∧ s.regions[m].shedGap = some g) ∧
    (∃ (s : State), s.gaps = []) ∧
    (∃ (s : State) (e : Nat), (∃ x : ShedLevel, s.gapEnd x = some e) ∧ (∀ (x : ShedLevel) (d : Nat), s.gapEnd x = some
      d → e ≤ d)) ∧
    (∃ (temp : Int) (s : State), s.Canonical ∧ s.held = false ∧ temp < (s.fld (at_ 6 0x114) 0 8 : Nat)) ∧
    (∃ (die : Fin 5) (temp : Int) (s : State), s.Canonical ∧ s.held = false ∧ die = 0 ∧ (s.fld (at_ 6 0x114) 0 8 :
      Nat) ≤ temp ∧ s.ctl.warned = false) ∧
    (∃ (die : Fin 5) (s : State), s.Canonical ∧ s.held = false ∧ die = 0 ∧ s.ctl.warned = true) ∧
    (∃ (die : Fin 5) (temp : Int) (s : State) (m : RegId), s.Canonical ∧ s.held = false ∧ die.val = m.val + 1 ∧ (s.fld
      (at_ 6 0x114) 0 8 : Nat) ≤ temp ∧ (s.regions[m].warned = true ∨ s.linkDown m = true)) ∧
    (∃ (die : Fin 5) (temp : Int) (s : State) (m : RegId), s.Canonical ∧ s.held = false ∧ die.val = m.val + 1 ∧ (s.fld
      (at_ 6 0x114) 0 8 : Nat) ≤ temp ∧ s.regions[m].warned = false ∧ s.linkDown m = false) ∧
    (∃ (s : State), s.Canonical) :=
  ⟨⟨.shedTimerExpiry (.pod 0), .pod 0, up, Or.inl ⟨.pod 0, rfl, rfl⟩, by decide +kernel⟩,
   ⟨.shedTimerExpiry (.pod 0), .pod 0, ({ up with overRuns := [(.pod 0, 1023)] }.modHusk 0 (fun x =>
     { x with st := .on })).setReg (podAt 0 0xC) 0xFFFF, Or.inl ⟨.pod 0, rfl, rfl⟩, by decide +kernel⟩,
   ⟨.pod 0, up, by decide +kernel⟩,
   ⟨.pod 0, { up with gaps := [(.pod 0, 0)] }, 0, by decide +kernel⟩,
   ⟨.pod 0, { up with gaps := [(.pod 0, 0)] }.modRegion 0 (fun x => { x with linkUp := false, shedGap := some 5 }), 0,
     0, 5, by decide +kernel⟩,
   ⟨up, by decide +kernel⟩,
   ⟨{ up with gaps := [(.pod 0, 0)] }, 2400000, ⟨.pod 0, by decide +kernel⟩, least_gap rfl (by decide +kernel)⟩,
   ⟨0, up, canonical_of _ (by decide +kernel), by decide +kernel⟩,
   ⟨0, 100, up, canonical_of _ (by decide +kernel), by decide +kernel⟩,
   ⟨0, up.modCtl (fun x => { x with warned := true }), canonical_of _ (by decide +kernel), by decide +kernel⟩,
   ⟨1, 100, up.modRegion 0 (fun x => { x with running := false }), 0, canonical_of _ (by decide +kernel), by
     decide +kernel⟩,
   ⟨1, 100, up, 0, canonical_of _ (by decide +kernel), by decide +kernel⟩,
   ⟨up, canonical_of _ (by decide +kernel)⟩⟩

/-- The hypotheses of SliceLife can be met, clause by clause. -/
theorem test_slice_life_applies :
    (∃ (src : Source) (i : SliceId) (s : State), s.Takes src (slicePage i) 0x014 ∧ s.Canonical ∧ s.fw.mc = .acornOnly)
      ∧
    (∃ (src : Source) (i : SliceId) (s : State), s.Takes src (slicePage i) 0x014 ∧ s.Canonical ∧ s.fw.mc ≠ .acornOnly
      ∧ s.slices[i].st ≠ .none) ∧
    (∃ (src : Source) (i : SliceId) (s : State),
      let dup := ∃ j : SliceId, s.slices[j].st ≠ .none ∧ s.pasid j = s.pasid i
      s.Takes src (slicePage i) 0x014 ∧ s.Canonical ∧ s.fw.mc ≠ .acornOnly ∧ s.slices[i].st = .none ∧ dup) ∧
    (∃ (src : Source) (i : SliceId) (s : State),
      let dup := ∃ j : SliceId, s.slices[j].st ≠ .none ∧ s.pasid j = s.pasid i
      s.Takes src (slicePage i) 0x014 ∧ s.Canonical ∧ s.fw.mc ≠ .acornOnly ∧ s.slices[i].st = .none ∧ ¬ dup ∧
        (s.masksFree i = false ∨ s.masksIdle i = false)) ∧
    (∃ (src : Source) (i : SliceId) (s : State),
      let dup := ∃ j : SliceId, s.slices[j].st ≠ .none ∧ s.pasid j = s.pasid i
      s.Takes src (slicePage i) 0x014 ∧ s.Canonical ∧ s.fw.mc ≠ .acornOnly ∧ s.slices[i].st = .none ∧ ¬ dup ∧
        s.masksFree i = true ∧ s.masksIdle i = true ∧ s.wisFits i (s.wisQuota (some i)) = true ∧ s.granFits i
        (s.granQuota (some i)) = true) ∧
    (∃ (src : Source) (i : SliceId) (s : State),
      let dup := ∃ j : SliceId, s.slices[j].st ≠ .none ∧ s.pasid j = s.pasid i
      s.Takes src (slicePage i) 0x014 ∧ s.Canonical ∧ s.fw.mc ≠ .acornOnly ∧ s.slices[i].st = .none ∧ ¬ dup ∧
        s.masksFree i = true ∧ s.masksIdle i = true ∧ s.wisFits i (s.wisQuota (some i)) = false) ∧
    (∃ (src : Source) (i : SliceId) (s : State),
      let dup := ∃ j : SliceId, s.slices[j].st ≠ .none ∧ s.pasid j = s.pasid i
      s.Takes src (slicePage i) 0x014 ∧ s.Canonical ∧ s.fw.mc ≠ .acornOnly ∧ s.slices[i].st = .none ∧ ¬ dup ∧
        s.masksFree i = true ∧ s.masksIdle i = true ∧ s.wisFits i (s.wisQuota (some i)) = true ∧ s.granFits i
        (s.granQuota (some i)) = false) ∧
    (∃ (c : Instr) (src : Source) (i : SliceId) (s : State),
      let rst := c = .sliceReset src i
      let ok := if rst then s.slices[i].st = .active ∨ s.slices[i].st = .faulted else s.slices[i].st ≠ .none ∧
        s.slices[i].st ≠ .removing
      s.Takes src (slicePage i) 0x014 ∧ s.Canonical ∧ (c = .sliceReset src i ∨ c = .sliceRemove src i) ∧ ¬ ok) ∧
    (∃ (c : Instr) (src : Source) (i : SliceId) (s : State),
      let rst := c = .sliceReset src i
      let ok := if rst then s.slices[i].st = .active ∨ s.slices[i].st = .faulted else s.slices[i].st ≠ .none ∧
        s.slices[i].st ≠ .removing
      s.Takes src (slicePage i) 0x014 ∧ s.Canonical ∧ (c = .sliceReset src i ∨ c = .sliceRemove src i) ∧ ok) ∧
    (∃ (i : SliceId) (s : State), s.Canonical ∧ s.held = false ∧ s.fatal = false ∧ s.rootOn domSCHED = true ∧
      s.slices[i].drained = false) :=
  ⟨⟨.bar0, 0, up.modFw (fun x => { x with mc := .acornOnly }), takes_of _ _ _ _ (by decide +kernel), canonical_of _ (by
    decide +kernel), by decide +kernel⟩,
   ⟨.bar0, 0, up.modSlice 0 (fun x => { x with st := .active }), takes_of _ _ _ _ (by decide +kernel), canonical_of _
     (by decide +kernel), by decide +kernel⟩,
   ⟨.bar0, 0, up.modSlice 1 (fun x => { x with st := .active }), takes_of _ _ _ _ (by decide +kernel), canonical_of _
     (by decide +kernel), by decide +kernel⟩,
   ⟨.bar0, 0, up.setReg (at_ 0x140 0x118) 1, takes_of _ _ _ _ (by decide +kernel), canonical_of _ (by decide +kernel),
     by decide +kernel⟩,
   ⟨.bar0, 0, up, takes_of _ _ _ _ (by decide +kernel), canonical_of _ (by decide +kernel), by decide +kernel⟩,
   ⟨.bar0, 0, up.setReg (at_ 0x050 0x104) 0xF0F0, takes_of _ _ _ _ (by decide +kernel), canonical_of _ (by
     decide +kernel), by decide +kernel⟩,
   ⟨.bar0, 0, up.setReg (at_ 0x070 0x100) 0xF0F0, takes_of _ _ _ _ (by decide +kernel), canonical_of _ (by
     decide +kernel), by decide +kernel⟩,
   ⟨.sliceReset (.bar0) (0), .bar0, 0, up, takes_of _ _ _ _ (by decide +kernel), canonical_of _ (by decide +kernel),
     by decide +kernel⟩,
   ⟨.sliceReset (.bar0) (0), .bar0, 0, up.modSlice 0 (fun x => { x with st := .active }), takes_of _ _ _ _ (by
     decide +kernel), canonical_of _ (by decide +kernel), by decide +kernel⟩,
   ⟨0, up.modSlice 0 (fun x => { x with drained := false }), canonical_of _ (by decide +kernel), by decide +kernel⟩⟩

/-- The hypotheses of DataMoverRuns can be met, clause by clause. -/
theorem test_data_mover_runs_applies :
    (∃ (src : Source) (x : ChId) (s : State), s.Takes src (dmchPage x) 0x014 ∧ s.Canonical ∧ s.fw.mc = .acornOnly) ∧
    (∃ (src : Source) (x : ChId) (s : State), s.Takes src (dmchPage x) 0x014 ∧ s.Canonical ∧ s.fw.mc ≠ .acornOnly ∧
      s.dmchs[x].active = true) ∧
    (∃ (src : Source) (x : ChId) (s : State) (r d : Nat), s.Takes src (dmchPage x) 0x014 ∧ s.Canonical ∧ s.fw.mc ≠
      .acornOnly ∧ s.dmchs[x].active = false ∧ s.goCheck x = some (r, d)) ∧
    (∃ (src : Source) (x : ChId) (s : State), s.Takes src (dmchPage x) 0x014 ∧ s.Canonical ∧ s.fw.mc ≠ .acornOnly ∧
      s.dmchs[x].active = false ∧ s.dmMode x = true ∧ (s.dmBase x false % 8 ≠ 0 ∨ s.dmBase x true % 8 ≠ 0)) ∧
    (∃ (src : Source) (x : ChId) (s : State), s.Takes src (dmchPage x) 0x014 ∧ s.Canonical ∧ s.fw.mc ≠ .acornOnly ∧
      s.dmchs[x].active = false ∧ s.goCheck x = none) ∧
    (∃ (src : Source) (x : ChId) (s : State), s.Takes src (dmchPage x) 0x014 ∧ s.Canonical ∧ s.dmchs[x].active =
      false) ∧
    (∃ (src : Source) (x : ChId) (s : State), s.Takes src (dmchPage x) 0x014 ∧ s.Canonical ∧ s.dmchs[x].st = .pending)
      ∧
    (∃ (src : Source) (x : ChId) (s : State), s.Takes src (dmchPage x) 0x014 ∧ s.Canonical ∧ (s.dmchs[x].st = .running
      ∨ s.dmchs[x].st = .waiting) ∧ s.dmInside x = false) ∧
    (∃ (src : Source) (x : ChId) (s : State), s.Takes src (dmchPage x) 0x014 ∧ s.Canonical ∧ (s.dmchs[x].st = .running
      ∨ s.dmchs[x].st = .waiting) ∧ s.dmInside x = true) ∧
    (∃ (e : DmId) (s : State), s.Canonical ∧ s.dmRuns = true ∧ (∀ x : ChId, dmOf x = e → s.dmchs[x].holds = false) ∧
      (∃ x : ChId, dmOf x = e ∧ s.dmchs[x].st = .pending)) ∧
    (∃ (x : ChId) (m : Move) (s : State), s.Canonical ∧ s.dmRuns = true ∧ s.dmchs[x].st = .running ∧ s.dmchs[x].move =
      some m ∧ s.dmMode x = false ∧ m.len ≤ m.done ∧ s.dmchs[x].abort = false ∧ s.dmchs[x].stop = false ∧
      s.dmchs[x].limit = false) ∧
    (∃ (x : ChId) (m : Move) (s : State), s.Canonical ∧ s.dmRuns = true ∧ s.dmchs[x].st = .running ∧ s.dmchs[x].move =
      some m ∧ m.src.sp = 0 ∧ m.done < m.len) ∧
    (∃ (x : ChId) (m : Move) (s : State), s.Canonical ∧ s.dmRuns = true ∧ s.dmchs[x].st = .running ∧ s.dmchs[x].move =
      some m ∧ m.src.sp = 0 ∧ m.done < m.len ∧ s.dmchs[x].tries < s.dmRetry x) ∧
    (∃ (x : ChId) (m : Move) (s : State), s.Canonical ∧ s.dmRuns = true ∧ s.dmchs[x].st = .running ∧ s.dmchs[x].move =
      some m ∧ m.src.sp = 0 ∧ m.done < m.len ∧ s.dmRetry x ≤ s.dmchs[x].tries) ∧
    (∃ (x : ChId) (r d : Nat) (s : State) (m : Move), s.Canonical ∧ s.dmRuns = true ∧ (s.dmchs[x].abort = true ∧ r = 7
      ∧ d = 1 ∨ s.dmchs[x].abort = false ∧ s.dmchs[x].stop = true ∧ r = 5 ∧ d = 0 ∨ s.dmchs[x].abort = false ∧
      s.dmchs[x].stop = false ∧ s.dmchs[x].limit = true ∧ r = 4 ∧ d = 4) ∧ s.dmchs[x].st = .running ∧ s.dmchs[x].move
      = some m ∧ m.len ≤ m.done ∧ s.dmMode x = true) ∧
    (∃ (x : ChId) (r d : Nat) (s : State) (m : Move), s.Canonical ∧ s.dmRuns = true ∧ (s.dmchs[x].abort = true ∧ r = 7
      ∧ d = 1 ∨ s.dmchs[x].abort = false ∧ s.dmchs[x].stop = true ∧ r = 5 ∧ d = 0 ∨ s.dmchs[x].abort = false ∧
      s.dmchs[x].stop = false ∧ s.dmchs[x].limit = true ∧ r = 4 ∧ d = 4) ∧ s.dmchs[x].st = .running ∧ s.dmchs[x].move
      = some m ∧ m.len ≤ m.done ∧ s.dmMode x = false) ∧
    (∃ (x : ChId) (r d : Nat) (s : State), s.Canonical ∧ ((∃ n : Nat, s.dmchs[x].wait = some (.line n)) ∨ ∃ (p :
      PortId) (k : Nat), s.dmchs[x].wait = some (.frame p k)) ∧ s.dmRuns = true ∧ (s.dmchs[x].abort = true ∧ r = 7 ∧ d
      = 1 ∨ s.dmchs[x].abort = false ∧ s.dmchs[x].stop = true ∧ r = 5 ∧ d = 0 ∨ s.dmchs[x].abort = false ∧
      s.dmchs[x].stop = false ∧ s.dmchs[x].limit = true ∧ r = 4 ∧ d = 4) ∧ s.dmchs[x].st = .waiting ∧
      s.dmchs[x].satisfied = true) ∧
    (∃ (x : ChId) (w : BitVec 128) (s : State), s.Canonical ∧ s.dmRuns = true ∧ s.dmchs[x].st = .running ∧ s.dmMode x
      = true ∧ s.dmchs[x].instr = none ∧ s.dmchs[x].pc ≤ 65535 ∧ s.dmInRam x = false ∧ dmOp w ≤ 4) ∧
    (∃ (x : ChId) (w : BitVec 128) (s : State), s.Canonical ∧ s.dmRuns = true ∧ s.dmchs[x].st = .running ∧ s.dmMode x
      = true ∧ s.dmchs[x].instr = none ∧ s.dmchs[x].pc ≤ 65535 ∧ s.dmInRam x = false ∧ 4 < dmOp w) ∧
    (∃ (x : ChId) (s : State), s.Canonical ∧ s.dmRuns = true ∧ s.dmchs[x].st = .running ∧ s.dmMode x = true ∧
      s.dmchs[x].instr = none ∧ s.dmchs[x].pc ≤ 65535 ∧ s.dmInRam x = false ∧ s.dmRetry x ≤ s.dmchs[x].tries) ∧
    (∃ (x : ChId) (s : State), s.Canonical ∧ s.dmRuns = true ∧ s.dmchs[x].st = .running ∧ s.dmMode x = true ∧
      s.dmchs[x].instr = none ∧ s.dmchs[x].pc ≤ 65535 ∧ s.dmInRam x = true ∧ s.inPramWin x (s.dmProg x % 8192 / 16 +
      s.dmchs[x].pc) = false) ∧
    (∃ (x : ChId) (s : State), s.Canonical ∧ s.dmRuns = true ∧ s.dmchs[x].st = .running ∧ s.dmMode x = true ∧
      s.dmchs[x].instr = none ∧ s.dmchs[x].pc ≤ 65535 ∧ s.dmInRam x = true ∧ s.inPramWin x (s.dmProg x % 8192 / 16 +
      s.dmchs[x].pc) = true ∧ dmOp (BitVec.ofNat 128 (memRead s.dms[dmOf x].ram (16 * (s.dmProg x % 8192 / 16 +
      s.dmchs[x].pc)) 16)) ≤ 4) ∧
    (∃ (x : ChId) (s : State), s.Canonical ∧ s.dmRuns = true ∧ s.dmchs[x].st = .waiting ∧ s.dmReady x = false ∧ s.fld
      (at_ (dmchPage x) 0x040) 0 16 ≠ 0) ∧
    (∃ (x : ChId) (s : State),
      let shared := ∃ y z : ChId, dmOf y = dmOf x ∧ dmOf z = dmOf x ∧ s.ownerCh y ≠ s.ownerCh z
      s.Canonical ∧ s.dmRuns = true ∧ s.dmchs[x].holds = true ∧ s.fld (at_ (dmPage (dmOf x)) 0x108) 0 16 = 0 ∧ ¬
        shared) ∧
    (∃ (x : ChId) (s : State),
      let shared := ∃ y z : ChId, dmOf y = dmOf x ∧ dmOf z = dmOf x ∧ s.ownerCh y ≠ s.ownerCh z
      s.Canonical ∧ s.dmRuns = true ∧ s.dmchs[x].holds = true ∧ (s.fld (at_ (dmPage (dmOf x)) 0x108) 0 16 ≠ 0 ∨
        shared) ∧ s.dmInside x = false) ∧
    (∃ (x : ChId) (s : State),
      let shared := ∃ y z : ChId, dmOf y = dmOf x ∧ dmOf z = dmOf x ∧ s.ownerCh y ≠ s.ownerCh z
      s.Canonical ∧ s.dmRuns = true ∧ s.dmchs[x].holds = true ∧ (s.fld (at_ (dmPage (dmOf x)) 0x108) 0 16 ≠ 0 ∨
        shared) ∧ s.dmInside x = true) ∧
    (∃ (src : Source) (e : DmId) (s : State),
      let a := s.pramAddr e
      s.Takes src (dmPage e) 0x104 ∧ s.Canonical ∧ s.pramBusy e a = false) ∧
    (∃ (src : Source) (e : DmId) (s : State),
      let a := s.pramAddr e
      s.Takes src (dmPage e) 0x104 ∧ s.Canonical ∧ s.pramBusy e a = true) ∧
    (∃ (src : Source) (e : DmId) (s : State), s.Takes src (dmPage e) 0x104 ∧ s.Canonical) :=
  ⟨⟨.bar0, 0, up.modFw (fun x => { x with mc := .acornOnly }), takes_of _ _ _ _ (by decide +kernel), canonical_of _ (by
    decide +kernel), by decide +kernel⟩,
   ⟨.bar0, 0, up.modCh 0 (fun x => { x with st := .pending }), takes_of _ _ _ _ (by decide +kernel), canonical_of _
     (by decide +kernel), by decide +kernel⟩,
   ⟨.bar0, 0, up, 6, 3, takes_of _ _ _ _ (by decide +kernel), canonical_of _ (by decide +kernel), by decide +kernel⟩,
   ⟨.bar0, 0, (up.setReg (at_ 0x100 0x020) 1).setReg (at_ 0x100 0x034) 1, takes_of _ _ _ _ (by decide +kernel),
     canonical_of _ (by decide +kernel), by decide +kernel⟩,
   ⟨.bar0, 0, up.setReg (at_ 0x100 0x030) 8, takes_of _ _ _ _ (by decide +kernel), canonical_of _ (by decide +kernel),
     by decide +kernel⟩,
   ⟨.bar0, 0, up, takes_of _ _ _ _ (by decide +kernel), canonical_of _ (by decide +kernel), by decide +kernel⟩,
   ⟨.bar0, 0, up.modCh 0 (fun x => { x with st := .pending }), takes_of _ _ _ _ (by decide +kernel), canonical_of _
     (by decide +kernel), by decide +kernel⟩,
   ⟨.bar0, 0, up.modCh 0 (fun x => { x with st := .running }), takes_of _ _ _ _ (by decide +kernel), canonical_of _
     (by decide +kernel), by decide +kernel⟩,
   ⟨.bar0, 0, up.modCh 0 (fun x =>
     { x with st := .running, move := some ⟨⟨0, false, false, 0⟩, ⟨0, false, false, 64⟩, 8, 8⟩ }), takes_of _ _ _ _
     (by decide +kernel), canonical_of _ (by decide +kernel), by decide +kernel⟩,
   ⟨0, up.modCh 0 (fun x => { x with st := .pending }), canonical_of _ (by decide +kernel), by decide +kernel⟩,
   ⟨0, ⟨⟨0, false, false, 0⟩, ⟨0, false, false, 64⟩, 8, 8⟩, up.modCh 0 (fun x =>
     { x with st := .running, move := some ⟨⟨0, false, false, 0⟩, ⟨0, false, false, 64⟩, 8, 8⟩ }), canonical_of _ (by
     decide +kernel), by decide +kernel⟩,
   ⟨0, ⟨⟨0, false, false, 0⟩, ⟨0, false, false, 64⟩, 8, 0⟩, up.modCh 0 (fun x =>
     { x with st := .running, move := some ⟨⟨0, false, false, 0⟩, ⟨0, false, false, 64⟩, 8, 0⟩ }), canonical_of _ (by
     decide +kernel), by decide +kernel⟩,
   ⟨0, ⟨⟨0, false, false, 0⟩, ⟨0, false, false, 64⟩, 8, 0⟩, up.modCh 0 (fun x =>
     { x with st := .running, move := some ⟨⟨0, false, false, 0⟩, ⟨0, false, false, 64⟩, 8, 0⟩ }), canonical_of _ (by
     decide +kernel), by decide +kernel⟩,
   ⟨0, ⟨⟨0, false, false, 0⟩, ⟨0, false, false, 64⟩, 8, 0⟩, up.modCh 0 (fun x =>
     { x with st := .running, move := some ⟨⟨0, false, false, 0⟩, ⟨0, false, false, 64⟩, 8, 0⟩, tries := 3 }),
     canonical_of _ (by decide +kernel), by decide +kernel⟩,
   ⟨0, 5, 0, (up.modCh 0 (fun x =>
     { x with st := .running, stop := true, move := some ⟨⟨0, false, false, 0⟩, ⟨0, false, false, 64⟩, 8, 8⟩ })).setReg
     (at_ (dmchPage 0) 0x034) 1, ⟨⟨0, false, false, 0⟩, ⟨0, false, false, 64⟩, 8, 8⟩, canonical_of _ (by
     decide +kernel), by decide +kernel⟩,
   ⟨0, 5, 0, up.modCh 0 (fun x =>
     { x with st := .running, stop := true, move := some ⟨⟨0, false, false, 0⟩, ⟨0, false, false, 64⟩, 8, 8⟩ }), ⟨⟨0,
     false, false, 0⟩, ⟨0, false, false, 64⟩, 8, 8⟩, canonical_of _ (by decide +kernel), by decide +kernel⟩,
   ⟨0, 5, 0, up.modCh 0 (fun x => { x with st := .waiting, satisfied := true, stop := true, wait := some (.line 0) }),
     canonical_of _ (by decide +kernel), Or.inl ⟨0, by decide +kernel⟩, by decide +kernel⟩,
   ⟨0, 0, (up.modCh 0 (fun x => { x with st := .running })).setReg (at_ 0x100 0x034) 1, canonical_of _ (by
     decide +kernel), by decide +kernel⟩,
   ⟨0, 5, (up.modCh 0 (fun x => { x with st := .running })).setReg (at_ 0x100 0x034) 1, canonical_of _ (by
     decide +kernel), by decide +kernel⟩,
   ⟨0, (up.setReg (at_ 0x100 0x034) 1).modCh 0 (fun x => { x with st := .running }), canonical_of _ (by
     decide +kernel), by decide +kernel⟩,
   ⟨0, (up.setReg (at_ 0x100 0x034) 3).modCh 0 (fun x => { x with st := .running }), canonical_of _ (by
     decide +kernel), by decide +kernel⟩,
   ⟨0, ((up.setReg (at_ 0x100 0x034) 3).setReg (at_ 0x100 0x100) 0).modCh 0 (fun x => { x with st := .running }),
     canonical_of _ (by decide +kernel), by decide +kernel⟩,
   ⟨0, (up.modCh 0 (fun x => { x with st := .waiting })).setReg (at_ 0x100 0x040) 1, canonical_of _ (by
     decide +kernel), by decide +kernel⟩,
   ⟨0, up.modCh 0 (fun x => { x with st := .running }), canonical_of _ (by decide +kernel), by decide +kernel⟩,
   ⟨0, (up.modSlice 0 (fun x => { x with chs := 1 })).modCh 0 (fun x => { x with st := .running }), canonical_of _ (by
     decide +kernel), by decide +kernel⟩,
   ⟨0, (up.modSlice 0 (fun x => { x with chs := 1 })).modCh 0 (fun x =>
     { x with st := .running, move := some ⟨⟨0, false, false, 0⟩, ⟨0, false, false, 64⟩, 8, 8⟩ }), canonical_of _ (by
     decide +kernel), by decide +kernel⟩,
   ⟨.bar0, 0, up, takes_of _ _ _ _ (by decide +kernel), canonical_of _ (by decide +kernel), by decide +kernel⟩,
   ⟨.bar0, 0, ((up.modCh 0 (fun x => { x with st := .running })).setReg (at_ (dmchPage 0) 0x034) 3).setReg (at_
     (dmchPage 0) 0x100) 0x10000, takes_of _ _ _ _ (by decide +kernel), canonical_of _ (by decide +kernel), by
     decide +kernel⟩,
   ⟨.bar0, 0, up, takes_of _ _ _ _ (by decide +kernel), canonical_of _ (by decide +kernel)⟩⟩

/-- The hypotheses of DataMoverProgram can be met, clause by clause. -/
theorem test_data_mover_program_applies :
    (∃ (x : ChId) (m : Move) (s : State), s.Canonical ∧ s.dmRuns = true ∧ s.dmchs[x].st = .running ∧ s.dmchs[x].move =
      some m ∧ m.src.sp = 0 ∧ m.done + 8 ≤ m.len ∧ (s.dmMode x = true ∨ s.dmchs[x].asked = false) ∧ m.dst.sp = 0 ∧
      s.dmchs[x].gen = s.genOf (s.ownerCh x)) ∧
    (∃ (x : ChId) (m : Move) (s : State), s.Canonical ∧ s.dmRuns = true ∧ s.dmchs[x].st = .running ∧ s.dmchs[x].move =
      some m ∧ m.src.sp = 0 ∧ m.done + 8 ≤ m.len ∧ (s.dmMode x = true ∨ s.dmchs[x].asked = false) ∧ m.dst.sp = 3) ∧
    (∃ (x : ChId) (m : Move) (s : State), s.dmRuns = true ∧ s.dmchs[x].st = .running ∧ s.dmMode x = true ∧
      s.dmchs[x].move = some m ∧ m.len ≤ m.done ∧ s.dmchs[x].abort = false ∧ s.dmchs[x].stop = false ∧
      s.dmchs[x].limit = false) ∧
    (∃ (x : ChId) (w : BitVec 128) (s : State) (r d : Nat), s.Canonical ∧ s.dmRuns = true ∧ s.dmchs[x].st = .running ∧
      s.dmchs[x].instr = some w ∧ s.dmchs[x].abort = false ∧ s.dmchs[x].stop = false ∧ s.dmchs[x].limit = false ∧ dmOp
      w = 1 ∧ s.dmMode x = true ∧ s.dmchs[x].move = none ∧ s.moveCheck x w = some (r, d)) ∧
    (∃ (x : ChId) (w : BitVec 128) (s : State),
      let target := df w 1 0 16
      s.Canonical ∧ s.dmRuns = true ∧ s.dmchs[x].st = .running ∧ s.dmchs[x].instr = some w ∧ s.dmchs[x].abort = false
        ∧ s.dmchs[x].stop = false ∧ s.dmchs[x].limit = false ∧ dmOp w = 2 ∧ df w 0 5 27 = 0 ∧ df w 1 16 16 = 0 ∧ df w
        2 16 16 = 0 ∧ df w 3 0 32 = 0 ∧ s.dmchs[x].pc < target) ∧
    (∃ (x : ChId) (w : BitVec 128) (s : State),
      let target := df w 1 0 16
      let count := df w 2 0 16
      s.Canonical ∧ s.dmRuns = true ∧ s.dmchs[x].st = .running ∧ s.dmchs[x].instr = some w ∧ s.dmchs[x].abort = false
        ∧ s.dmchs[x].stop = false ∧ s.dmchs[x].limit = false ∧ dmOp w = 2 ∧ df w 0 5 27 = 0 ∧ df w 1 16 16 = 0 ∧ df w
        2 16 16 = 0 ∧ df w 3 0 32 = 0 ∧ target ≤ s.dmchs[x].pc ∧ count = 0) ∧
    (∃ (x : ChId) (w : BitVec 128) (s : State),
      let target := df w 1 0 16
      let count := df w 2 0 16
      s.Canonical ∧ s.dmRuns = true ∧ s.dmchs[x].st = .running ∧ s.dmchs[x].instr = some w ∧ s.dmchs[x].abort = false
        ∧ s.dmchs[x].stop = false ∧ s.dmchs[x].limit = false ∧ dmOp w = 2 ∧ df w 0 5 27 = 0 ∧ df w 1 16 16 = 0 ∧ df w
        2 16 16 = 0 ∧ df w 3 0 32 = 0 ∧ target ≤ s.dmchs[x].pc ∧ count ≠ 0) ∧
    (∃ (x : ChId) (w : BitVec 128) (s : State), s.Canonical ∧ s.dmRuns = true ∧ s.dmchs[x].st = .running ∧
      s.dmchs[x].instr = some w ∧ s.dmchs[x].abort = false ∧ s.dmchs[x].stop = false ∧ s.dmchs[x].limit = false ∧ dmOp
      w = 3 ∧ df w 0 5 27 = 0 ∧ df w 2 0 32 = 0 ∧ df w 3 0 32 = 0 ∧ df w 0 4 1 = 0 ∧ df w 1 6 26 = 0) ∧
    (∃ (x : ChId) (w : BitVec 128) (s : State) (p : PortId), s.Canonical ∧ s.dmRuns = true ∧ s.dmchs[x].st = .running
      ∧ s.dmchs[x].instr = some w ∧ s.dmchs[x].abort = false ∧ s.dmchs[x].stop = false ∧ s.dmchs[x].limit = false ∧
      dmOp w = 3 ∧ df w 0 5 27 = 0 ∧ df w 2 0 32 = 0 ∧ df w 3 0 32 = 0 ∧ df w 0 4 1 = 1 ∧ df w 1 6 2 = 0 ∧ df w 1 12
      20 = 0 ∧ df w 1 8 4 ≤ 13 ∧ portId? (df w 1 0 6) = some p ∧ s.ownerPort p = s.ownerCh x) ∧
    (∃ (x : ChId) (w : BitVec 128) (s : State), s.Canonical ∧ s.dmRuns = true ∧ s.dmchs[x].st = .running ∧
      s.dmchs[x].instr = some w ∧ s.dmchs[x].abort = false ∧ s.dmchs[x].stop = false ∧ s.dmchs[x].limit = false ∧ dmOp
      w = 3 ∧ df w 0 5 27 = 0 ∧ df w 2 0 32 = 0 ∧ df w 3 0 32 = 0 ∧ df w 0 4 1 = 1 ∧ df w 1 6 2 = 0 ∧ df w 1 12 20 = 0
      ∧ df w 1 8 4 ≤ 13 ∧ (∀ p : PortId, portId? (df w 1 0 6) = some p → s.ownerPort p ≠ s.ownerCh x)) ∧
    (∃ (x : ChId) (w : BitVec 128) (s : State),
      let line := df w 1 0 6
      s.Canonical ∧ s.dmRuns = true ∧ s.dmchs[x].st = .running ∧ s.dmchs[x].instr = some w ∧ s.dmchs[x].abort = false
        ∧ s.dmchs[x].stop = false ∧ s.dmchs[x].limit = false ∧ dmOp w = 4 ∧ df w 0 4 28 = 0 ∧ df w 1 6 26 = 0 ∧ df w 2
        0 32 = 0 ∧ df w 3 0 32 = 0 ∧ (s.ownerCh x = none ∨ ∃ i : SliceId, s.ownerCh x = some i ∧ s.flag (at_
        (slicePage i) (0x128 + 4 * (line / 32))) (line % 32) = true)) ∧
    (∃ (x : ChId) (w : BitVec 128) (s : State) (i : SliceId),
      let line := df w 1 0 6
      s.Canonical ∧ s.dmRuns = true ∧ s.dmchs[x].st = .running ∧ s.dmchs[x].instr = some w ∧ s.dmchs[x].abort = false
        ∧ s.dmchs[x].stop = false ∧ s.dmchs[x].limit = false ∧ dmOp w = 4 ∧ df w 0 4 28 = 0 ∧ df w 1 6 26 = 0 ∧ df w 2
        0 32 = 0 ∧ df w 3 0 32 = 0 ∧ s.ownerCh x = some i ∧ s.flag (at_ (slicePage i) (0x128 + 4 * (line / 32))) (line
        % 32) = false) ∧
    (∃ (x : ChId) (w : BitVec 128) (s : State), s.Canonical ∧ s.dmRuns = true ∧ s.dmchs[x].st = .running ∧
      s.dmchs[x].instr = some w ∧ s.dmchs[x].abort = false ∧ s.dmchs[x].stop = false ∧ s.dmchs[x].limit = false ∧ dmOp
      w = 0 ∧ df w 0 4 28 = 0 ∧ df w 1 0 32 = 0 ∧ df w 2 0 32 = 0 ∧ df w 3 0 32 = 0) ∧
    (∃ (x : ChId) (s : State), ((∃ n : Nat, s.dmchs[x].wait = some (.line n)) ∨ ∃ (p : PortId) (k : Nat),
      s.dmchs[x].wait = some (.frame p k)) ∧ s.dmRuns = true ∧ s.dmchs[x].st = .waiting ∧ s.dmchs[x].satisfied = true
      ∧ s.dmchs[x].abort = false ∧ s.dmchs[x].stop = false ∧ s.dmchs[x].limit = false) :=
  ⟨⟨0, ⟨⟨0, false, false, 0⟩, ⟨0, false, false, 64⟩, 8, 0⟩, up.modCh 0 (fun x =>
    { x with st := .running, move := some ⟨⟨0, false, false, 0⟩, ⟨0, false, false, 64⟩, 8, 0⟩ }), canonical_of _ (by
    decide +kernel), by decide +kernel⟩,
   ⟨0, ⟨⟨0, false, false, 0⟩, ⟨3, false, false, 0⟩, 8, 0⟩, up.modCh 0 (fun x =>
     { x with st := .running, move := some ⟨⟨0, false, false, 0⟩, ⟨3, false, false, 0⟩, 8, 0⟩ }), canonical_of _ (by
     decide +kernel), by decide +kernel⟩,
   ⟨0, ⟨⟨0, false, false, 0⟩, ⟨0, false, false, 64⟩, 8, 8⟩, (up.modCh 0 (fun x =>
     { x with st := .running, move := some ⟨⟨0, false, false, 0⟩, ⟨0, false, false, 64⟩, 8, 8⟩ })).setReg (at_ 0x100
     0x034) 1, by decide +kernel⟩,
   ⟨0, 1, (up.modCh 0 (fun x => { x with st := .running, instr := some 1 })).setReg (at_ 0x100 0x034) 1, 6, 3,
     canonical_of _ (by decide +kernel), by decide +kernel⟩,
   ⟨0, 0x100000002, up.modCh 0 (fun x => { x with st := .running, instr := some 0x100000002 }), canonical_of _ (by
     decide +kernel), by decide +kernel⟩,
   ⟨0, 2, up.modCh 0 (fun x => { x with st := .running, instr := some 2 }), canonical_of _ (by decide +kernel), by
     decide +kernel⟩,
   ⟨0, 0x30000000000000002, up.modCh 0 (fun x => { x with st := .running, instr := some 0x30000000000000002 }),
     canonical_of _ (by decide +kernel), by decide +kernel⟩,
   ⟨0, 3, up.modCh 0 (fun x => { x with st := .running, instr := some 3 }), canonical_of _ (by decide +kernel), by
     decide +kernel⟩,
   ⟨0, 0x13, up.modCh 0 (fun x => { x with st := .running, instr := some 0x13 }), 0, canonical_of _ (by
     decide +kernel), by decide +kernel⟩,
   ⟨0, 0x13, (up.modCh 0 (fun x => { x with st := .running, instr := some 0x13 })).modSlice 0 (fun x =>
     { x with ports := 1 }), canonical_of _ (by decide +kernel), by decide +kernel⟩,
   ⟨0, 4, up.modCh 0 (fun x => { x with st := .running, instr := some 4 }), canonical_of _ (by decide +kernel), by
     decide +kernel⟩,
   ⟨0, 4, (up.modSlice 0 (fun x => { x with chs := 1 })).modCh 0 (fun x =>
     { x with st := .running, instr := some 4 }), 0, canonical_of _ (by decide +kernel), by decide +kernel⟩,
   ⟨0, 0, up.modCh 0 (fun x => { x with st := .running, instr := some 0 }), canonical_of _ (by decide +kernel), by
     decide +kernel⟩,
   ⟨0, up.modCh 0 (fun x => { x with st := .waiting, satisfied := true, wait := some (.line 0) }), Or.inl ⟨0, by
     decide +kernel⟩, by decide +kernel⟩⟩

/-- The hypotheses of CaptureItems can be met, clause by clause. -/
theorem test_capture_items_applies :
    (∃ (k : CfId) (pid : Byte) (p : PortId) (s : State), s.capRuns = true ∧ portId? (s.cfPort k) = some p ∧ s.domOn
      (podDom (podOf p)) = true ∧ s.cfs[k].item = none ∧ pidOk pid = false ∧ s.cfs[k].en = false) ∧
    (∃ (k : CfId) (pid : Byte) (dev : Bool) (body : BitVec 11) (p : PortId) (s : State),
      let tok := tokenOf s.ports[p].token pid body
      let pass := s.capPasses k pid dev (if pidOk pid then tok.1 else s.ports[p].token)
      s.capRuns = true ∧ portId? (s.cfPort k) = some p ∧ s.domOn (podDom (podOf p)) = true ∧ s.cfs[k].item = none ∧
        s.cfs[k].en = true ∧ pass = true ∧ 2 ≤ s.cfs[k].free) ∧
    (∃ (k : CfId) (pid : Byte) (dev : Bool) (body : BitVec 11) (p : PortId) (s : State),
      let tok := tokenOf s.ports[p].token pid body
      let pass := s.capPasses k pid dev (if pidOk pid then tok.1 else s.ports[p].token)
      s.Canonical ∧ s.capRuns = true ∧ portId? (s.cfPort k) = some p ∧ s.domOn (podDom (podOf p)) = true ∧
        s.cfs[k].item = none ∧ s.cfs[k].en = true ∧ pass = true ∧ s.cfs[k].free < 2) ∧
    (∃ (k : CfId) (pid : Byte) (dev : Bool) (body : BitVec 11) (p : PortId) (s : State),
      let tok := tokenOf s.ports[p].token pid body
      let pass := s.capPasses k pid dev (if pidOk pid then tok.1 else s.ports[p].token)
      s.Canonical ∧ s.capRuns = true ∧ portId? (s.cfPort k) = some p ∧ s.domOn (podDom (podOf p)) = true ∧
        s.cfs[k].item = none ∧ s.cfs[k].en = true ∧ pass = false) ∧
    (∃ (k : CfId) (i : COpen) (s : State), s.capRuns = true ∧ s.cfs[k].item = some i ∧ s.fld (at_ (cfPage k) 0x028) 0
      11 ≤ s.cfs[k].pktBytes) ∧
    (∃ (k : CfId) (i : COpen) (s : State), s.capRuns = true ∧ s.cfs[k].item = some i ∧ s.cfs[k].pktBytes < s.fld (at_
      (cfPage k) 0x028) 0 11 ∧ (i.bytes + 1) % 8 ≠ 0) ∧
    (∃ (k : CfId) (i : COpen) (s : State), s.capRuns = true ∧ s.cfs[k].item = some i ∧ s.cfs[k].pktBytes < s.fld (at_
      (cfPage k) 0x028) 0 11 ∧ (i.bytes + 1) % 8 = 0 ∧ 2 ≤ s.cfs[k].free) ∧
    (∃ (k : CfId) (i : COpen) (s : State), s.Canonical ∧ s.capRuns = true ∧ s.cfs[k].item = some i ∧ s.cfs[k].pktBytes
      < s.fld (at_ (cfPage k) 0x028) 0 11 ∧ (i.bytes + 1) % 8 = 0 ∧ s.cfs[k].free < 2) ∧
    (∃ (k : CfId) (i : COpen) (s : State), s.Canonical ∧ s.capRuns = true ∧ s.cfs[k].item = some i ∧ 3 ≤
      s.cfs[k].free) ∧
    (∃ (src : Source) (k : CfId) (s : State), s.Takes src (cfPage k) 0x014) ∧
    (∃ (c : Instr) (src : Source) (k : CfId) (p : PortId) (v : Word) (s : State), s.Takes src (cfPage k) 0x014 ∧
      s.Canonical ∧ (c = .cfEnable src k v ∨ c = .cfDisable src k v) ∧ v.getLsbD 1 = false ∧ v.getLsbD 2 = false ∧
      portId? (s.cfPort k) = some p ∧ v.getLsbD 0 = true ∧ s.cfs[k].en = false ∧ s.fw.mc ≠ .acornOnly ∧ s.ownerPort p
      = s.ownerCf k) ∧
    (∃ (c : Instr) (src : Source) (k : CfId) (p : PortId) (v : Word) (s : State), s.Takes src (cfPage k) 0x014 ∧
      s.Canonical ∧ (c = .cfEnable src k v ∨ c = .cfDisable src k v) ∧ v.getLsbD 1 = false ∧ v.getLsbD 2 = false ∧
      portId? (s.cfPort k) = some p ∧ v.getLsbD 0 = true ∧ s.cfs[k].en = false ∧ s.fw.mc ≠ .acornOnly ∧ s.ownerPort p
      ≠ s.ownerCf k) ∧
    (∃ (c : Instr) (src : Source) (k : CfId) (p : PortId) (v : Word) (s : State), s.Takes src (cfPage k) 0x014 ∧
      s.Canonical ∧ (c = .cfEnable src k v ∨ c = .cfDisable src k v) ∧ v.getLsbD 1 = false ∧ v.getLsbD 2 = false ∧
      portId? (s.cfPort k) = some p ∧ v.getLsbD 0 = true ∧ s.cfs[k].en = false ∧ s.fw.mc = .acornOnly) ∧
    (∃ (c : Instr) (src : Source) (k : CfId) (p : PortId) (v : Word) (s : State), s.Takes src (cfPage k) 0x014 ∧
      s.Canonical ∧ (c = .cfEnable src k v ∨ c = .cfDisable src k v) ∧ v.getLsbD 1 = false ∧ v.getLsbD 2 = false ∧
      portId? (s.cfPort k) = some p ∧ v.getLsbD 0 = false ∧ s.cfs[k].en = true ∧ s.cfs[k].item = none) ∧
    (∃ (c : Instr) (src : Source) (k : CfId) (p : PortId) (v : Word) (s : State) (i : COpen),
      let pad := if i.bytes % 8 = 0 then [] else [CWord.data i.word]
      s.Takes src (cfPage k) 0x014 ∧ s.Canonical ∧ (c = .cfEnable src k v ∨ c = .cfDisable src k v) ∧ v.getLsbD 1 =
        false ∧ v.getLsbD 2 = false ∧ portId? (s.cfPort k) = some p ∧ v.getLsbD 0 = false ∧ s.cfs[k].en = true ∧
        s.cfs[k].item = some i ∧ (pad = [] ∨ 2 ≤ s.cfs[k].free)) ∧
    (∃ (c : Instr) (src : Source) (k : CfId) (p : PortId) (v : Word) (s : State) (i : COpen),
      let pad := if i.bytes % 8 = 0 then [] else [CWord.data i.word]
      s.Takes src (cfPage k) 0x014 ∧ s.Canonical ∧ (c = .cfEnable src k v ∨ c = .cfDisable src k v) ∧ v.getLsbD 1 =
        false ∧ v.getLsbD 2 = false ∧ portId? (s.cfPort k) = some p ∧ v.getLsbD 0 = false ∧ s.cfs[k].en = true ∧
        s.cfs[k].item = some i ∧ pad ≠ [] ∧ s.cfs[k].free < 2) :=
  ⟨⟨0, 0, 0, up, by decide +kernel⟩,
   ⟨0, 0, false, 0, 0, up.modCf 0 (fun x => { x with en := true }), by decide +kernel⟩,
   ⟨0, 0, false, 0, 0, up.modCf 0 (fun x => { x with en := true, words := List.replicate 8191 .slot }), canonical_of _
     (by decide +kernel), by decide +kernel⟩,
   ⟨0, 0, false, 0, 0, (up.modCf 0 (fun x => { x with en := true })).setReg (at_ 0x128 0x024) 1, canonical_of _ (by
     decide +kernel), by decide +kernel⟩,
   ⟨0, ⟨0, false, false, 0, 1, 0, false⟩, up.modCf 0 (fun x =>
     { x with item := some ⟨0, false, false, 0, 1, 0, false⟩, pktBytes := 4096 }), by decide +kernel⟩,
   ⟨0, ⟨0, false, false, 0, 1, 0, false⟩, up.modCf 0 (fun x =>
     { x with item := some ⟨0, false, false, 0, 1, 0, false⟩ }), by decide +kernel⟩,
   ⟨0, ⟨0, false, false, 0, 7, 0, false⟩, up.modCf 0 (fun x =>
     { x with item := some ⟨0, false, false, 0, 7, 0, false⟩ }), by decide +kernel⟩,
   ⟨0, ⟨0, false, false, 0, 7, 0, false⟩, up.modCf 0 (fun x =>
     { x with words := List.replicate 8191 .slot, item := some ⟨0, false, false, 0, 7, 0, false⟩ }), canonical_of _
     (by decide +kernel), by decide +kernel⟩,
   ⟨0, ⟨0, false, false, 0, 1, 0, false⟩, up.modCf 0 (fun x =>
     { x with item := some ⟨0, false, false, 0, 1, 0, false⟩ }), canonical_of _ (by decide +kernel), by
     decide +kernel⟩,
   ⟨.bar0, 0, up, takes_of _ _ _ _ (by decide +kernel)⟩,
   ⟨.cfEnable (.bar0) (0) (1), .bar0, 0, 0, 1, up, takes_of _ _ _ _ (by decide +kernel), canonical_of _ (by
     decide +kernel), by decide +kernel⟩,
   ⟨.cfEnable (.bar0) (0) (1), .bar0, 0, 0, 1, up.modSlice 0 (fun x => { x with ports := 1 }), takes_of _ _ _ _ (by
     decide +kernel), canonical_of _ (by decide +kernel), by decide +kernel⟩,
   ⟨.cfEnable (.bar0) (0) (1), .bar0, 0, 0, 1, up.modFw (fun x => { x with mc := .acornOnly }), takes_of _ _ _ _ (by
     decide +kernel), canonical_of _ (by decide +kernel), by decide +kernel⟩,
   ⟨.cfEnable (.bar0) (0) (0), .bar0, 0, 0, 0, up.modCf 0 (fun x => { x with en := true }), takes_of _ _ _ _ (by
     decide +kernel), canonical_of _ (by decide +kernel), by decide +kernel⟩,
   ⟨.cfEnable (.bar0) (0) (0), .bar0, 0, 0, 0, up.modCf 0 (fun x =>
     { x with en := true, item := some ⟨0, false, false, 0, 1, 0, false⟩ }), ⟨0, false, false, 0, 1, 0, false⟩,
     takes_of _ _ _ _ (by decide +kernel), canonical_of _ (by decide +kernel), by decide +kernel⟩,
   ⟨.cfEnable (.bar0) (0) (0), .bar0, 0, 0, 0, up.modCf 0 (fun x =>
     { x with en := true, words := List.replicate 8191 .slot, item := some ⟨0, false, false, 0, 1, 0, false⟩ }), ⟨0,
     false, false, 0, 1, 0, false⟩, takes_of _ _ _ _ (by decide +kernel), canonical_of _ (by decide +kernel), by
     decide +kernel⟩⟩

/-- The hypotheses of PowerDomains can be met, clause by clause. -/
theorem test_power_domains_applies :
    (∃ (src : Source) (d : DomId) (v : Word) (s : State), s.Takes src 3 (0x100 + 4 * d.val) ∧ s.Canonical ∧ bits
      v.toNat 0 2 = 3) ∧
    (∃ (src : Source) (d : DomId) (v : Word) (s : State), s.Takes src 3 (0x100 + 4 * d.val) ∧ s.Canonical ∧ d = domAON
      ∧ bits v.toNat 0 2 = 0) ∧
    (∃ (src : Source) (d : DomId) (v : Word) (s : State), s.Takes src 3 (0x100 + 4 * d.val) ∧ s.Canonical ∧ d = domAON
      ∧ (bits v.toNat 0 2 = 1 ∨ bits v.toNat 0 2 = 2)) ∧
    (∃ (src : Source) (d : DomId) (v : Word) (s : State), s.Takes src 3 (0x100 + 4 * d.val) ∧ s.Canonical ∧ d ≠ domAON
      ∧ (bits v.toNat 0 2 = 1 ∨ bits v.toNat 0 2 = 2) ∧ s.doms[d].st = .on) ∧
    (∃ (src : Source) (d : DomId) (v : Word) (s : State), s.Takes src 3 (0x100 + 4 * d.val) ∧ s.Canonical ∧ d ≠ domAON
      ∧ bits v.toNat 0 2 = 0 ∧ (s.doms[d].st = .ret ∨ s.doms[d].st = .off) ∧ s.doms[d].phase = .none ∧ (∀ x ∈ needs d,
      s.doms[x].phase = .none)) ∧
    (∃ (d : DomId) (s : State), s.held = false ∧ s.doms[d].phase = .ask ∧ s.doms[d].st ≠ .entering) ∧
    (∃ (d : DomId) (s : State) (r b : Nat), s.Canonical ∧ s.held = false ∧ s.doms[d].phase = .ask ∧ s.doms[d].st ≠
      .entering ∧ s.doms[d].delay = some (r, b)) ∧
    (∃ (d : DomId) (s : State), s.held = false ∧ s.doms[d].phase = .save) ∧
    (∃ (d : DomId) (s : State), s.held = false ∧ s.doms[d].phase = .gate ∧ s.doms[d].thenOn = false) ∧
    (∃ (d : DomId) (s : State), s.Canonical ∧ s.held = false ∧ s.doms[d].st = .exiting ∧ s.doms[d].failed = false ∧ (∀
      x ∈ needs d, s.domOn x = true) ∧ s.doms[d].hasSaved = true ∧ d ≠ domMC) ∧
    (∃ (d : DomId) (s : State), s.held = false ∧ s.doms[d].failed = true) ∧
    (∃ (d : DomId) (s : State), s.held = false ∧ s.doms[d].st = .exiting ∧ s.doms[d].failed = false ∧ (∀ x ∈ needs d,
      s.domOn x = true) ∧ d ≠ domMC ∧ d ≠ domTIME ∧ d.val < 8) ∧
    (∃ (d : DomId) (s : State), s.held = false ∧ s.doms[d].st = .exiting ∧ (∃ x ∈ needs d, s.domOn x = false)) ∧
    (∃ (d : DomId) (s : State) (k : PodId), s.held = false ∧ s.doms[d].st = .exiting ∧ s.doms[d].failed = false ∧ d =
      podDom k) ∧
    (∃ (d : DomId) (s : State), s.Canonical ∧ s.held = false ∧ s.doms[d].st = .exiting ∧ s.doms[d].failed = false ∧ d
      = domMC ∧ s.doms[d].held = true) ∧
    (∃ (d : DomId) (s : State), s.Canonical ∧ s.held = false ∧ s.doms[d].st = .exiting ∧ s.doms[d].failed = false ∧ d
      = domMC ∧ s.doms[d].held = false ∧ s.store.straps.getLsbD 4 = false ∧ (s.store.img = .trial ∨ s.store.img =
      .confirmed)) ∧
    (∃ (d : DomId) (s : State), s.Canonical ∧ s.held = false ∧ s.doms[d].st = .exiting ∧ s.doms[d].failed = false ∧ d
      = domTIME) ∧
    (∃ (s : State), s.Canonical ∧ s.held = false ∧ (s.doms[domMC].st = .ret ∨ s.doms[domMC].st = .off ∨
      s.doms[domMC].st = .exiting) ∧ s.doms[domMC].phase = .none ∧ s.reg (at_ 3 0x280) = 0) ∧
    (∃ (p : PortId) (s : State), s.Canonical ∧ s.held = false ∧ ((s.ports[p].st = .suspended ∧ s.ports[p].line ≠ .j) ∨
      (s.ports[p].st = .disconnected ∧ s.ports[p].conn = false ∧ s.ports[p].line ≠ .se0) ∨ (s.ports[p].st =
      .disconnected ∧ s.ports[p].conn = true ∧ s.ports[p].line = .se0)) ∧ s.doms[podDom (podOf p)].st = .ret ∧
      s.doms[podDom (podOf p)].phase = .none) ∧
    (∃ (p : PortId) (s : State), ((s.ports[p].st ≠ .suspended ∧ s.ports[p].st ≠ .disconnected) ∨ (s.ports[p].st =
      .suspended ∧ s.ports[p].line = .j) ∨ (s.ports[p].st = .disconnected ∧ s.ports[p].conn = false ∧ s.ports[p].line
      = .se0) ∨ (s.ports[p].st = .disconnected ∧ s.ports[p].conn = true ∧ s.ports[p].line ≠ .se0))) :=
  ⟨⟨.bar0, 0, 3, up, takes_of _ _ _ _ (by decide +kernel), canonical_of _ (by decide +kernel), by decide +kernel⟩,
   ⟨.bar0, 0, 0, up, takes_of _ _ _ _ (by decide +kernel), canonical_of _ (by decide +kernel), by decide +kernel⟩,
   ⟨.bar0, 0, 1, up, takes_of _ _ _ _ (by decide +kernel), canonical_of _ (by decide +kernel), by decide +kernel⟩,
   ⟨.bar0, 1, 1, up, takes_of _ _ _ _ (by decide +kernel), canonical_of _ (by decide +kernel), by decide +kernel⟩,
   ⟨.smbus, 1, 0, up.modDom 1 (fun x => { x with st := .ret }), takes_of _ _ _ _ (by decide +kernel), canonical_of _
     (by decide +kernel), by decide +kernel⟩,
   ⟨0, up.modDom 0 (fun x => { x with phase := .ask }), by decide +kernel⟩,
   ⟨0, up.modDom 0 (fun x => { x with phase := .ask, delay := some (1, 2) }), 1, 2, canonical_of _ (by
     decide +kernel), by decide +kernel⟩,
   ⟨0, up.modDom 0 (fun x => { x with phase := .save }), by decide +kernel⟩,
   ⟨0, up.modDom 0 (fun x => { x with phase := .gate }), by decide +kernel⟩,
   ⟨0, up.modDom 0 (fun x => { x with st := .exiting, hasSaved := true }), canonical_of _ (by decide +kernel), by
     decide +kernel⟩,
   ⟨0, up.modDom 0 (fun x => { x with failed := true }), by decide +kernel⟩,
   ⟨0, up.modDom 0 (fun x => { x with st := .exiting }), by decide +kernel⟩,
   ⟨domDM, (up.modDom domDM (fun x => { x with st := .exiting })).modDom domHOST (fun x => { x with st := .off }), by
     decide +kernel⟩,
   ⟨8, up.modDom 8 (fun x => { x with st := .exiting }), 0, by decide +kernel⟩,
   ⟨5, up.modDom 5 (fun x => { x with st := .exiting, held := true }), canonical_of _ (by decide +kernel), by
     decide +kernel⟩,
   ⟨5, (up.modStore (fun x => { x with boot := [⟨.trial, true⟩] })).modDom 5 (fun x => { x with st := .exiting }),
     canonical_of _ (by decide +kernel), by decide +kernel⟩,
   ⟨4, up.modDom 4 (fun x => { x with st := .exiting }), canonical_of _ (by decide +kernel), by decide +kernel⟩,
   ⟨up.modDom 5 (fun x => { x with st := .ret }), canonical_of _ (by decide +kernel), by decide +kernel⟩,
   ⟨0, (up.modPort 0 (fun x => { x with st := .suspended })).modDom 8 (fun x => { x with st := .ret }), canonical_of _
     (by decide +kernel), by decide +kernel⟩,
   ⟨0, up, by decide +kernel⟩⟩

/-- The hypotheses of FirmwareUpdates can be met, clause by clause. -/
theorem test_firmware_updates_applies :
    (∃ (c : Instr) (op : Nat) (src : Source) (tag : BitVec 16) (ok : Bool) (o : BeginOutcome) (f : ConfirmOutcome) (s
      : State), s.Takes src 4 0x100 ∧ s.Canonical ∧ (c = .updBegin src tag o ∧ op = 1 ∨ c = .updChunk src tag ok ∧ op
      = 2 ∨ c = .updVerify src tag ∧ op = 3 ∨ c = .updActivate src ⟨tag, ok⟩ ∧ op = 4 ∨ c = .updConfirm src tag f ∧ op
      = 5 ∨ c = .updAbort src tag ∧ op = 6) ∧ s.fw.served = true ∧ s.fw.cmd ≠ none) ∧
    (∃ (c : Instr) (op : Nat) (src : Source) (tag : BitVec 16) (ok : Bool) (o : BeginOutcome) (f : ConfirmOutcome) (s
      : State), s.Takes src 4 0x100 ∧ s.Canonical ∧ (c = .updBegin src tag o ∧ op = 1 ∨ c = .updChunk src tag ok ∧ op
      = 2 ∨ c = .updVerify src tag ∧ op = 3 ∨ c = .updActivate src ⟨tag, ok⟩ ∧ op = 4 ∨ c = .updConfirm src tag f ∧ op
      = 5 ∨ c = .updAbort src tag ∧ op = 6) ∧ s.fw.served = true ∧ s.fw.cmd = none ∧ s.fw.upd ≠ .idle ∧ s.fw.updSmbus
      ≠ isSmbus src) ∧
    (∃ (c : Instr) (op : Nat) (src : Source) (tag : BitVec 16) (ok : Bool) (o : BeginOutcome) (f : ConfirmOutcome) (s
      : State), s.Takes src 4 0x100 ∧ s.Canonical ∧ (c = .updBegin src tag o ∧ op = 1 ∨ c = .updChunk src tag ok ∧ op
      = 2 ∨ c = .updVerify src tag ∧ op = 3 ∨ c = .updActivate src ⟨tag, ok⟩ ∧ op = 4 ∨ c = .updConfirm src tag f ∧ op
      = 5 ∨ c = .updAbort src tag ∧ op = 6) ∧ s.fw.served = true ∧ s.fw.cmd = none ∧ (s.fw.upd = .idle ∨ s.fw.updSmbus
      = isSmbus src) ∧ op = 1 ∧ s.fw.upd ≠ .activating ∧ 3 ≤ s.arg0 ∧ s.arg0 ≤ 577 ∧ o.entry = true ∧ o.erase = true)
      ∧
    (∃ (c : Instr) (op : Nat) (src : Source) (tag : BitVec 16) (ok : Bool) (o : BeginOutcome) (f : ConfirmOutcome) (s
      : State), s.Takes src 4 0x100 ∧ s.Canonical ∧ (c = .updBegin src tag o ∧ op = 1 ∨ c = .updChunk src tag ok ∧ op
      = 2 ∨ c = .updVerify src tag ∧ op = 3 ∨ c = .updActivate src ⟨tag, ok⟩ ∧ op = 4 ∨ c = .updConfirm src tag f ∧ op
      = 5 ∨ c = .updAbort src tag ∧ op = 6) ∧ s.fw.served = true ∧ s.fw.cmd = none ∧ (s.fw.upd = .idle ∨ s.fw.updSmbus
      = isSmbus src) ∧ op = 1 ∧ s.fw.upd ≠ .activating ∧ 3 ≤ s.arg0 ∧ s.arg0 ≤ 577 ∧ o.entry = true ∧ o.erase = false)
      ∧
    (∃ (c : Instr) (op : Nat) (src : Source) (tag : BitVec 16) (ok : Bool) (o : BeginOutcome) (f : ConfirmOutcome) (s
      : State), s.Takes src 4 0x100 ∧ s.Canonical ∧ (c = .updBegin src tag o ∧ op = 1 ∨ c = .updChunk src tag ok ∧ op
      = 2 ∨ c = .updVerify src tag ∧ op = 3 ∨ c = .updActivate src ⟨tag, ok⟩ ∧ op = 4 ∨ c = .updConfirm src tag f ∧ op
      = 5 ∨ c = .updAbort src tag ∧ op = 6) ∧ s.fw.served = true ∧ s.fw.cmd = none ∧ (s.fw.upd = .idle ∨ s.fw.updSmbus
      = isSmbus src) ∧ op = 1 ∧ s.fw.upd ≠ .activating ∧ 3 ≤ s.arg0 ∧ s.arg0 ≤ 577 ∧ o.entry = false) ∧
    (∃ (c : Instr) (op : Nat) (src : Source) (tag : BitVec 16) (ok : Bool) (o : BeginOutcome) (f : ConfirmOutcome) (s
      : State), s.Takes src 4 0x100 ∧ s.Canonical ∧ (c = .updBegin src tag o ∧ op = 1 ∨ c = .updChunk src tag ok ∧ op
      = 2 ∨ c = .updVerify src tag ∧ op = 3 ∨ c = .updActivate src ⟨tag, ok⟩ ∧ op = 4 ∨ c = .updConfirm src tag f ∧ op
      = 5 ∨ c = .updAbort src tag ∧ op = 6) ∧ s.fw.served = true ∧ s.fw.cmd = none ∧ (s.fw.upd = .idle ∨ s.fw.updSmbus
      = isSmbus src) ∧ op = 1 ∧ s.fw.upd ≠ .activating ∧ (s.arg0 < 3 ∨ 577 < s.arg0)) ∧
    (∃ (c : Instr) (op : Nat) (src : Source) (tag : BitVec 16) (ok : Bool) (o : BeginOutcome) (f : ConfirmOutcome) (s
      : State), s.Takes src 4 0x100 ∧ s.Canonical ∧ (c = .updBegin src tag o ∧ op = 1 ∨ c = .updChunk src tag ok ∧ op
      = 2 ∨ c = .updVerify src tag ∧ op = 3 ∨ c = .updActivate src ⟨tag, ok⟩ ∧ op = 4 ∨ c = .updConfirm src tag f ∧ op
      = 5 ∨ c = .updAbort src tag ∧ op = 6) ∧ s.fw.served = true ∧ s.fw.cmd = none ∧ (s.fw.upd = .idle ∨ s.fw.updSmbus
      = isSmbus src) ∧ op = 2 ∧ s.fw.upd = .receiving ∧ s.fw.ptr = 4096 ∧ s.arg0 < 577 ∧ s.arg0 < s.fw.expected ∧
      s.arg0 ∉ s.fw.chunks ∧ ok = true) ∧
    (∃ (c : Instr) (op : Nat) (src : Source) (tag : BitVec 16) (ok : Bool) (o : BeginOutcome) (f : ConfirmOutcome) (s
      : State), s.Takes src 4 0x100 ∧ s.Canonical ∧ (c = .updBegin src tag o ∧ op = 1 ∨ c = .updChunk src tag ok ∧ op
      = 2 ∨ c = .updVerify src tag ∧ op = 3 ∨ c = .updActivate src ⟨tag, ok⟩ ∧ op = 4 ∨ c = .updConfirm src tag f ∧ op
      = 5 ∨ c = .updAbort src tag ∧ op = 6) ∧ s.fw.served = true ∧ s.fw.cmd = none ∧ (s.fw.upd = .idle ∨ s.fw.updSmbus
      = isSmbus src) ∧ op = 2 ∧ s.fw.upd = .receiving ∧ s.fw.ptr = 4096 ∧ s.arg0 < 577 ∧ s.arg0 < s.fw.expected ∧
      s.arg0 ∉ s.fw.chunks ∧ ok = false) ∧
    (∃ (c : Instr) (op : Nat) (src : Source) (tag : BitVec 16) (ok : Bool) (o : BeginOutcome) (f : ConfirmOutcome) (s
      : State), s.Takes src 4 0x100 ∧ s.Canonical ∧ (c = .updBegin src tag o ∧ op = 1 ∨ c = .updChunk src tag ok ∧ op
      = 2 ∨ c = .updVerify src tag ∧ op = 3 ∨ c = .updActivate src ⟨tag, ok⟩ ∧ op = 4 ∨ c = .updConfirm src tag f ∧ op
      = 5 ∨ c = .updAbort src tag ∧ op = 6) ∧ s.fw.served = true ∧ s.fw.cmd = none ∧ (s.fw.upd = .idle ∨ s.fw.updSmbus
      = isSmbus src) ∧ op = 3 ∧ s.fw.upd = .receiving ∧ s.fw.expected ≤ s.fw.chunks.length) ∧
    (∃ (c : Instr) (op : Nat) (src : Source) (tag : BitVec 16) (ok : Bool) (o : BeginOutcome) (f : ConfirmOutcome) (s
      : State), s.Takes src 4 0x100 ∧ s.Canonical ∧ (c = .updBegin src tag o ∧ op = 1 ∨ c = .updChunk src tag ok ∧ op
      = 2 ∨ c = .updVerify src tag ∧ op = 3 ∨ c = .updActivate src ⟨tag, ok⟩ ∧ op = 4 ∨ c = .updConfirm src tag f ∧ op
      = 5 ∨ c = .updAbort src tag ∧ op = 6) ∧ s.fw.served = true ∧ s.fw.cmd = none ∧ (s.fw.upd = .idle ∨ s.fw.updSmbus
      = isSmbus src) ∧ op = 3 ∧ s.fw.upd = .receiving ∧ s.fw.chunks.length < s.fw.expected) ∧
    (∃ (c : Instr) (op : Nat) (src : Source) (tag : BitVec 16) (ok : Bool) (o : BeginOutcome) (f : ConfirmOutcome) (s
      : State), s.Takes src 4 0x100 ∧ s.Canonical ∧ (c = .updBegin src tag o ∧ op = 1 ∨ c = .updChunk src tag ok ∧ op
      = 2 ∨ c = .updVerify src tag ∧ op = 3 ∨ c = .updActivate src ⟨tag, ok⟩ ∧ op = 4 ∨ c = .updConfirm src tag f ∧ op
      = 5 ∨ c = .updAbort src tag ∧ op = 6) ∧ s.fw.served = true ∧ s.fw.cmd = none ∧ (s.fw.upd = .idle ∨ s.fw.updSmbus
      = isSmbus src) ∧ op = 4 ∧ s.fw.upd = .verified) ∧
    (∃ (c : Instr) (op : Nat) (src : Source) (tag : BitVec 16) (ok : Bool) (o : BeginOutcome) (f : ConfirmOutcome) (s
      : State), s.Takes src 4 0x100 ∧ s.Canonical ∧ (c = .updBegin src tag o ∧ op = 1 ∨ c = .updChunk src tag ok ∧ op
      = 2 ∨ c = .updVerify src tag ∧ op = 3 ∨ c = .updActivate src ⟨tag, ok⟩ ∧ op = 4 ∨ c = .updConfirm src tag f ∧ op
      = 5 ∨ c = .updAbort src tag ∧ op = 6) ∧ s.fw.served = true ∧ s.fw.cmd = none ∧ (s.fw.upd = .idle ∨ s.fw.updSmbus
      = isSmbus src) ∧ op = 5 ∧ s.fw.upd = .idle ∧ s.store.img = .trial ∧ f.start = true ∧ (f.burn = true ∨
      s.store.imgSvn ≤ s.store.secCount)) ∧
    (∃ (c : Instr) (op : Nat) (src : Source) (tag : BitVec 16) (ok : Bool) (o : BeginOutcome) (f : ConfirmOutcome) (s
      : State), s.Takes src 4 0x100 ∧ s.Canonical ∧ (c = .updBegin src tag o ∧ op = 1 ∨ c = .updChunk src tag ok ∧ op
      = 2 ∨ c = .updVerify src tag ∧ op = 3 ∨ c = .updActivate src ⟨tag, ok⟩ ∧ op = 4 ∨ c = .updConfirm src tag f ∧ op
      = 5 ∨ c = .updAbort src tag ∧ op = 6) ∧ s.fw.served = true ∧ s.fw.cmd = none ∧ (s.fw.upd = .idle ∨ s.fw.updSmbus
      = isSmbus src) ∧ op = 5 ∧ s.fw.upd = .idle ∧ s.store.img = .trial ∧ f.start = true ∧ f.burn = false ∧
      s.store.secCount < s.store.imgSvn) ∧
    (∃ (c : Instr) (op : Nat) (src : Source) (tag : BitVec 16) (ok : Bool) (o : BeginOutcome) (f : ConfirmOutcome) (s
      : State), s.Takes src 4 0x100 ∧ s.Canonical ∧ (c = .updBegin src tag o ∧ op = 1 ∨ c = .updChunk src tag ok ∧ op
      = 2 ∨ c = .updVerify src tag ∧ op = 3 ∨ c = .updActivate src ⟨tag, ok⟩ ∧ op = 4 ∨ c = .updConfirm src tag f ∧ op
      = 5 ∨ c = .updAbort src tag ∧ op = 6) ∧ s.fw.served = true ∧ s.fw.cmd = none ∧ (s.fw.upd = .idle ∨ s.fw.updSmbus
      = isSmbus src) ∧ op = 5 ∧ s.fw.upd = .idle ∧ s.store.img = .trial ∧ f.start = false) ∧
    (∃ (c : Instr) (op : Nat) (src : Source) (tag : BitVec 16) (ok : Bool) (o : BeginOutcome) (f : ConfirmOutcome) (s
      : State) (k : Nat), s.Takes src 4 0x100 ∧ s.Canonical ∧ (c = .updBegin src tag o ∧ op = 1 ∨ c = .updChunk src
      tag ok ∧ op = 2 ∨ c = .updVerify src tag ∧ op = 3 ∨ c = .updActivate src ⟨tag, ok⟩ ∧ op = 4 ∨ c = .updConfirm
      src tag f ∧ op = 5 ∨ c = .updAbort src tag ∧ op = 6) ∧ s.fw.served = true ∧ s.fw.cmd = none ∧ (s.fw.upd = .idle
      ∨ s.fw.updSmbus = isSmbus src) ∧ op = 5 ∧ s.fw.upd = .idle ∧ s.store.img = .confirmStart k ∧ f.start = true ∧
      (f.burn = true ∨ s.store.imgSvn ≤ s.store.secCount)) ∧
    (∃ (c : Instr) (op : Nat) (src : Source) (tag : BitVec 16) (ok : Bool) (o : BeginOutcome) (f : ConfirmOutcome) (s
      : State) (k : Nat), s.Takes src 4 0x100 ∧ s.Canonical ∧ (c = .updBegin src tag o ∧ op = 1 ∨ c = .updChunk src
      tag ok ∧ op = 2 ∨ c = .updVerify src tag ∧ op = 3 ∨ c = .updActivate src ⟨tag, ok⟩ ∧ op = 4 ∨ c = .updConfirm
      src tag f ∧ op = 5 ∨ c = .updAbort src tag ∧ op = 6) ∧ s.fw.served = true ∧ s.fw.cmd = none ∧ (s.fw.upd = .idle
      ∨ s.fw.updSmbus = isSmbus src) ∧ op = 5 ∧ s.fw.upd = .idle ∧ s.store.img = .confirmStart k ∧ f.start = false) ∧
    (∃ (c : Instr) (op : Nat) (src : Source) (tag : BitVec 16) (ok : Bool) (o : BeginOutcome) (f : ConfirmOutcome) (s
      : State), s.Takes src 4 0x100 ∧ s.Canonical ∧ (∀ k : Nat, s.store.img ≠ .confirmStart k) ∧ (c = .updBegin src
      tag o ∧ op = 1 ∨ c = .updChunk src tag ok ∧ op = 2 ∨ c = .updVerify src tag ∧ op = 3 ∨ c = .updActivate src
      ⟨tag, ok⟩ ∧ op = 4 ∨ c = .updConfirm src tag f ∧ op = 5 ∨ c = .updAbort src tag ∧ op = 6) ∧ s.fw.served = true ∧
      s.fw.cmd = none ∧ (s.fw.upd = .idle ∨ s.fw.updSmbus = isSmbus src) ∧ op = 5 ∧ s.fw.upd = .idle ∧ s.store.img ≠
      .trial) ∧
    (∃ (c : Instr) (op : Nat) (src : Source) (tag : BitVec 16) (ok : Bool) (o : BeginOutcome) (f : ConfirmOutcome) (s
      : State), s.Takes src 4 0x100 ∧ s.Canonical ∧ (c = .updBegin src tag o ∧ op = 1 ∨ c = .updChunk src tag ok ∧ op
      = 2 ∨ c = .updVerify src tag ∧ op = 3 ∨ c = .updActivate src ⟨tag, ok⟩ ∧ op = 4 ∨ c = .updConfirm src tag f ∧ op
      = 5 ∨ c = .updAbort src tag ∧ op = 6) ∧ s.fw.served = true ∧ s.fw.cmd = none ∧ (s.fw.upd = .idle ∨ s.fw.updSmbus
      = isSmbus src) ∧ op = 6 ∧ (s.fw.upd = .receiving ∨ s.fw.upd = .verified)) ∧
    (∃ (c : Instr) (op : Nat) (src : Source) (tag : BitVec 16) (ok : Bool) (o : BeginOutcome) (f : ConfirmOutcome) (s
      : State), s.Takes src 4 0x100 ∧ s.Canonical ∧ (c = .updBegin src tag o ∧ op = 1 ∨ c = .updChunk src tag ok ∧ op
      = 2 ∨ c = .updVerify src tag ∧ op = 3 ∨ c = .updActivate src ⟨tag, ok⟩ ∧ op = 4 ∨ c = .updConfirm src tag f ∧ op
      = 5 ∨ c = .updAbort src tag ∧ op = 6) ∧ s.fw.served = true ∧ s.fw.cmd = none ∧ (s.fw.upd = .idle ∨ s.fw.updSmbus
      = isSmbus src) ∧ (op = 2 ∧ s.fw.upd ≠ .receiving ∨ op = 3 ∧ s.fw.upd ≠ .receiving ∨ op = 4 ∧ s.fw.upd ≠
      .verified)) ∧
    (∃ (n : Nat) (s : State), s.mcRuns = true ∧ s.fw.cmd = some (n, none) ∧ s.fw.upd = .activating ∧ s.fw.paused =
      false) ∧
    (∃ (s : State), s.Canonical ∧ s.mcRuns = true ∧ s.fw.paused = true ∧ s.fw.served = true ∧ s.fatal = false) ∧
    (∃ (s : State), s.Canonical ∧ s.mcRuns = true ∧ s.fw.paused = true ∧ s.fw.served = true ∧ s.fatal = true) ∧
    (∃ (s : State), s.mcRuns = true ∧ s.fw.paused = false ∧ s.fw.served = true ∧ s.fw.mc = .loader ∧ s.store.records =
      []) ∧
    (∃ (s : State), s.mcRuns = true ∧ s.fw.paused = false ∧ s.fw.served = true ∧ s.fw.mc = .loader ∧ s.fw.starts < 2)
      ∧
    (∃ (s : State), s.mcRuns = true ∧ s.fw.paused = false ∧ s.fw.served = true ∧ s.fw.mc = .loader ∧ 2 ≤ s.fw.starts ∧
      (∀ n : PortId, s.husks[n].claim = false)) ∧
    (∃ (n r : Nat) (s : State) (k : Nat), s.Canonical ∧ s.mcRuns = true ∧ s.fw.cmd = some (n, some r) ∧ s.store.img =
      .confirmStart k ∧ s.fw.confirming = true ∧ s.fld (at_ 4 0x100) 0 8 = 5 ∧ r = 0 ∧ s.fw.storeOk = true) ∧
    (∃ (n r : Nat) (s : State) (k : Nat), s.Canonical ∧ s.mcRuns = true ∧ s.fw.cmd = some (n, some r) ∧ s.store.img =
      .confirmStart k ∧ s.fw.confirming = true ∧ s.fld (at_ 4 0x100) 0 8 = 5 ∧ r = 0 ∧ s.fw.storeOk = false) ∧
    (∃ (n r : Nat) (s : State), s.Canonical ∧ ((∀ k : Nat, s.store.img ≠ .confirmStart k) ∨ s.fw.confirming = false ∨
      s.fld (at_ 4 0x100) 0 8 ≠ 5) ∧ s.mcRuns = true ∧ s.fw.cmd = some (n, some r)) :=
  ⟨⟨.updBegin (.bar0) (0) (⟨true, true⟩), 1, .bar0, 0, false, ⟨true, true⟩, ⟨true, true, true⟩, up.modFw (fun x =>
    { x with cmd := some (0, none) }), takes_of _ _ _ _ (by decide +kernel), canonical_of _ (by decide +kernel), by
    decide +kernel⟩,
   ⟨.updBegin (.smbus) (0) (⟨true, true⟩), 1, .smbus, 0, false, ⟨true, true⟩, ⟨true, true, true⟩, up.modFw (fun x =>
     { x with upd := .receiving }), takes_of _ _ _ _ (by decide +kernel), canonical_of _ (by decide +kernel), by
     decide +kernel⟩,
   ⟨.updBegin (.bar0) (0) (⟨true, true⟩), 1, .bar0, 0, false, ⟨true, true⟩, ⟨true, true, true⟩, up.setReg (at_ 0x004
     0x104) 3, takes_of _ _ _ _ (by decide +kernel), canonical_of _ (by decide +kernel), by decide +kernel⟩,
   ⟨.updBegin (.bar0) (0) (⟨true, false⟩), 1, .bar0, 0, false, ⟨true, false⟩, ⟨true, true, true⟩, up.setReg (at_ 0x004
     0x104) 3, takes_of _ _ _ _ (by decide +kernel), canonical_of _ (by decide +kernel), by decide +kernel⟩,
   ⟨.updBegin (.bar0) (0) (⟨false, true⟩), 1, .bar0, 0, false, ⟨false, true⟩, ⟨true, true, true⟩, up.setReg (at_ 0x004
     0x104) 3, takes_of _ _ _ _ (by decide +kernel), canonical_of _ (by decide +kernel), by decide +kernel⟩,
   ⟨.updBegin (.bar0) (0) (⟨true, true⟩), 1, .bar0, 0, false, ⟨true, true⟩, ⟨true, true, true⟩, up, takes_of _ _ _ _
     (by decide +kernel), canonical_of _ (by decide +kernel), by decide +kernel⟩,
   ⟨.updChunk (.bar0) (0) (true), 2, .bar0, 0, true, ⟨true, true⟩, ⟨true, true, true⟩, up.modFw (fun x =>
     { x with upd := .receiving, expected := 1, ptr := 4096 }), takes_of _ _ _ _ (by decide +kernel), canonical_of _
     (by decide +kernel), by decide +kernel⟩,
   ⟨.updChunk (.bar0) (0) (false), 2, .bar0, 0, false, ⟨true, true⟩, ⟨true, true, true⟩, up.modFw (fun x =>
     { x with upd := .receiving, expected := 1, ptr := 4096 }), takes_of _ _ _ _ (by decide +kernel), canonical_of _
     (by decide +kernel), by decide +kernel⟩,
   ⟨.updVerify (.bar0) (0), 3, .bar0, 0, false, ⟨true, true⟩, ⟨true, true, true⟩, up.modFw (fun x =>
     { x with upd := .receiving }), takes_of _ _ _ _ (by decide +kernel), canonical_of _ (by decide +kernel), by
     decide +kernel⟩,
   ⟨.updVerify (.bar0) (0), 3, .bar0, 0, false, ⟨true, true⟩, ⟨true, true, true⟩, up.modFw (fun x =>
     { x with upd := .receiving, expected := 1 }), takes_of _ _ _ _ (by decide +kernel), canonical_of _ (by
     decide +kernel), by decide +kernel⟩,
   ⟨.updActivate (.bar0) ⟨(0), (false)⟩, 4, .bar0, 0, false, ⟨true, true⟩, ⟨true, true, true⟩, up.modFw (fun x =>
     { x with upd := .verified }), takes_of _ _ _ _ (by decide +kernel), canonical_of _ (by decide +kernel), by
     decide +kernel⟩,
   ⟨.updConfirm (.bar0) (0) (⟨true, true, true⟩), 5, .bar0, 0, false, ⟨true, true⟩, ⟨true, true, true⟩, up.modStore
     (fun x => { x with boot := [⟨.trial, true⟩] }), takes_of _ _ _ _ (by decide +kernel), canonical_of _ (by
     decide +kernel), by decide +kernel⟩,
   ⟨.updConfirm .bar0 0 ⟨true, false, true⟩, 5, .bar0, 0, false, ⟨true, true⟩, ⟨true, false, true⟩, up.modStore (fun x
     => { x with boot := [⟨.trial, true⟩], slot := [(12, 1)] }), takes_of _ _ _ _ (by decide +kernel), canonical_of _
     (by decide +kernel), by decide +kernel⟩,
   ⟨.updConfirm (.bar0) (0) (⟨false, true, true⟩), 5, .bar0, 0, false, ⟨true, true⟩, ⟨false, true, true⟩, up.modStore
     (fun x => { x with boot := [⟨.trial, true⟩] }), takes_of _ _ _ _ (by decide +kernel), canonical_of _ (by
     decide +kernel), by decide +kernel⟩,
   ⟨.updConfirm (.bar0) (0) (⟨true, true, true⟩), 5, .bar0, 0, false, ⟨true, true⟩, ⟨true, true, true⟩, up.modStore
     (fun x => { x with boot := [⟨.confirmStart 0, true⟩] }), 0, takes_of _ _ _ _ (by decide +kernel), canonical_of _
     (by decide +kernel), by decide +kernel⟩,
   ⟨.updConfirm (.bar0) (0) (⟨false, true, true⟩), 5, .bar0, 0, false, ⟨true, true⟩, ⟨false, true, true⟩, up.modStore
     (fun x => { x with boot := [⟨.confirmStart 0, true⟩] }), 0, takes_of _ _ _ _ (by decide +kernel), canonical_of _
     (by decide +kernel), by decide +kernel⟩,
   ⟨.updConfirm (.bar0) (0) (⟨true, true, true⟩), 5, .bar0, 0, false, ⟨true, true⟩, ⟨true, true, true⟩, up, takes_of _
     _ _ _ (by decide +kernel), canonical_of _ (by decide +kernel), nofun, by decide +kernel⟩,
   ⟨.updAbort (.bar0) (0), 6, .bar0, 0, false, ⟨true, true⟩, ⟨true, true, true⟩, up.modFw (fun x =>
     { x with upd := .receiving }), takes_of _ _ _ _ (by decide +kernel), canonical_of _ (by decide +kernel), by
     decide +kernel⟩,
   ⟨.updChunk (.bar0) (0) (false), 2, .bar0, 0, false, ⟨true, true⟩, ⟨true, true, true⟩, up, takes_of _ _ _ _ (by
     decide +kernel), canonical_of _ (by decide +kernel), by decide +kernel⟩,
   ⟨0, up.modFw (fun x => { x with upd := .activating, cmd := some (0, none) }), by decide +kernel⟩,
   ⟨up.modFw (fun x => { x with paused := true }), canonical_of _ (by decide +kernel), by decide +kernel⟩,
   ⟨(up.modFw (fun x => { x with paused := true })).modCtl (fun x => { x with fatal := true }), canonical_of _ (by
     decide +kernel), by decide +kernel⟩,
   ⟨up.modFw (fun x => { x with mc := .loader }), by decide +kernel⟩,
   ⟨up.modFw (fun x => { x with mc := .loader }), by decide +kernel⟩,
   ⟨up.modFw (fun x => { x with mc := .loader, starts := 2 }), by decide +kernel⟩,
   ⟨0, 0, ((up.modStore (fun x => { x with boot := [⟨.confirmStart 0, true⟩] })).modFw (fun x =>
     { x with cmd := some (0, some 0), confirming := true })).setReg (at_ 0x004 0x100) 5, 0, canonical_of _ (by
     decide +kernel), by decide +kernel⟩,
   ⟨0, 0, ((up.modStore (fun x => { x with boot := [⟨.confirmStart 0, true⟩] })).modFw (fun x =>
     { x with cmd := some (0, some 0), storeOk := false, confirming := true })).setReg (at_ 0x004 0x100) 5, 0,
     canonical_of _ (by decide +kernel), by decide +kernel⟩,
   ⟨0, 0, up.modFw (fun x => { x with cmd := some (0, some 0) }), canonical_of _ (by decide +kernel), Or.inl nofun, by
     decide +kernel⟩⟩

/-- The hypotheses of SettingsStore can be met, clause by clause. -/
theorem test_settings_store_applies :
    (∃ (c : Instr) (op : Nat) (src : Source) (tag : BitVec 16) (st : StoreOutcome) (s : State), s.Takes src 4 0x100 ∧
      s.Canonical ∧ (c = .setWrite src tag st ∧ op = 0x10 ∨ c = .setDelete src tag st ∧ op = 0x11 ∨ c = .setRead src
      tag ∧ op = 0x12 ∨ c = .setFormat src tag st ∧ op = 0x13 ∨ c = .setApply src tag ∧ op = 0x14) ∧ s.fw.served =
      true ∧ s.fw.cmd = none ∧ s.fw.mc = .acornOnly) ∧
    (∃ (c : Instr) (op : Nat) (src : Source) (tag : BitVec 16) (st : StoreOutcome) (s : State), s.Takes src 4 0x100 ∧
      s.Canonical ∧ (c = .setWrite src tag st ∧ op = 0x10 ∨ c = .setDelete src tag st ∧ op = 0x11 ∨ c = .setRead src
      tag ∧ op = 0x12 ∨ c = .setFormat src tag st ∧ op = 0x13 ∨ c = .setApply src tag ∧ op = 0x14) ∧ s.fw.served =
      true ∧ s.fw.cmd = none ∧ s.fw.mc ≠ .acornOnly ∧ op = 0x10 ∧ 1 ≤ s.arg0 ∧ s.arg0 ≤ 0xFFFE ∧ 8 ≤ s.fw.ptr ∧
      s.fw.ptr ≤ 512 ∧ s.fw.ptr % 8 = 0 ∧ s.store.readOnly = false ∧ s.unreadable? = none ∧ s.store.fill + 592 ≤ 65536
      ∧ (∀ r ∈ s.store.records, r.serial ≤ s.store.serial ∧ r.valid = true) ∧ st.fails = []) ∧
    (∃ (c : Instr) (op : Nat) (src : Source) (tag : BitVec 16) (st : StoreOutcome) (s : State), s.Takes src 4 0x100 ∧
      s.Canonical ∧ (c = .setWrite src tag st ∧ op = 0x10 ∨ c = .setDelete src tag st ∧ op = 0x11 ∨ c = .setRead src
      tag ∧ op = 0x12 ∨ c = .setFormat src tag st ∧ op = 0x13 ∨ c = .setApply src tag ∧ op = 0x14) ∧ s.fw.served =
      true ∧ s.fw.cmd = none ∧ s.fw.mc ≠ .acornOnly ∧ op = 0x10 ∧ 1 ≤ s.arg0 ∧ s.arg0 ≤ 0xFFFE ∧ 8 ≤ s.fw.ptr ∧
      s.fw.ptr ≤ 512 ∧ s.fw.ptr % 8 = 0 ∧ s.store.readOnly = false ∧ s.unreadable? = none ∧ s.store.fill + 592 ≤ 65536
      ∧ (∀ r ∈ s.store.records, r.serial ≤ s.store.serial ∧ r.valid = true) ∧ st.fails.map Fin.val = [s.store.active]
      ∧ s.store.spares ≠ 0) ∧
    (∃ (c : Instr) (op : Nat) (src : Source) (tag : BitVec 16) (st : StoreOutcome) (s : State), s.Takes src 4 0x100 ∧
      s.Canonical ∧ (c = .setWrite src tag st ∧ op = 0x10 ∨ c = .setDelete src tag st ∧ op = 0x11 ∨ c = .setRead src
      tag ∧ op = 0x12 ∨ c = .setFormat src tag st ∧ op = 0x13 ∨ c = .setApply src tag ∧ op = 0x14) ∧ s.fw.served =
      true ∧ s.fw.cmd = none ∧ s.fw.mc ≠ .acornOnly ∧ op = 0x10 ∧ 1 ≤ s.arg0 ∧ s.arg0 ≤ 0xFFFE ∧ 8 ≤ s.fw.ptr ∧
      s.fw.ptr ≤ 512 ∧ s.fw.ptr % 8 = 0 ∧ s.store.readOnly = false ∧ s.unreadable? = none ∧ s.store.fill + 592 ≤ 65536
      ∧ (∀ r ∈ s.store.records, r.serial ≤ s.store.serial ∧ r.valid = true) ∧ st.fails.map Fin.val = [s.store.active]
      ∧ s.store.spares = 0) ∧
    (∃ (c : Instr) (op : Nat) (src : Source) (tag : BitVec 16) (st : StoreOutcome) (s : State), s.Takes src 4 0x100 ∧
      s.Canonical ∧ (c = .setWrite src tag st ∧ op = 0x10 ∨ c = .setDelete src tag st ∧ op = 0x11 ∨ c = .setRead src
      tag ∧ op = 0x12 ∨ c = .setFormat src tag st ∧ op = 0x13 ∨ c = .setApply src tag ∧ op = 0x14) ∧ s.fw.served =
      true ∧ s.fw.cmd = none ∧ s.fw.mc ≠ .acornOnly ∧ (op = 0x10 ∧ 1 ≤ s.arg0 ∧ s.arg0 ≤ 0xFFFE ∧ 8 ≤ s.fw.ptr ∧
      s.fw.ptr ≤ 512 ∧ s.fw.ptr % 8 = 0 ∨ op = 0x11) ∧ s.store.readOnly = false ∧ s.unreadable? ≠ none) ∧
    (∃ (c : Instr) (op : Nat) (src : Source) (tag : BitVec 16) (st : StoreOutcome) (s : State), s.Takes src 4 0x100 ∧
      s.Canonical ∧ (c = .setWrite src tag st ∧ op = 0x10 ∨ c = .setDelete src tag st ∧ op = 0x11 ∨ c = .setRead src
      tag ∧ op = 0x12 ∨ c = .setFormat src tag st ∧ op = 0x13 ∨ c = .setApply src tag ∧ op = 0x14) ∧ s.fw.served =
      true ∧ s.fw.cmd = none ∧ s.fw.mc ≠ .acornOnly ∧ op = 0x10 ∧ (s.arg0 < 1 ∨ 0xFFFE < s.arg0 ∨ s.fw.ptr < 8 ∨ 512 <
      s.fw.ptr ∨ s.fw.ptr % 8 ≠ 0)) ∧
    (∃ (c : Instr) (op : Nat) (src : Source) (tag : BitVec 16) (st : StoreOutcome) (s : State), s.Takes src 4 0x100 ∧
      s.Canonical ∧ (c = .setWrite src tag st ∧ op = 0x10 ∨ c = .setDelete src tag st ∧ op = 0x11 ∨ c = .setRead src
      tag ∧ op = 0x12 ∨ c = .setFormat src tag st ∧ op = 0x13 ∨ c = .setApply src tag ∧ op = 0x14) ∧ s.fw.served =
      true ∧ s.fw.cmd = none ∧ s.fw.mc ≠ .acornOnly ∧ op = 0x11 ∧ s.store.readOnly = false ∧ s.unreadable? = none ∧
      liveOf s.store.records s.arg0 = none) ∧
    (∃ (c : Instr) (op : Nat) (src : Source) (tag : BitVec 16) (st : StoreOutcome) (s : State), s.Takes src 4 0x100 ∧
      s.Canonical ∧ (c = .setWrite src tag st ∧ op = 0x10 ∨ c = .setDelete src tag st ∧ op = 0x11 ∨ c = .setRead src
      tag ∧ op = 0x12 ∨ c = .setFormat src tag st ∧ op = 0x13 ∨ c = .setApply src tag ∧ op = 0x14) ∧ s.fw.served =
      true ∧ s.fw.cmd = none ∧ s.fw.mc ≠ .acornOnly ∧ op = 0x11 ∧ s.store.readOnly = false ∧ s.unreadable? = none ∧
      liveOf s.store.records s.arg0 ≠ none ∧ st.fails = [] ∧ s.store.fill + 592 ≤ 65536 ∧ (∀ r ∈ s.store.records,
      r.serial ≤ s.store.serial ∧ r.valid = true)) ∧
    (∃ (c : Instr) (op : Nat) (src : Source) (tag : BitVec 16) (st : StoreOutcome) (s : State) (r : SetRec), s.Takes
      src 4 0x100 ∧ s.Canonical ∧ (c = .setWrite src tag st ∧ op = 0x10 ∨ c = .setDelete src tag st ∧ op = 0x11 ∨ c =
      .setRead src tag ∧ op = 0x12 ∨ c = .setFormat src tag st ∧ op = 0x13 ∨ c = .setApply src tag ∧ op = 0x14) ∧
      s.fw.served = true ∧ s.fw.cmd = none ∧ s.fw.mc ≠ .acornOnly ∧ op = 0x12 ∧ liveOf s.store.records s.arg0 = some
      r) ∧
    (∃ (c : Instr) (op : Nat) (src : Source) (tag : BitVec 16) (st : StoreOutcome) (s : State), s.Takes src 4 0x100 ∧
      s.Canonical ∧ (c = .setWrite src tag st ∧ op = 0x10 ∨ c = .setDelete src tag st ∧ op = 0x11 ∨ c = .setRead src
      tag ∧ op = 0x12 ∨ c = .setFormat src tag st ∧ op = 0x13 ∨ c = .setApply src tag ∧ op = 0x14) ∧ s.fw.served =
      true ∧ s.fw.cmd = none ∧ s.fw.mc ≠ .acornOnly ∧ op = 0x12 ∧ liveOf s.store.records s.arg0 = none) ∧
    (∃ (c : Instr) (op : Nat) (src : Source) (tag : BitVec 16) (st : StoreOutcome) (s : State), s.Takes src 4 0x100 ∧
      s.Canonical ∧ (c = .setWrite src tag st ∧ op = 0x10 ∨ c = .setDelete src tag st ∧ op = 0x11 ∨ c = .setRead src
      tag ∧ op = 0x12 ∨ c = .setFormat src tag st ∧ op = 0x13 ∨ c = .setApply src tag ∧ op = 0x14) ∧ s.fw.served =
      true ∧ s.fw.cmd = none ∧ s.fw.mc ≠ .acornOnly ∧ op = 0x13 ∧ s.arg0 = 0xF0F0 ∧ s.store.readOnly = false ∧
      st.fails = []) ∧
    (∃ (c : Instr) (op : Nat) (src : Source) (tag : BitVec 16) (st : StoreOutcome) (s : State), s.Takes src 4 0x100 ∧
      s.Canonical ∧ (c = .setWrite src tag st ∧ op = 0x10 ∨ c = .setDelete src tag st ∧ op = 0x11 ∨ c = .setRead src
      tag ∧ op = 0x12 ∨ c = .setFormat src tag st ∧ op = 0x13 ∨ c = .setApply src tag ∧ op = 0x14) ∧ s.fw.served =
      true ∧ s.fw.cmd = none ∧ s.fw.mc ≠ .acornOnly ∧ op = 0x13 ∧ s.arg0 ≠ 0xF0F0) ∧
    (∃ (c : Instr) (op : Nat) (src : Source) (tag : BitVec 16) (st : StoreOutcome) (s : State), s.Takes src 4 0x100 ∧
      s.Canonical ∧ (c = .setWrite src tag st ∧ op = 0x10 ∨ c = .setDelete src tag st ∧ op = 0x11 ∨ c = .setRead src
      tag ∧ op = 0x12 ∨ c = .setFormat src tag st ∧ op = 0x13 ∨ c = .setApply src tag ∧ op = 0x14) ∧ s.fw.served =
      true ∧ s.fw.cmd = none ∧ s.fw.mc ≠ .acornOnly ∧ ((op = 0x10 ∧ 1 ≤ s.arg0 ∧ s.arg0 ≤ 0xFFFE ∧ 8 ≤ s.fw.ptr ∧
      s.fw.ptr ≤ 512 ∧ s.fw.ptr % 8 = 0) ∨ op = 0x11 ∨ (op = 0x13 ∧ s.arg0 = 0xF0F0)) ∧ s.store.readOnly = true) ∧
    (∃ (c : Instr) (op : Nat) (src : Source) (tag : BitVec 16) (st : StoreOutcome) (s : State) (r : SetRec), s.Takes
      src 4 0x100 ∧ s.Canonical ∧ (c = .setWrite src tag st ∧ op = 0x10 ∨ c = .setDelete src tag st ∧ op = 0x11 ∨ c =
      .setRead src tag ∧ op = 0x12 ∨ c = .setFormat src tag st ∧ op = 0x13 ∨ c = .setApply src tag ∧ op = 0x14) ∧
      s.fw.served = true ∧ s.fw.cmd = none ∧ s.fw.mc ≠ .acornOnly ∧ op = 0x14 ∧ s.unreadable? = some r) ∧
    (∃ (c : Instr) (op : Nat) (src : Source) (tag : BitVec 16) (st : StoreOutcome) (s : State), s.Takes src 4 0x100 ∧
      s.Canonical ∧ (c = .setWrite src tag st ∧ op = 0x10 ∨ c = .setDelete src tag st ∧ op = 0x11 ∨ c = .setRead src
      tag ∧ op = 0x12 ∨ c = .setFormat src tag st ∧ op = 0x13 ∨ c = .setApply src tag ∧ op = 0x14) ∧ s.fw.served =
      true ∧ s.fw.cmd = none ∧ s.fw.mc ≠ .acornOnly ∧ op = 0x14 ∧ s.store.records = []) ∧
    (∃ (c : Instr) (src : Source) (tag : BitVec 16) (s : State) (r : SetRec) (a v : Word), (c = .setApply src tag ∧
      s.Takes src 4 0x100 ∧ s.fw.cmd = none ∧ s.fw.mc ≠ .acornOnly ∨ c = .imyonReady ∧ s.fw.paused = false ∧ s.fw.mc =
      .loader) ∧ s.Canonical ∧ s.fw.served = true ∧ s.mcRuns = true ∧ s.held = false ∧ s.unreadable? = none ∧
      liveRecords s.store.records = [r] ∧ r.payload = [(a, v)] ∧ a.toNat < 2 ^ 21 ∧ mcMay (a.toNat / 4096) (a.toNat %
      4096) = false) ∧
    (∃ (c : Instr) (src : Source) (tag : BitVec 16) (s : State) (r : SetRec) (a v : Word) (n : PortId), (c = .setApply
      src tag ∧ s.Takes src 4 0x100 ∧ s.fw.cmd = none ∧ s.fw.mc ≠ .acornOnly ∨ c = .imyonReady ∧ s.fw.paused = false ∧
      s.fw.mc = .loader) ∧ s.Canonical ∧ s.Takes .mc (huskPage n) 0x100 ∧ s.fw.served = true ∧ s.mcRuns = true ∧
      s.held = false ∧ s.unreadable? = none ∧ liveRecords s.store.records = [r] ∧ r.payload = [(a, v)] ∧ a.toNat = at_
      (huskPage n) 0x100 ∧ s.linkDown (regionOf n) = false ∧ 210 < bits v.toNat 0 8) ∧
    (∃ (c : Instr) (src : Source) (tag : BitVec 16) (s : State) (p : PortId) (r1 r2 : SetRec) (a v1 v2 w : Word), (c =
      .setApply src tag ∧ s.Takes src 4 0x100 ∧ s.fw.cmd = none ∧ s.fw.mc ≠ .acornOnly ∨ c = .imyonReady ∧ s.fw.paused
      = false ∧ s.fw.mc = .loader) ∧ s.Canonical ∧ s.Takes .mc (portPage p) 0x114 ∧ s.fw.served = true ∧ s.mcRuns =
      true ∧ s.held = false ∧ s.unreadable? = none ∧ s.store.records = [r2, r1] ∧ r1.valid = true ∧ r2.valid = true ∧
      r1.key < r2.key ∧ r1.payload = [(a, w), (a, v1)] ∧ r2.payload = [(a, v2)] ∧ a.toNat = at_ (portPage p) 0x114) ∧
    (∃ (c : Instr) (src : Source) (tag : BitVec 16) (s : State) (p : PortId) (r : SetRec) (a v w : Word), (c =
      .setApply src tag ∧ s.Takes src 4 0x100 ∧ s.fw.cmd = none ∧ s.fw.mc ≠ .acornOnly ∨ c = .imyonReady ∧ s.fw.paused
      = false ∧ s.fw.mc = .loader) ∧ s.Canonical ∧ s.Takes .mc (portPage p) 0x114 ∧ s.fw.served = true ∧ s.mcRuns =
      true ∧ s.held = false ∧ s.unreadable? = none ∧ s.store.records = [r] ∧ r.valid = true ∧ r.payload = [(a, w), (a,
      v)] ∧ a.toNat = at_ (portPage p) 0x114) ∧
    (∃ (r : SetRec) (s : State), s.Canonical ∧ s.mcRuns = true ∧ s.held = false ∧ s.fw.served = true ∧ s.fw.paused =
      false ∧ s.fw.mc = .loader ∧ s.unreadable? = some r) ∧
    (∃ (src : Source) (s : State), s.Takes src 4 0x110 ∧ s.Canonical ∧ s.fw.ptr < 4096) ∧
    (∃ (src : Source) (s : State), s.Takes src 4 0x110 ∧ s.Canonical ∧ 4096 ≤ s.fw.ptr) :=
  ⟨⟨.setWrite (.bar0) (0) (⟨[]⟩), 16, .bar0, 0, ⟨[]⟩, up.modFw (fun x => { x with mc := .acornOnly }), takes_of _ _ _ _
    (by decide +kernel), canonical_of _ (by decide +kernel), by decide +kernel⟩,
   ⟨.setWrite (.bar0) (0) (⟨[]⟩), 16, .bar0, 0, ⟨[]⟩, (up.modFw (fun x => { x with ptr := 8 })).setReg (at_ 0x004
     0x104) 1, takes_of _ _ _ _ (by decide +kernel), canonical_of _ (by decide +kernel), by decide +kernel⟩,
   ⟨.setWrite (.bar0) (0) (⟨[0]⟩), 16, .bar0, 0, ⟨[0]⟩, (up.modFw (fun x => { x with ptr := 8 })).setReg (at_ 0x004
     0x104) 1, takes_of _ _ _ _ (by decide +kernel), canonical_of _ (by decide +kernel), by decide +kernel⟩,
   ⟨.setWrite (.bar0) (0) (⟨[0]⟩), 16, .bar0, 0, ⟨[0]⟩, ((up.modStore (fun x => { x with spares := 0 })).modFw (fun x
     => { x with ptr := 8 })).setReg (at_ 0x004 0x104) 1, takes_of _ _ _ _ (by decide +kernel), canonical_of _ (by
     decide +kernel), by decide +kernel⟩,
   ⟨.setDelete .bar0 0 ⟨[]⟩, 0x11, .bar0, 0, ⟨[]⟩, up.modStore (fun x =>
     { x with records := [(SetRec.made 0 7 0 [(0, 0)])] }), takes_of _ _ _ _ (by decide +kernel), canonical_of _ (by
     decide +kernel), by decide +kernel⟩,
   ⟨.setWrite (.bar0) (0) (⟨[]⟩), 16, .bar0, 0, ⟨[]⟩, up, takes_of _ _ _ _ (by decide +kernel), canonical_of _ (by
     decide +kernel), by decide +kernel⟩,
   ⟨.setDelete (.bar0) (0) (⟨[]⟩), 17, .bar0, 0, ⟨[]⟩, up, takes_of _ _ _ _ (by decide +kernel), canonical_of _ (by
     decide +kernel), by decide +kernel⟩,
   ⟨.setDelete .bar0 0 ⟨[]⟩, 0x11, .bar0, 0, ⟨[]⟩, up.modStore (fun x =>
     { x with records := [(SetRec.made 0 0 0 [(0, 0)])] }), takes_of _ _ _ _ (by decide +kernel), canonical_of _ (by
     decide +kernel), by decide +kernel⟩,
   ⟨.setRead .bar0 0, 0x12, .bar0, 0, ⟨[]⟩, up.modStore (fun x =>
     { x with records := [(SetRec.made 0 0 0 [(0, 0)])] }), (SetRec.made 0 0 0 [(0, 0)]), takes_of _ _ _ _ (by
     decide +kernel), canonical_of _ (by decide +kernel), by decide +kernel⟩,
   ⟨.setRead (.bar0) (0), 18, .bar0, 0, ⟨[]⟩, up, takes_of _ _ _ _ (by decide +kernel), canonical_of _ (by
     decide +kernel), by decide +kernel⟩,
   ⟨.setFormat (.bar0) (0) (⟨[]⟩), 19, .bar0, 0, ⟨[]⟩, up.setReg (at_ 0x004 0x104) 0xF0F0, takes_of _ _ _ _ (by
     decide +kernel), canonical_of _ (by decide +kernel), by decide +kernel⟩,
   ⟨.setFormat (.bar0) (0) (⟨[]⟩), 19, .bar0, 0, ⟨[]⟩, up, takes_of _ _ _ _ (by decide +kernel), canonical_of _ (by
     decide +kernel), by decide +kernel⟩,
   ⟨.setDelete (.bar0) (0) (⟨[]⟩), 17, .bar0, 0, ⟨[]⟩, up.modStore (fun x => { x with readOnly := true }), takes_of _
     _ _ _ (by decide +kernel), canonical_of _ (by decide +kernel), by decide +kernel⟩,
   ⟨.setApply .bar0 0, 0x14, .bar0, 0, ⟨[]⟩, up.modStore (fun x =>
     { x with records := [(SetRec.made 0 7 0 [(0, 0)])] }), (SetRec.made 0 7 0 [(0, 0)]), takes_of _ _ _ _ (by
     decide +kernel), canonical_of _ (by decide +kernel), by decide +kernel⟩,
   ⟨.setApply (.bar0) (0), 20, .bar0, 0, ⟨[]⟩, up, takes_of _ _ _ _ (by decide +kernel), canonical_of _ (by
     decide +kernel), by decide +kernel⟩,
   ⟨.setApply .bar0 0, .bar0, 0, up.modStore (fun x => { x with records := [(SetRec.made 0 0 0 [(0x6104, 0)])] }),
     (SetRec.made 0 0 0 [(0x6104, 0)]), 0x6104, 0,
     Or.inl ⟨rfl, takes_of _ _ _ _ (by decide +kernel), by decide +kernel⟩, canonical_of _ (by decide +kernel), by
     decide +kernel⟩,
   ⟨.setApply .bar0 0, .bar0, 0, up.modStore (fun x => { x with records := [(SetRec.made 0 0 0 [(0xC0100, 0xFF)])] }),
     (SetRec.made 0 0 0 [(0xC0100, 0xFF)]), 0xC0100, 0xFF, 0,
     Or.inl ⟨rfl, takes_of _ _ _ _ (by decide +kernel), by decide +kernel⟩, canonical_of _ (by decide +kernel),
     takes_of _ _ _ _ (by decide +kernel), by decide +kernel⟩,
   ⟨.setApply .bar0 0, .bar0, 0, up.modStore (fun x =>
     { x with records := [(SetRec.made 1 0 0 [(0x80114, 0)]), (SetRec.made 0 0 0 [(0x80114, 2), (0x80114, 1)])] }), 0,
     (SetRec.made 0 0 0 [(0x80114, 2), (0x80114, 1)]), (SetRec.made 1 0 0 [(0x80114, 0)]), 0x80114, 1, 0, 2,
     Or.inl ⟨rfl, takes_of _ _ _ _ (by decide +kernel), by decide +kernel⟩, canonical_of _ (by decide +kernel),
     takes_of _ _ _ _ (by decide +kernel), by decide +kernel⟩,
   ⟨.setApply .bar0 0, .bar0, 0, up.modStore (fun x =>
     { x with records := [(SetRec.made 0 0 0 [(0x80114, 2), (0x80114, 1)])] }), 0, (SetRec.made 0 0 0 [(0x80114, 2),
     (0x80114, 1)]), 0x80114, 1, 2, Or.inl ⟨rfl, takes_of _ _ _ _ (by decide +kernel), by decide +kernel⟩,
     canonical_of _ (by decide +kernel), takes_of _ _ _ _ (by decide +kernel), by decide +kernel⟩,
   ⟨(SetRec.made 0 7 0 [(0, 0)]), (up.modStore (fun x => { x with records := [(SetRec.made 0 7 0 [(0, 0)])] })).modFw
     (fun x => { x with mc := .loader }), canonical_of _ (by decide +kernel), by decide +kernel⟩,
   ⟨.bar0, up, takes_of _ _ _ _ (by decide +kernel), canonical_of _ (by decide +kernel), by decide +kernel⟩,
   ⟨.bar0, up.modFw (fun x => { x with ptr := 4096 }), takes_of _ _ _ _ (by decide +kernel), canonical_of _ (by
     decide +kernel), by decide +kernel⟩⟩

end Sys2Proof.Tests
end

section
/-! Register writes through BAR0, over SMBus and by the management controller: what an access of one dword does, and
what becomes of an access of wrong size (spec/00_scope.md R11-R14, spec/15_register_map.md R394, R402). -/

namespace Sys2Proof.Machine

open Sys2Proof

/-! ### Fields -/

/-- Where a field lies in the low dword of a write's data. -/
theorem bits_setWidth (v : BitVec 64) (lo len : Nat) (h : lo + len ≤ 32) :
    bits (v.setWidth 32).toNat lo len = bits v.toNat lo len := by
  apply Nat.eq_of_testBit_eq
  intro i
  rw [testBit_bits, testBit_bits, BitVec.toNat_setWidth, Nat.testBit_mod_two_pow]
  by_cases hi : i < len
  · simp [show lo + i < 32 by omega]
  · simp [hi]

/-- Every field of a register is writable where all its bits are. -/
theorem bits_allOnes (lo len : Nat) (h : lo + len ≤ 32) : bits (2 ^ 32 - 1) lo len = 2 ^ len - 1 := by
  apply Nat.eq_of_testBit_eq
  intro i
  rw [testBit_bits, Nat.testBit_two_pow_sub_one, Nat.testBit_two_pow_sub_one]
  by_cases hi : i < len
  · simp [hi, show lo + i < 32 by omega]
  · simp [hi]

/-- The field of all 32 bits is the register. -/
theorem bits_word (w : Word) : bits w.toNat 0 32 = w.toNat := by
  rw [bits, Nat.pow_zero, Nat.div_one, Nat.mod_eq_of_lt w.isLt]

/-- A one-bit field set to 1 sets the bit and no other. -/
theorem putBits_bit (w : Word) (i : Nat) : putBits w i 1 1 = w ||| (1#32 <<< i) := by
  apply BitVec.eq_of_getLsbD_eq
  intro j hj
  have hshift : (1#32 <<< i).getLsbD j = decide (j = i) := by
    rw [BitVec.getLsbD_shiftLeft, BitVec.getLsbD_one, Bool.eq_iff_iff]
    simp only [Bool.and_eq_true, Bool.not_eq_true', decide_eq_true_eq, decide_eq_false_iff_not]
    omega
  rw [← BitVec.testBit_toNat, testBit_putBits _ _ _ _ _ hj, BitVec.getLsbD_or, hshift, BitVec.testBit_toNat]
  by_cases h : j = i
  · subst h
    simp
  · rw [if_neg (by omega)]
    simp [h]

/-- A cause set: the register with that bit, all others as they were. -/
theorem reg_cause_same (s : State) (page i : Nat) (h : s.RegsWf) :
    (s.cause page i).reg (at_ page 8) = s.reg (at_ page 8) ||| (1#32 <<< i) :=
  (reg_setReg_same s _ _ h).trans (putBits_bit _ _)

/-! ### A plain write of a register of one field -/

section PlainWrite

variable (s : State) (page o : Nat) (v : Word) (f : Fld)
variable (hf : fieldsAt page o = [f]) (hacc : f.acc = .rw) (hlen : f.lo + f.len ≤ 32)
include hf hacc hlen

/-- A legal value goes to the field (spec/00_scope.md R11). -/
theorem plainWrite_legal (hv : f.min ≤ bits v.toNat f.lo f.len ∧ bits v.toNat f.lo f.len ≤ f.max) :
    s.plainWrite page o (2 ^ 32 - 1) v = s.setFld (at_ page o) f.lo f.len (bits v.toNat f.lo f.len) := by
  simp only [State.plainWrite, hf, List.foldl_cons, List.foldl_nil, bits_allOnes _ _ hlen, ne_eq, not_true_eq_false,
    if_false, hacc, if_pos hv]

/-- An illegal value is refused with the page's CFG_BAD (spec/00_scope.md R13). -/
theorem plainWrite_illegal (hv : ¬ (f.min ≤ bits v.toNat f.lo f.len ∧ bits v.toNat f.lo f.len ≤ f.max)) :
    s.plainWrite page o (2 ^ 32 - 1) v = s.cause page (cfgBadBit page) := by
  simp only [State.plainWrite, hf, List.foldl_cons, List.foldl_nil, bits_allOnes _ _ hlen, ne_eq, not_true_eq_false,
    if_false, hacc, if_neg hv]

end PlainWrite

/-! ### Frames of what a register write leaves -/

/-- Registers and the control die's own state are all that differ where nothing else was replaced. -/
theorem only_regs_ctl (s : State) (regs : List (Nat × Word)) (causesNow : List (Nat × Nat)) (ctl : Ctl) :
    Only [.regs, .ctl] s { s with regs := regs, causesNow := causesNow, ctl := ctl } := by
  intro p hp
  cases p with
  | regs => exact absurd hp (by decide)
  | ctl => exact absurd hp (by decide)
  | slices => exact fun _ => .inl rfl
  | _ => rfl

theorem only_regs (s : State) (regs : List (Nat × Word)) (causesNow : List (Nat × Nat)) :
    Only [.regs] s { s with regs := regs, causesNow := causesNow } := by
  intro p hp
  cases p with
  | regs => exact absurd hp (by decide)
  | slices => exact fun _ => .inl rfl
  | _ => rfl

theorem only_setReg (s : State) (o : Nat) (v : Word) : Only [.regs] s (s.setReg o v) := only_regs s _ _

theorem only_cause (s : State) (page i : Nat) : Only [.regs] s (s.cause page i) := only_regs s _ _

/-- A meaning that a command reaches answers its settled state. -/
theorem answers_done {c : Instr} {s u : State} {P : State → Prop} (h : exec c s = done u)
    (hP : P (settle u.slicesReady)) : Answers c s P := ⟨_, h, hP⟩

@[simp] theorem reg_done (u : State) (o : Nat) : (settle u.slicesReady).reg o = u.reg o := by
  rw [settle_reg, slicesReady_reg]

/-- The causes a meaning has set stand after it. -/
theorem causes_done {s u : State} {page : Nat} {l : List Nat} (h : Causes s u page l) :
    Causes s (settle u.slicesReady) page l := (reg_done u _).trans h

/-- What a meaning that stores one register leaves. -/
theorem setReg_done (s : State) (o : Nat) (v : Word) (h : s.RegsWf) :
    Only [.regs] s (settle (s.setReg o v).slicesReady) ∧ RegsBut [o] s (settle (s.setReg o v).slicesReady) ∧
      (settle (s.setReg o v).slicesReady).reg o = v :=
  ⟨only_done _ _ _ (only_setReg s o v) (fun _ => rfl), regsBut_done _ _ _ (regsBut_setReg _ s o v (by simp)),
    (reg_done _ _).trans (reg_setReg_same s o v h)⟩

/-- What a meaning that stores one field leaves. -/
theorem setFld_done (s : State) (o lo len x : Nat) (h : s.RegsWf) (hlen : lo + len ≤ 32) :
    Only [.regs] s (settle (s.setFld o lo len x).slicesReady) ∧
      RegsBut [o] s (settle (s.setFld o lo len x).slicesReady) ∧
      (settle (s.setFld o lo len x).slicesReady).fld o lo len = x % 2 ^ len := by
  obtain ⟨honly, hregs, hval⟩ := setReg_done s o (putBits (s.reg o) lo len x) h
  refine ⟨honly, hregs, ?_⟩
  rw [State.fld]
  exact (congrArg (fun w : Word => bits w.toNat lo len) hval).trans (bits_putBits_same _ _ _ _ hlen)

/-- What a meaning that sets one cause leaves. -/
theorem cause_done (s : State) (page i : Nat) (h : s.RegsWf) :
    Only [.regs] s (settle (s.cause page i).slicesReady) ∧
      RegsBut [at_ page 8] s (settle (s.cause page i).slicesReady) ∧
      Causes s (settle (s.cause page i).slicesReady) page [i] :=
  ⟨only_done _ _ _ (only_cause s page i) (fun _ => rfl), regsBut_done _ _ _ (regsBut_cause _ s page i (by simp)),
    causes_done (reg_cause_same s page i h)⟩

/-! ### Accesses of wrong size -/

/-- The state after an access of wrong size that is recorded (spec/15_register_map.md R402). -/
def State.accSizeRecorded (s : State) (info : Nat) : State :=
  ((s.setReg (at_ 0 0x12C) (BitVec.ofNat 32 info)).cause 0 1).modCtl (fun x => { x with accSizeSeen := true })

theorem accSize_seen (s : State) (src : Source) (ofs size : Nat) (write : Bool) (h : s.ctl.accSizeSeen = true) :
    s.accSize src ofs size write = s := if_pos h

/-- The first access of wrong size is recorded, with the code of its source. -/
theorem accSize_first (s : State) (src : Source) (ofs size : Nat) (write : Bool) (hw : ∀ i : SliceId, src ≠ .win i)
    (h : s.ctl.accSizeSeen = false) :
    s.accSize src ofs size write =
      s.accSizeRecorded (ofs % 2 ^ 21 + srcCode src * 2 ^ 22 + min size 15 * 2 ^ 24 + b2n write * 2 ^ 28) := by
  have hne : ¬ s.ctl.accSizeSeen = true := by simp [h]
  cases src with
  | win i => exact absurd rfl (hw i)
  | _ => exact if_neg hne

/-- An access of wrong size leaves the state as it was, where one has been seen, or recorded. -/
theorem accSize_cases (s : State) (src : Source) (ofs size : Nat) (write : Bool) :
    (s.ctl.accSizeSeen = true ∧ s.accSize src ofs size write = s) ∨
      (s.ctl.accSizeSeen = false ∧ ∃ info, s.accSize src ofs size write = s.accSizeRecorded info) := by
  cases h : s.ctl.accSizeSeen with
  | true => exact .inl ⟨rfl, accSize_seen s src ofs size write h⟩
  | false => exact .inr ⟨rfl, _, if_neg (by simp [h])⟩

theorem accSize_ctl (s : State) (src : Source) (ofs size : Nat) (write : Bool) :
    (s.accSize src ofs size write).ctl = { s.ctl with accSizeSeen := true } := by
  obtain ⟨h, e⟩ | ⟨-, info, e⟩ := accSize_cases s src ofs size write
  · rw [e, ← h]
  · rw [e]
    rfl

theorem only_accSize (s : State) (src : Source) (ofs size : Nat) (write : Bool) :
    Only [.regs, .ctl] s (s.accSize src ofs size write) := by
  obtain ⟨-, e⟩ | ⟨-, info, e⟩ := accSize_cases s src ofs size write
  · exact e.symm ▸ only_refl _ _
  · exact e.symm ▸ only_regs_ctl s _ _ _

theorem accSize_slices (s : State) (src : Source) (ofs size : Nat) (write : Bool) :
    (s.accSize src ofs size write).slices = s.slices := by
  obtain ⟨-, e⟩ | ⟨-, info, e⟩ := accSize_cases s src ofs size write
  · rw [e]
  · rw [e]
    rfl

theorem regsBut_accSize (s : State) (src : Source) (ofs size : Nat) (write : Bool) :
    RegsBut [at_ 0 8, at_ 0 0x12C] s (s.accSize src ofs size write) := by
  obtain ⟨-, e⟩ | ⟨-, info, e⟩ := accSize_cases s src ofs size write
  · exact e.symm ▸ regsBut_refl _ _
  · have hinfo := regsBut_setReg [at_ 0 8, at_ 0 0x12C] s (at_ 0 0x12C) (BitVec.ofNat 32 info) (by simp)
    exact e.symm ▸ regsBut_trans hinfo (regsBut_cause _ _ 0 1 (by simp))

/-- ACC_SIZE_INFO of a recorded access. -/
theorem reg_accSizeRecorded_info (s : State) (info : Nat) (h : s.RegsWf) :
    (s.accSizeRecorded info).reg (at_ 0 0x12C) = BitVec.ofNat 32 info :=
  (reg_cause_other _ 0 1 _ (by decide)).trans (reg_setReg_same s _ _ h)

/-- A recorded access sets ACC_SIZE and no other cause. -/
theorem causes_accSizeRecorded (s : State) (info : Nat) (h : s.RegsWf) : Causes s (s.accSizeRecorded info) 0 [1] := by
  have hset := reg_cause_same _ 0 1 (setReg_wf s (at_ 0 0x12C) (BitVec.ofNat 32 info) h)
  rw [reg_setReg_other s _ _ _ (by decide)] at hset
  exact hset

/-! ### The way of a write to its register -/

theorem exec_mmioWrite (src : Source) (ofs size : Nat) (v : BitVec 64) (pe : Bool) (s : State) :
    exec (.mmioWrite src ofs size v pe) s = execMmioWrite src ofs size v pe s := rfl

/-- A write that does not reach the registers changes nothing. -/
theorem exec_mmioWrite_unreached (src : Source) (ofs size : Nat) (v : BitVec 64) (pe : Bool) (s : State)
    (h : s.reaches src = false) : exec (.mmioWrite src ofs size v pe) s = done s :=
  (exec_mmioWrite src ofs size v pe s).trans (congrArg done (if_pos (by simp [h])))

/-- A write that does is a write of BAR0, but through a slice window. -/
theorem exec_mmioWrite_bar0 (src : Source) (ofs size : Nat) (v : BitVec 64) (pe : Bool) (s : State)
    (hw : ∀ i : SliceId, src ≠ .win i) (h : s.reaches src = true) :
    exec (.mmioWrite src ofs size v pe) s = done (s.bar0Write src ofs size v pe) := by
  cases src with
  | win i => exact absurd rfl (hw i)
  | _ => exact (exec_mmioWrite _ ofs size v pe s).trans (congrArg done (if_neg (by simp [h])))

theorem bar0Write_wrongSize (s : State) (src : Source) (ofs size : Nat) (v : BitVec 64) (pe : Bool)
    (hh : s.held = false) (hp : inPush ofs = false) (hz : sizeOk ofs size = false) :
    s.bar0Write src ofs size v pe = s.accSize src ofs size true := by
  simp [State.bar0Write, hh, hp, hz]

theorem at_div (page o : Nat) (h : o < 4096) : at_ page o / 4096 = page := by unfold at_; omega

theorem at_mod (page o : Nat) (h : o < 4096) : at_ page o % 4096 = o := by unfold at_; omega

/-- A dword write outside the push windows passes the gate of its register. -/
theorem bar0Write_dword (s : State) (src : Source) (page o : Nat) (v : BitVec 64) (hh : s.held = false)
    (ho : o < 4096) (ha : o % 4 = 0) (hp : blockOf page = .qp → o < 0x800) :
    s.bar0Write src (at_ page o) 4 v false =
      s.gateIn src page o (fun t => t.regWrite src page o (v.setWidth 32)) := by
  have hpush : inPush (at_ page o) = false := by
    simpa [inPush, at_div page o ho, at_mod page o ho] using hp
  have hsize : sizeOk (at_ page o) 4 = true := by
    have : at_ page o % 4 = 0 := by unfold at_; omega
    simp [sizeOk, this]
  simp [State.bar0Write, hh, hpush, hsize, dwordsOf, dwordVals, State.write32, at_div page o ho, at_mod page o ho]

/-- A dword write that takes effect does what its register does. -/
theorem exec_mmioWrite_takes (src : Source) (page o : Nat) (v : BitVec 64) (s : State)
    (hw : ∀ i : SliceId, src ≠ .win i) (ht : s.Takes src page o) (ho : o < 4096) (ha : o % 4 = 0)
    (hp : blockOf page = .qp → o < 0x800) :
    exec (.mmioWrite src (at_ page o) 4 v false) s = done (s.regWrite src page o (v.setWidth 32)) := by
  have hgate := gate_takes s src page o (fun t => t.regWrite src page o (v.setWidth 32)) ht
  obtain ⟨hr, hh, -, -⟩ := ht
  rw [State.gate, if_pos hr] at hgate
  rw [exec_mmioWrite_bar0 src _ 4 v false s hw hr, bar0Write_dword s src page o v hh ho ha hp, hgate]

/-! ### What the registers of this family do -/

/-- An unassigned page ignores a write (spec/15_register_map.md R393). -/
theorem regWrite_absent (s : State) (src : Source) (page o : Nat) (v : Word) (h : blockOf page = .absent) :
    s.regWrite src page o v = s := by
  have h4 : page ≠ 4 := fun e => absurd (e ▸ h) (by decide)
  simp [State.regWrite, State.coreWrite, h, h4]

theorem regWrite_cause (s : State) (src : Source) (page : Nat) (v : Word) (h : blockOf page ≠ .absent) :
    s.regWrite src page 8 v = s.causeWrite page (v &&& causeMask page) := by
  simp [State.regWrite, State.coreWrite, h]

theorem regWrite_causeEn (s : State) (src : Source) (page : Nat) (v : Word) (h : blockOf page ≠ .absent) :
    s.regWrite src page 0xC v = s.setReg (at_ page 0xC) (v &&& causeMask page) := by
  simp [State.regWrite, State.coreWrite, h, State.causeEnWrite]

theorem regWrite_intsumEn (s : State) (src : Source) (v : Word) :
    s.regWrite src 0 0x110 v = s.setFld (at_ 0 0x110) 0 18 (bits v.toNat 0 18) := by
  have hlt := bits_lt v.toNat 0 18
  exact plainWrite_legal s 0 0x110 v (Fld.rw 0 18 0) rfl rfl (by decide) ⟨Nat.zero_le _, Nat.le_pred_of_lt hlt⟩

theorem regWrite_fwArg0 (s : State) (src : Source) (v : Word) :
    s.regWrite src 4 0x104 v = s.setFld (at_ 4 0x104) 0 32 (bits v.toNat 0 32) := by
  have hlt := bits_lt v.toNat 0 32
  exact plainWrite_legal s 4 0x104 v (Fld.rw 0 32 0) rfl rfl (by decide) ⟨Nat.zero_le _, Nat.le_pred_of_lt hlt⟩

/-- The CAUSE bits a write of CAUSE clears: not one set in the same cycle, nor FATAL before a hot reset has run
(spec/14_attention_and_errors.md R379, R388). -/
def State.causeClears (s : State) (page : Nat) (v : Word) : Word :=
  v &&& ~~~s.causedNow page &&&
    (if page = 0 ∧ s.ctl.fatalReset = false then ~~~0x100#32 else BitVec.allOnes 32)

/-- The rule on FATAL touches no other bit. -/
theorem getLsbD_causeClears (s : State) (page : Nat) (v : Word) (i : Nat) (hi : i < 8) :
    (s.causeClears page v).getLsbD i = (v &&& ~~~s.causedNow page).getLsbD i := by
  have hfatal : ∀ j : Fin 8, (~~~0x100#32).getLsbD j.val = true := by decide
  have hall : (BitVec.allOnes 32).getLsbD i = true := by
    rw [BitVec.getLsbD_allOnes, decide_eq_true_iff]
    omega
  rw [State.causeClears, BitVec.getLsbD_and, apply_ite (BitVec.getLsbD · i), hfatal ⟨i, hi⟩, hall, ite_self, Bool.and_true]

/-- GLOBAL defines bits 0 to 7 of CAUSE (spec/15_register_map.md R402). -/
theorem getLsbD_causeClears_global (s : State) (v : Word) (i : Nat) (hi : i < 8) :
    (s.causeClears 0 (v &&& causeMask 0)).getLsbD i = (v &&& ~~~s.causedNow 0).getLsbD i := by
  have hmask : ∀ j : Fin 8, (causeMask 0).getLsbD j.val = true := by decide
  rw [getLsbD_causeClears s 0 _ i hi, BitVec.getLsbD_and, BitVec.getLsbD_and, BitVec.getLsbD_and,
    hmask ⟨i, hi⟩, Bool.and_true]

/-- The model's two steps mask these bits. -/
theorem causeClears_eq (s : State) (page : Nat) (v : Word) :
    (if page = 0 ∧ !s.ctl.fatalReset then v &&& ~~~s.causedNow page &&& ~~~(0x100#32) else v &&& ~~~s.causedNow page) =
      s.causeClears page v := by
  unfold State.causeClears
  by_cases h : page = 0 ∧ s.ctl.fatalReset = false
  · rw [if_pos h, if_pos (by simpa using h)]
  · rw [if_neg h, if_neg (by simpa using h), BitVec.and_allOnes]

theorem causeWrite_page (s : State) (page : Nat) (v : Word) (h : page ≠ 0) :
    s.causeWrite page v = s.setReg (at_ page 8) (s.reg (at_ page 8) &&& ~~~s.causeClears page v) := by
  dsimp only [State.causeWrite]
  rw [causeClears_eq, if_neg h]

/-- On GLOBAL the next access of wrong size, or to an off block, is recorded again (spec/15_register_map.md R402). -/
theorem causeWrite_global (s : State) (v : Word) :
    s.causeWrite 0 v = (s.setReg (at_ 0 8) (s.reg (at_ 0 8) &&& ~~~s.causeClears 0 v)).modCtl (fun x => { x with
      accSizeSeen := x.accSizeSeen && !(s.causeClears 0 v).getLsbD 1
      accOffSeen := x.accOffSeen && !(s.causeClears 0 v).getLsbD 2 }) := by
  dsimp only [State.causeWrite]
  rw [causeClears_eq, if_pos rfl]

theorem blockOf_huskPage : ∀ n : PortId, blockOf (huskPage n) = .husk := by decide

theorem instOf_huskPage : ∀ n : PortId, instOf (huskPage n) = n.val := by decide

/-- PLIM is a plain setting, written while the region link is up (spec/07_husk_power_path.md R247). -/
theorem regWrite_plim (s : State) (src : Source) (n : PortId) (v : Word) (h : s.linkDown (regionOf n) = false) :
    s.regWrite src (huskPage n) 0x108 v = s.plainWrite (huskPage n) 0x108 (2 ^ 32 - 1) v := by
  have h4 : huskPage n ≠ 4 := by unfold huskPage; omega
  simp [State.regWrite, State.coreWrite, h4, blockOf_huskPage, instOf_huskPage, State.huskWrite, State.setting, h]

theorem fieldsAt_plim (n : PortId) : fieldsAt (huskPage n) 0x108 = [Fld.rng 0 6 20 5 50] := by
  simp [fieldsAt, blockOf_huskPage, huskFields]

theorem cfgBadBit_huskPage (n : PortId) : cfgBadBit (huskPage n) = 0 := by simp [cfgBadBit, blockOf_huskPage]

/-! ### The clauses of the statement -/

/-- A write of wrong size is dropped; the first one is recorded. -/
theorem mmioWrite_wrongSize (src : Source) (ofs size : Nat) (v : BitVec 64) (pe : Bool) (s : State)
    (hw : ∀ i : SliceId, src ≠ .win i) (hh : s.held = false) (hp : inPush ofs = false) (hz : sizeOk ofs size = false) :
    Answers (.mmioWrite src ofs size v pe) s fun t =>
      Only [.regs, .ctl] s t ∧ RegsBut [at_ 0 8, at_ 0 0x12C] s t ∧
      (s.reaches src = true → t.ctl = { s.ctl with accSizeSeen := true }) ∧
        (s.ctl.accSizeSeen = true → t.regs = s.regs) ∧
      (s.reaches src = false → t.regs = s.regs ∧ t.ctl = s.ctl) ∧
      (s.Canonical → s.reaches src = true → s.ctl.accSizeSeen = false → Causes s t 0 [1] ∧
        t.reg (at_ 0 0x12C) =
          BitVec.ofNat 32 (ofs % 2 ^ 21 + srcCode src * 2 ^ 22 + min size 15 * 2 ^ 24 + 2 ^ 28)) := by
  cases hr : s.reaches src with
  | false =>
    refine answers_done (exec_mmioWrite_unreached src ofs size v pe s hr)
      ⟨only_done _ _ _ (only_refl _ s) (fun _ => rfl), regsBut_done _ _ _ (regsBut_refl _ s), nofun, ?_, ?_, nofun⟩
    · simp
    · simp
  | true =>
    have hexec := exec_mmioWrite_bar0 src ofs size v pe s hw hr
    rw [bar0Write_wrongSize s src ofs size v pe hh hp hz] at hexec
    refine answers_done hexec ⟨only_done _ _ _ (only_accSize s src ofs size true) (fun _ => accSize_slices ..),
      regsBut_done _ _ _ (regsBut_accSize s src ofs size true), fun _ => ?_, fun hseen => ?_, nofun,
      fun hc _ hseen => ?_⟩
    · rw [settle_ctl, slicesReady_ctl, accSize_ctl]
    · rw [settle_regs, slicesReady_regs, accSize_seen s src ofs size true hseen]
    · rw [accSize_first s src ofs size true hw hseen]
      exact ⟨causes_done (causes_accSizeRecorded s _ hc.regs),
        (reg_done _ _).trans (reg_accSizeRecorded_info s _ hc.regs)⟩

/-- A write of CAUSE clears the bits written 1. -/
theorem mmioWrite_cause (src : Source) (page : Nat) (v : BitVec 64) (s : State) (hw : ∀ i : SliceId, src ≠ .win i)
    (hc : s.Canonical) (ht : s.Takes src page 8) :
    Answers (.mmioWrite src (at_ page 8) 4 v false) s fun t =>
      Only [.regs, .ctl] s t ∧ RegsBut [at_ page 8] s t ∧
      t.reg (at_ page 8) = s.reg (at_ page 8) &&& ~~~s.causeClears page (v.setWidth 32 &&& causeMask page) ∧
      (page ≠ 0 → t.ctl = s.ctl) ∧
      (page = 0 → t.ctl = { s.ctl with
        accSizeSeen := s.ctl.accSizeSeen && !((v.setWidth 32 &&& ~~~(s.causedNow 0)).getLsbD 1)
        accOffSeen := s.ctl.accOffSeen && !((v.setWidth 32 &&& ~~~(s.causedNow 0)).getLsbD 2) }) := by
  have hexec := exec_mmioWrite_takes src page 8 v s hw ht (by decide) (by decide) (fun _ => by decide)
  by_cases habs : blockOf page = .absent
  · have hpage : page ≠ 0 := fun e => absurd (e ▸ habs) (by decide)
    have hmask : causeMask page = 0 := by rw [causeMask, habs]
    rw [regWrite_absent s src page 8 _ habs] at hexec
    refine answers_done hexec ⟨only_done _ _ _ (only_refl _ s) (fun _ => rfl), regsBut_done _ _ _ (regsBut_refl _ s),
      ?_, fun _ => ?_, fun e => absurd e hpage⟩
    · rw [reg_done, hmask, State.causeClears]
      simp only [BitVec.ofNat_eq_ofNat, BitVec.and_zero, BitVec.zero_and, BitVec.not_zero, BitVec.and_allOnes]
    · rw [settle_ctl, slicesReady_ctl]
  rw [regWrite_cause s src page _ habs] at hexec
  by_cases hpage : page = 0
  · subst hpage
    rw [causeWrite_global] at hexec
    refine answers_done hexec ⟨only_done _ _ _ (only_regs_ctl s _ _ _) (fun _ => rfl),
      regsBut_done _ _ _ (regsBut_setReg _ s _ _ (by simp)),
      (reg_done _ _).trans (reg_setReg_same s _ _ hc.regs), fun h => absurd rfl h, fun _ => ?_⟩
    rw [settle_ctl, slicesReady_ctl, ← getLsbD_causeClears_global s _ 1 (by decide),
      ← getLsbD_causeClears_global s _ 2 (by decide)]
    rfl
  · rw [causeWrite_page s page _ hpage] at hexec
    obtain ⟨honly, hregs, hval⟩ := setReg_done s (at_ page 8)
      (s.reg (at_ page 8) &&& ~~~s.causeClears page (v.setWidth 32 &&& causeMask page)) hc.regs
    refine answers_done hexec ⟨only_mono honly (by simp), hregs, hval, fun _ => ?_, fun e => absurd e hpage⟩
    rw [settle_ctl, slicesReady_ctl, setReg_ctl]

/-- A write of CAUSE_EN takes the bits the page defines. -/
theorem mmioWrite_causeEn (src : Source) (page : Nat) (v : BitVec 64) (s : State) (hw : ∀ i : SliceId, src ≠ .win i)
    (hc : s.Canonical) (ht : s.Takes src page 0xC) (habs : blockOf page ≠ .absent) :
    Answers (.mmioWrite src (at_ page 0xC) 4 v false) s fun t =>
      Only [.regs] s t ∧ RegsBut [at_ page 0xC] s t ∧ t.reg (at_ page 0xC) = v.setWidth 32 &&& causeMask page := by
  have hexec := exec_mmioWrite_takes src page 0xC v s hw ht (by decide) (by decide) (fun _ => by decide)
  rw [regWrite_causeEn s src page _ habs] at hexec
  exact answers_done hexec (setReg_done s _ _ hc.regs)

/-- A write whose whole effect is one field stored. -/
theorem mmioWrite_field (src : Source) (page o lo len : Nat) (v : BitVec 64) (s : State)
    (hw : ∀ i : SliceId, src ≠ .win i) (hc : s.Canonical) (ht : s.Takes src page o) (ho : o < 0x800) (ha : o % 4 = 0)
    (hlen : lo + len ≤ 32) (hreg : s.regWrite src page o (v.setWidth 32) =
      s.setFld (at_ page o) lo len (bits (v.setWidth 32).toNat lo len)) :
    Answers (.mmioWrite src (at_ page o) 4 v false) s fun t =>
      Only [.regs] s t ∧ RegsBut [at_ page o] s t ∧ t.fld (at_ page o) lo len = bits v.toNat lo len := by
  have hexec := exec_mmioWrite_takes src page o v s hw ht (by omega) ha (fun _ => ho)
  rw [hreg, bits_setWidth v lo len hlen] at hexec
  obtain ⟨honly, hregs, hval⟩ := setFld_done s (at_ page o) lo len (bits v.toNat lo len) hc.regs hlen
  rw [Nat.mod_eq_of_lt (bits_lt _ _ _)] at hval
  exact answers_done hexec ⟨honly, hregs, hval⟩

/-- A write of INTSUM_EN stores its 18 bits (spec/15_register_map.md R402). -/
theorem mmioWrite_intsumEn (src : Source) (v : BitVec 64) (s : State) (hw : ∀ i : SliceId, src ≠ .win i)
    (hc : s.Canonical) (ht : s.Takes src 0 0x110) :
    Answers (.mmioWrite src (at_ 0 0x110) 4 v false) s fun t =>
      Only [.regs] s t ∧ RegsBut [at_ 0 0x110] s t ∧ t.fld (at_ 0 0x110) 0 18 = bits v.toNat 0 18 :=
  mmioWrite_field src 0 0x110 0 18 v s hw hc ht (by decide) (by decide) (by decide) (regWrite_intsumEn s src _)

/-- A write of FW.ARG0 stores the dword. -/
theorem mmioWrite_fwArg0 (src : Source) (v : BitVec 64) (s : State) (hw : ∀ i : SliceId, src ≠ .win i)
    (hc : s.Canonical) (ht : s.Takes src 4 0x104) :
    Answers (.mmioWrite src (at_ 4 0x104) 4 v false) s fun t =>
      Only [.regs] s t ∧ RegsBut [at_ 4 0x104] s t ∧ t.reg (at_ 4 0x104) = v.setWidth 32 := by
  obtain ⟨t, hexec, honly, hregs, hfld⟩ := mmioWrite_field src 4 0x104 0 32 v s hw hc ht (by decide) (by decide)
    (by decide) (regWrite_fwArg0 s src _)
  refine ⟨t, hexec, honly, hregs, BitVec.eq_of_toNat_eq ?_⟩
  rw [State.fld, bits_word, ← bits_setWidth v 0 32 (by decide), bits_word] at hfld
  exact hfld

/-- A write of PLIM stores a legal value and refuses an illegal one (spec/07_husk_power_path.md R247). -/
theorem mmioWrite_plim (src : Source) (n : PortId) (v : BitVec 64) (s : State) (hw : ∀ i : SliceId, src ≠ .win i)
    (hc : s.Canonical) (ht : s.Takes src (huskPage n) 0x108) (hlink : s.linkDown (regionOf n) = false) :
    Answers (.mmioWrite src (at_ (huskPage n) 0x108) 4 v false) s fun t =>
      Only [.regs] s t ∧
      (5 ≤ bits v.toNat 0 6 ∧ bits v.toNat 0 6 ≤ 50 →
        RegsBut [at_ (huskPage n) 0x108] s t ∧ t.fld (at_ (huskPage n) 0x108) 0 6 = bits v.toNat 0 6) ∧
      (¬ (5 ≤ bits v.toNat 0 6 ∧ bits v.toNat 0 6 ≤ 50) →
        RegsBut [at_ (huskPage n) 8] s t ∧ Causes s t (huskPage n) [0]) := by
  have hreg := regWrite_plim s src n (v.setWidth 32) hlink
  have hval := bits_setWidth v 0 6 (by decide)
  by_cases hlegal : 5 ≤ bits v.toNat 0 6 ∧ bits v.toNat 0 6 ≤ 50
  · rw [plainWrite_legal s _ _ _ _ (fieldsAt_plim n) rfl (by decide) (hval ▸ hlegal)] at hreg
    obtain ⟨t, hexec, honly, hregs, hfld⟩ := mmioWrite_field src _ 0x108 0 6 v s hw hc ht (by decide) (by decide)
      (by decide) hreg
    exact ⟨t, hexec, honly, fun _ => ⟨hregs, hfld⟩, fun h => absurd hlegal h⟩
  · rw [plainWrite_illegal s _ _ _ _ (fieldsAt_plim n) rfl (by decide) (hval ▸ hlegal), cfgBadBit_huskPage] at hreg
    have hexec := exec_mmioWrite_takes src _ 0x108 v s hw ht (by decide) (by decide) (fun _ => by decide)
    rw [hreg] at hexec
    obtain ⟨honly, hregs, hcause⟩ := cause_done s (huskPage n) 0 hc.regs
    exact answers_done hexec ⟨honly, fun h => absurd h hlegal, fun _ => ⟨hregs, hcause⟩⟩

/-- Settles O10, clause by clause: a write of wrong size is accSize, and a dword write that takes effect is the write
of its register, which stores one register, one field or one cause. -/
theorem mmioWriteRules : Obligations.MmioWriteRules := by
  unfold Obligations.MmioWriteRules
  exact ⟨mmioWrite_wrongSize, mmioWrite_cause, mmioWrite_causeEn, mmioWrite_intsumEn, mmioWrite_fwArg0,
    mmioWrite_plim⟩

end Sys2Proof.Machine
end
